-- ==== Sys2Proof/Word.lean ====
section
/-! DEFINITION. The words the part's manual counts in, their byte layouts (R211) and saturating counters (section 5.3 of the introduction). -/

namespace Sys2Proof

/-- A byte of a frame, a register value, a register index, an address. -/
abbrev Byte := BitVec 8
/-- A two-byte field or a 16-bit counter. -/
abbrev Half := BitVec 16
/-- A four-byte field, a 32-bit counter, a value of the millisecond count. -/
abbrev Word := BitVec 32

/-- One saturating increment: a counter at its limit stays there (section 5.3). -/
def satInc {w : Nat} (x : BitVec w) : BitVec w :=
  if x = BitVec.allOnes w then x else x + 1

/-- The byte of a flag or a yes/no field. -/
def boolByte (b : Bool) : Byte := if b then 1 else 0

/-- The number `n` as one byte. -/
def byte (n : Nat) : Byte := BitVec.ofNat 8 n

/-- A two-byte field, most significant byte first (R211). -/
def be16 (x : Half) : List Byte := [x.extractLsb' 8 8, x.extractLsb' 0 8]

/-- A four-byte field, most significant byte first (R211). -/
def be32 (x : Word) : List Byte :=
  [x.extractLsb' 24 8, x.extractLsb' 16 8, x.extractLsb' 8 8, x.extractLsb' 0 8]

/-- The two-byte field whose bytes are `a`, `b` in the order sent (R211). -/
def ofBe16 (a b : Byte) : Half := a ++ b

/-- The four-byte field whose bytes are `a`, `b`, `c`, `d` in the order sent (R211). -/
def ofBe32 (a b c d : Byte) : Word := a ++ b ++ (c ++ d)

end Sys2Proof
end

