-- ==== Sys2Proof/Config.lean ====
section
/-! DEFINITION. What the part fixes once: its sizes and its times, in sample periods of 4 ns (section 5 of the introduction); and the free values of the lines LSCK and LDAT, which have no body (log entry 35). -/

namespace Sys2Proof.Config

/-- Sample periods in one microsecond (250 MS/s). -/
def samplesPerMicrosecond : Nat := 250
/-- Sample periods in one tick of the millisecond count (R203). -/
def samplesPerMillisecond : Nat := 250000
/-- The insertion timer's 10 ms (R2). -/
def insertionTime : Nat := 2500000
/-- RAMPING lasts 2 ms (section 1.4). -/
def rampTime : Nat := 500000
/-- SETTLING lasts 200 µs (section 1.4, R5). -/
def settleTime : Nat := 50000
/-- STOPPING towards ISOLATED lasts 10 µs (section 1.4). -/
def stopToIsolatedTime : Nat := 2500
/-- STOPPING towards OFF lasts 1 ms (section 1.4). -/
def stopToOffTime : Nat := 250000
/-- Both TWO_WIRE lines high for 50 µs are idle (R80). -/
def twoWireIdleTime : Nat := 12500
/-- A measurement of this many sample periods is in overrange (R111). -/
def overrangeTime : Nat := 4294967296
/-- The wait timer's 20 ms (R184). -/
def panelWaitTime : Nat := 5000000
/-- A burst is 648 bit periods long (R182). -/
def burstBits : Nat := 648
/-- Cells of the pool (R26). -/
def poolCells : Nat := 1024
/-- Cells of one record at most (R26). -/
def recordCells : Nat := 32
/-- Values staged in one transaction at most (R63). -/
def stagedValues : Nat := 32
/-- The observed count stops here (R63). -/
def observedLimit : Nat := 65535
/-- The highest threshold code (section 5.6). -/
def maxThreshold : Nat := 132
/-- The threshold code after a full reset (R21). -/
def resetThreshold : Byte := 54

/-! ### Free values (log entry 35)

R179 holds LSCK and LDAT at their idle levels outside a burst, and R182 gives a bit one period of LSCK. The spec gives neither the levels nor the shape of that period. Its parts are counted in 250ths of the period, of which one sample period holds as many as the rate has MHz. -/

/-- The idle level of LSCK: a free value (R179). -/
opaque lsckIdle : Bool
/-- The idle level of LDAT: a free value (R179). -/
opaque ldatIdle : Bool
/-- By how much LSCK is away from its idle level for longer than one sample period in a bit period, in 250ths of it, for a rate in MHz: a free value that leaves LSCK one sample period at its idle level (R182). -/
opaque lsckSlack (mhz : Nat) : Fin (250 - 2 * mhz + 1)
/-- Where in a bit period LSCK leaves its idle level, in 250ths of it, for a rate in MHz: a free value that lets it come back within the period (R182). -/
opaque lsckStart (mhz : Nat) : Fin (250 - (mhz + (lsckSlack mhz).val) + 1)

end Sys2Proof.Config
end

