-- ==== Sys2Proof/Syntax.lean ====
section
/-! DEFINITION. The commands of the part: one constructor per row of spec/opcode_table.json. The operands of a request are its parameter bytes (R213), so that every refusal can be written; the operands of an event are what the event brings from outside. -/

namespace Sys2Proof

/-- A handle as a frame carries it: the generation, then the slot (section 5.4, R211). -/
structure Handle where
  gen  : Byte
  slot : Byte
deriving DecidableEq, Repr

/-- The 15-byte meter configuration of MTR_CONFIG (R217), field by field as sent. -/
structure MeterBytes where
  mode          : Byte
  channelA      : Byte
  channelB      : Byte
  startEdge     : Byte
  stopEdge      : Byte
  startSource   : Byte
  sourceDecoder : Byte
  sourceAddress : Half
  gate          : Byte
  window        : Word
  singleShot    : Byte
deriving DecidableEq, Repr

/-- The four subject bytes of WCH_SET (R217). -/
structure SubjectBytes where
  kind   : Byte
  number : Half
  field  : Byte
deriving DecidableEq, Repr

/-- The nine condition bytes of WCH_SET (R217). -/
structure ConditionBytes where
  code   : Byte
  first  : Word
  second : Word
deriving DecidableEq, Repr

/-- The four subject-name bytes of PANE_SET (R217). -/
structure NameBytes where
  n0 : Byte
  n1 : Byte
  n2 : Byte
  n3 : Byte
deriving DecidableEq, Repr

/-- A taker of accepted edges: a decoder or a meter (R18). -/
inductive Taker where
  | decoder (d : Fin 6)
  | meter (m : Fin 8)
deriving DecidableEq, Repr

/-- A block that gives its items of DEV_STATUS in one operation of its own (R205). -/
inductive StatusOwner where
  | timeBase | watchUnit | podController | decoderBank | meterArray | panelLink | targetStore
deriving DecidableEq, Repr

/-- The four lines of the command port that come from outside, at one moment (R191): SEL is active, the levels of SCK and SDI, and RESET is held low. -/
structure SerialLines where
  sel   : Bool
  sck   : Bool
  sdi   : Bool
  reset : Bool
deriving DecidableEq, Repr

/-- The commands. The docstring of each names its row and rule. -/
inductive Instr where
  /-- FULL_RESET (R21, R209): with no sense lines RESET goes low and the full reset holds; with them it ends, and they are the sense lines as they then stand (bit n: pod n present). -/
  | fullReset (sense : Option (BitVec 4))
  /-- REQUEST_FRAME (R195): the lines from before SEL goes active until after it goes inactive, one entry for each change of a line (R191). -/
  | requestFrame (wave : List SerialLines)
  /-- READ_FRAME (R198): the lines of the frame, as REQUEST_FRAME gives them. -/
  | readFrame (wave : List SerialLines)
  /-- ANSWER (R196). -/
  | answer
  /-- DEV_IDENT (R204). -/
  | devIdent
  /-- DEV_STATUS (R205): the owners give their items at this moment, but for those that `later` names, which give them at a later DEV_STATUS of the same request. -/
  | devStatus (later : List StatusOwner)
  /-- DEV_RESTART (R206). -/
  | devRestart
  /-- POD_SET (R4). -/
  | podSet (pod requested code : Byte) (widths : Vector Byte 8)
  /-- POD_GO (R6). -/
  | podGo (mask : Byte)
  /-- POD_READ (R15). -/
  | podRead (pod : Byte)
  /-- INSERTION_TIMER_START (R2). -/
  | insertionTimerStart (pod : Fin 4)
  /-- INSERTION_TIMER_STOP (R2). -/
  | insertionTimerStop (pod : Fin 4)
  /-- INSERTION (R2). -/
  | insertion (pod : Fin 4)
  /-- REMOVAL (R3). -/
  | removal (pod : Fin 4)
  /-- FAULT (R11). -/
  | overcurrent (pod : Fin 4)
  /-- RAMPING_EXPIRY (R9). -/
  | rampingExpiry (pod : Fin 4)
  /-- SETTLING_EXPIRY (R9), with the pod's comparator outputs as they then stand (bit i: input i), which the pod up takes (R10). -/
  | settlingExpiry (pod : Fin 4) (levels : BitVec 8)
  /-- STOPPING_EXPIRY (R9). -/
  | stoppingExpiry (pod : Fin 4)
  /-- ACCEPTED_EDGE (R17, R18): a change on `channel` is accepted at the sample `stamp`; `also` are the other channels whose changes are accepted at that same sample; `order` names the takers that the edges reach first, in that order (R18 gives none). -/
  | acceptedEdge (channel : Fin 32) (also : List (Fin 32)) (stamp : Nat) (order : List Taker)
  /-- TWO_WIRE_IDLE_EXPIRY (R80), with the levels of the bound lines at the expiry's stamp, every edge of that stamp applied (R77). -/
  | twoWireIdleExpiry (d : Fin 6) (clock data : Bool)
  /-- ASYNC_IDLE_EXPIRY (R97), with the level of the bound line at the expiry's stamp, every edge of that stamp applied (R77). -/
  | asyncIdleExpiry (d : Fin 6) (line : Bool)
  /-- CHARACTER_JUDGED (R99), with the level of the bound line at the expiry's stamp, every edge of that stamp applied (R77). -/
  | characterJudged (d : Fin 6) (line : Bool)
  /-- BREAK_TIMEOUT (R99), with the level of the bound line at the expiry's stamp, every edge of that stamp applied (R77). -/
  | breakTimeout (d : Fin 6) (line : Bool)
  /-- IDLE_GAP_EXPIRY (R102). -/
  | idleGapExpiry (d : Fin 6)
  /-- TGT_FIND (R41). -/
  | tgtFind (decoder address : Byte)
  /-- TGT_LIST (R42). -/
  | tgtList (start filter max : Byte)
  /-- TGT_READ (R43). -/
  | tgtRead (handle : Handle) (first max clear : Byte)
  /-- TGT_DECLARE (R44). -/
  | tgtDeclare (decoder address pinned : Byte)
  /-- TGT_SETCELL (R45). -/
  | tgtSetCell (handle : Handle) (register value : Byte)
  /-- TGT_EXPECT (R46). -/
  | tgtExpect (handle : Handle) (register operation value mask : Byte)
  /-- TGT_DROPCELL (R47). -/
  | tgtDropCell (handle : Handle) (register : Byte)
  /-- TGT_PIN (R48). -/
  | tgtPin (handle : Handle) (on : Byte)
  /-- TGT_RETIRE (R49). -/
  | tgtRetire (handle : Handle) (force : Byte)
  /-- DEC_CONFIG (R67): role and channel pairs, then the parameter bytes of the named profile. -/
  | decConfig (decoder profile learn : Byte) (bindings : List (Byte × Byte)) (params : List Byte)
  /-- DEC_START (R69). -/
  | decStart (decoder : Byte)
  /-- DEC_STOP (R72). -/
  | decStop (decoder : Byte)
  /-- DEC_READ (R71). -/
  | decRead (decoder : Byte)
  /-- MTR_CONFIG (R118). -/
  | mtrConfig (meter : Byte) (config : MeterBytes)
  /-- MTR_START (R119). -/
  | mtrStart (meter : Byte)
  /-- MTR_STOP (R120). -/
  | mtrStop (meter : Byte)
  /-- MTR_READ (R122). -/
  | mtrRead (meter : Byte)
  /-- MTR_CLEAR (R121). -/
  | mtrClear (meter : Byte)
  /-- OVERRANGE (R111). -/
  | overrange (m : Fin 8)
  /-- WINDOW_EXPIRY (R112): `order` names the followers that the window end and the window open reach first, in that order (R112 gives none). -/
  | windowExpiry (m : Fin 8) (order : List (Fin 8))
  /-- WCH_SET (R135). -/
  | wchSet (watch : Byte) (subject : SubjectBytes) (condition : ConditionBytes) (level actions : Byte)
  /-- WCH_CLEAR (R137). -/
  | wchClear (watch : Byte)
  /-- WCH_READ (R137). -/
  | wchRead (watch : Byte)
  /-- NTC_READ (R141). -/
  | ntcRead
  /-- NTC_ACK_NOTICE (R142): NTC_ACK of a notice kind other than 6, with its pod mask. -/
  | ntcAckNotice (kind mask : Byte)
  /-- NTC_ACK_WATCH (R143): NTC_ACK of notice kind 6. -/
  | ntcAckWatch (watch : Byte)
  /-- NTC_LEVELS (R144). -/
  | ntcLevels (attention freeze : Byte)
  /-- HOLD (R151). -/
  | hold (on : Byte)
  /-- PANE_SET (R161), with the level of LBUSY at a test for a burst that it leads to (R181). -/
  | paneSet (pane row column width height kind : Byte) (names : NameBytes) (format : Byte) (label : List Byte) (lbusy : Bool)
  /-- PANE_CLEAR (R163), with the level of LBUSY at a test for a burst that it leads to (R181). -/
  | paneClear (pane : Byte) (lbusy : Bool)
  /-- PANE_READ (R164). -/
  | paneRead (pane : Byte)
  /-- DISP_INTERVAL (R168). -/
  | dispInterval (interval : Half)
  /-- REFRESH_TICK (R169), with the level of LBUSY at a test for a burst that it leads to (R181). -/
  | refreshTick (lbusy : Bool)
  /-- DISP_REPAINT (R187), with the level of LBUSY at a test for a burst that it leads to (R181). -/
  | dispRepaint (lbusy : Bool)
  /-- PNL_ENABLE (R185), with the level of LBUSY at a test for a burst that it leads to (R181). -/
  | pnlEnable (on rate : Byte) (lbusy : Bool)
  /-- PNL_RESTART (R186), with the level of LBUSY at a test for a burst that it leads to (R181). -/
  | pnlRestart (lbusy : Bool)
  /-- BKL_SET (R189). -/
  | bklSet (high low : Half)
  /-- LBUSY_LOW (R181). -/
  | lbusyLow
  /-- BURST_END (R182), with the level of LBUSY at a test for a burst that it leads to (R181). -/
  | burstEnd (lbusy : Bool)
  /-- WAIT_EXPIRY (R184). -/
  | waitExpiry
  /-- BACKLIGHT_PHASE_EXPIRY (R189). -/
  | backlightPhaseExpiry
  /-- MILLISECOND_TICK (R203). -/
  | millisecondTick
  /-- ASYNC_SAMPLE_POINT (R98), with the level of the bound line at the expiry's stamp, every edge of that stamp applied (R77). -/
  | asyncSamplePoint (d : Fin 6) (line : Bool)
  /-- FILTER_CANDIDATE (R17): the sample `stamp` of `channel` shows `level` and accepts no change. -/
  | filterCandidate (channel : Fin 32) (level : Bool) (stamp : Nat)
deriving DecidableEq, Repr

end Sys2Proof
end

