-- ==== Sys2Proof/Machine/State.lean ====
section
/-! DEFINITION. The state of the part: every piece of state the manual gives each of its ten blocks, as plain data, and the state after a full reset. Timers are held as the sample at which they expire (log entry 17). -/

namespace Sys2Proof.Machine

/-! ### Pod Controller (chapter 1) -/

/-- The seven pod states (section 1.1). -/
inductive PodState where
  | absent | off | ramping | settling | isolated | live | stopping
deriving DecidableEq, Repr

/-- A state that POD_SET can request (R4) and a transition can lead to (section 1.4). -/
inductive PodTarget where
  | off | isolated | live
deriving DecidableEq, Repr

/-- The stage of a transition (section 1.4). -/
inductive Stage where
  | ramping | settling | stopping
deriving DecidableEq, Repr

/-- A transition in flight (section 1.4): destination, stage, and the sample at which the stage expires. -/
structure Transition where
  dest   : PodTarget
  stage  : Stage
  endsAt : Nat
deriving DecidableEq, Repr

/-- One pod (section 1.1). `loaded` is the code whose threshold its comparators have (R1), `supply` is PSUPn, `insertion` the sample at which a running insertion timer reaches 10 ms (R2). -/
structure Pod where
  present    : Bool
  state      : PodState
  requested  : PodTarget
  code       : Byte
  loaded     : Byte
  supply     : Bool
  faultMark  : Bool
  transition : Option Transition
  insertion  : Option Nat
deriving DecidableEq, Repr

/-! ### Channel Front End (sections 1.10, R16) -/

/-- A level that has not yet held long enough, with the samples it has held after its first one (R16). -/
structure Candidate where
  level : Bool
  held  : Nat
deriving DecidableEq, Repr

/-- One channel's filter (R16). Levels are `true` for high. -/
structure Channel where
  width     : Fin 8
  accepted  : Bool
  candidate : Option Candidate
deriving DecidableEq, Repr

/-! ### Decoder Bank (chapters 3 and 4) -/

/-- The roles of the profiles (R55). -/
inductive Role where
  | clock | data | out | inp | select0 | select1 | select2 | select3 | line
deriving DecidableEq, Repr

/-- The learn modes (section 3.1). -/
inductive Learn where
  | auto | fixed
deriving DecidableEq, Repr

/-- The decoder states (section 3.3). -/
inductive DecState where
  | stopped | suspended | syncing | idle | busy
deriving DecidableEq, Repr

/-- The abort reasons (section 3.5). -/
inductive AbortReason where
  | none | unanswered | protocol | framing | parity | break | settle | pod | stop
deriving DecidableEq, Repr

/-- The ASYNC parity choices (R95). -/
inductive Parity where
  | none | even | odd
deriving DecidableEq, Repr

/-- The CLOCKED parameters (R88); each flag is the choice other than the default. -/
structure ClockedParams where
  idleHigh     : Bool
  sampleSecond : Bool
  lsbFirst     : Bool
  activeHigh   : Bool
  selectCount  : Nat
  readZero     : Bool
deriving DecidableEq, Repr

/-- The ASYNC parameters (R95). -/
structure AsyncParams where
  bitTime      : Nat
  addressBit   : Bool
  parity       : Parity
  twoStops     : Bool
  idleGap      : Nat
  inverted     : Bool
  fixedAddress : Byte
deriving DecidableEq, Repr

/-- A profile with its parameters: a decoder keeps the parameters of its present profile and no others (R54). -/
inductive Params where
  | none
  | twoWire
  | clocked (p : ClockedParams)
  | async (p : AsyncParams)
deriving DecidableEq, Repr

/-- One role joined to one channel (R55). -/
structure Binding where
  role    : Role
  channel : Fin 32
deriving DecidableEq, Repr

/-- The direction of a transaction (section 3.4). -/
inductive Direction where
  | write | read
deriving DecidableEq, Repr

/-- The ASYNC receiver while receiving (R98): the stamp of the character's start edge, and whether an edge has been taken since. -/
structure Receiver where
  start    : Nat
  edgeSeen : Bool
deriving DecidableEq, Repr

/-- The transaction in progress (section 3.4). `bits` and `inBits` are the bits of the partial byte in the order taken (for CLOCKED the OUT and the IN bits), empty when it is absent; `addressByte` says that the TWO_WIRE byte in progress is the address byte (implied by R83, log entry 16); `taking` is the value taking of R84; a receiver that is `none` is waiting. -/
structure Staging where
  address     : Option Byte
  direction   : Option Direction
  pointerSet  : Option Byte
  values      : List Byte
  observed    : Nat
  bits        : List Bool
  inBits      : List Bool
  slot        : Nat
  addressByte : Bool
  taking      : Bool
  receiver    : Option Receiver
deriving DecidableEq, Repr

/-- One decoder context (section 3.1). -/
structure Decoder where
  params    : Params
  learn     : Learn
  bindings  : List Binding
  state     : DecState
  view      : Vector Bool 9
  timer     : Option Nat
  staging   : Option Staging
  applied   : Word
  aborted   : Half
  unknown   : Half
  withheld  : Half
  ragged    : Half
  lastAbort : AbortReason
deriving DecidableEq, Repr

/-! ### Target Store (chapter 2) -/

/-- How a cell's value arrived (section 2.3). -/
inductive CellOrigin where
  | written | read | host
deriving DecidableEq, Repr

/-- The expected part of a cell (section 2.3). -/
structure Expected where
  value : Byte
  mask  : Byte
deriving DecidableEq, Repr

/-- One cell (section 2.3). -/
structure TargetCell where
  register : Byte
  value    : Option Byte
  origin   : CellOrigin
  changed  : Bool
  expected : Option Expected
deriving DecidableEq, Repr

/-- One target record (section 2.2). -/
structure Record where
  decoder       : Fin 6
  address       : Byte
  declared      : Bool
  pinned        : Bool
  pointer       : Option Byte
  cells         : List TargetCell
  access        : Half
  unanswered    : Half
  errors        : Half
  lastSeen      : Word
  withheldMark  : Bool
  withheldCount : Half
  truncated     : Bool
  references    : Nat
deriving DecidableEq, Repr

/-- One slot: LIVE while it has a record, else FREE (section 2.1). -/
structure Slot where
  gen    : Byte
  record : Option Record
deriving DecidableEq, Repr

/-- The store: 64 slots and the number of free cells in the pool (R26). -/
structure Store where
  slots : Vector Slot 64
  free  : Nat
deriving DecidableEq, Repr

/-! ### Meter Array (chapter 5) -/

/-- The meter modes (section 5.1). -/
inductive MeterMode where
  | period | high | low | delay | gate | count
deriving DecidableEq, Repr

/-- The edge selects (section 5.1). -/
inductive EdgeSelect where
  | rising | falling | either
deriving DecidableEq, Repr

/-- The start sources of DELAY (section 5.1). -/
inductive StartSource where
  | channelA | decoder
deriving DecidableEq, Repr

/-- A meter's configuration (section 5.1); a source address that is `none` is ANY; the window is in µs. -/
structure MeterConfig where
  mode          : MeterMode
  channelA      : Fin 32
  channelB      : Fin 32
  startEdge     : EdgeSelect
  stopEdge      : EdgeSelect
  startSource   : StartSource
  sourceDecoder : Fin 6
  sourceAddress : Option Byte
  gate          : Fin 8
  window        : Nat
  singleShot    : Bool
deriving DecidableEq, Repr

/-- A meter's state with its in-flight measurement (section 5.2): a held edge's stamp, a start stamp, a window's open stamp. A DELAY meter in ARMED holds the stamp of the stop edge that ended its last measurement (R107, log entry 27). -/
inductive MeterState where
  | off
  | armed (held : Option Nat)
  | timing (start : Nat)
  | windowOpen (openAt : Nat)
  | counting (openAt : Nat) (edges : Nat) (held : Option Nat)
deriving DecidableEq, Repr

/-- The status of a meter record (section 5.3). -/
inductive MeterStatus where
  | none | valid | overrange
deriving DecidableEq, Repr

/-- A meter record (section 5.3). -/
structure MeterRecord where
  status    : MeterStatus
  last      : Word
  min       : Word
  max       : Word
  count     : Word
  disturbed : Half
  withheld  : Half
deriving DecidableEq, Repr

/-- One meter. -/
structure Meter where
  config : MeterConfig
  state  : MeterState
  record : MeterRecord
deriving DecidableEq, Repr

/-! ### Watch Unit and freeze (chapters 6 and 7) -/

/-- The watch states (section 6.3). -/
inductive WatchState where
  | off | idle | tripped | held | dormant
deriving DecidableEq, Repr

/-- The record fields a TARGET_FIELD watch can name (section 6.1). -/
inductive TargetField where
  | access | error | unanswered
deriving DecidableEq, Repr

/-- The meter fields a watch or a pane can name (sections 6.1, 8.2). -/
inductive MeterField where
  | last | min | max | count | disturbed
deriving DecidableEq, Repr

/-- The decoder counts a watch can name (section 6.1). -/
inductive DecoderField where
  | aborted | unknown
deriving DecidableEq, Repr

/-- What a watch looks at (section 6.1). -/
inductive Subject where
  | none
  | targetCell (h : Handle) (register : Byte)
  | targetField (h : Handle) (field : TargetField)
  | meter (m : Fin 8) (field : MeterField)
  | pod (p : Fin 4)
  | decoder (d : Fin 6) (field : DecoderField)
deriving DecidableEq, Repr

/-- A watch's condition with its operands (R127). -/
inductive Condition where
  | none
  | equal (value mask : Word)
  | differ (value mask : Word)
  | above (v : Word)
  | below (v : Word)
  | outside (lo hi : Word)
  | mismatch
  | change
deriving DecidableEq, Repr

/-- A subject's value, absent or a number, and for TARGET_CELL the cell's expected part (R126, R129). -/
structure Sample where
  value    : Option Word
  expected : Option Expected
deriving DecidableEq, Repr

/-- One watch (section 6.1); its actions are FREEZE and MARK. -/
structure Watch where
  state     : WatchState
  subject   : Subject
  condition : Condition
  level     : Byte
  freezes   : Bool
  marks     : Bool
  hits      : Half
  lastTrip  : Option Word
  sample    : Sample
deriving DecidableEq, Repr

/-- A notice as it can be current (R138, R140). -/
inductive Notice where
  | none | podFault | podChange | panelLost | storeFull | cellsFull
  | watch (i : Fin 32)
deriving DecidableEq, Repr

/-- The Watch Unit: watches, device notices (R139), levels, hold, and what it derives: the freeze with its watch cause (R148, R149), the current notice and ATTN (R140). The POD_FAULT mask is the fault cause (R150). -/
structure WatchUnit where
  watches     : Vector Watch 32
  podFault    : BitVec 4
  podChange   : BitVec 4
  panelLost   : Bool
  storeFull   : Bool
  cellsFull   : Bool
  attention   : Byte
  freezeLevel : Byte
  hold        : Bool
  cause       : BitVec 32
  freeze      : Bool
  current     : Notice
  attn        : Bool
deriving DecidableEq, Repr

/-! ### Pane Compositor (chapter 8) -/

/-- The attribute of a grid cell (section 8.1). -/
inductive Attr where
  | normal | inverse | dim
deriving DecidableEq, Repr

/-- One cell of the grid (section 8.1). -/
structure GridCell where
  code : Byte
  attr : Attr
deriving DecidableEq, Repr

/-- One row of the grid. -/
abbrev GridRow := Vector GridCell 40

/-- The pane states (section 8.2). -/
inductive PaneState where
  | free | live | orphaned
deriving DecidableEq, Repr

/-- The pane formats (section 8.2). -/
inductive Format where
  | hex | dec | bin | time
deriving DecidableEq, Repr

/-- What a pane shows (section 8.2). -/
inductive PaneSubject where
  | none
  | target (h : Handle) (first count : Byte)
  | meter (m : Fin 8) (field : MeterField)
  | pod (p : Fin 4)
  | watch (w : Fin 32)
  | decoder (d : Fin 6)
  | device
deriving DecidableEq, Repr

/-- A rectangle of the grid (section 8.2). -/
structure Rect where
  row    : Nat
  col    : Nat
  width  : Nat
  height : Nat
deriving DecidableEq, Repr

/-- One pane (section 8.2). -/
structure Pane where
  state     : PaneState
  rect      : Rect
  subject   : PaneSubject
  format    : Format
  label     : List Byte
  highlight : Bool
  stale     : Bool
deriving DecidableEq, Repr

/-- The Compositor: panes, grid, refresh interval in ms and next tick (R168). -/
structure Display where
  panes    : Vector Pane 16
  grid     : Vector GridRow 16
  interval : Half
  nextTick : Word
deriving DecidableEq, Repr

/-! ### Panel Link and backlight (chapter 9) -/

/-- The link states (section 9.1). -/
inductive LinkState where
  | off | idle | waiting | sending | lost
deriving DecidableEq, Repr

/-- The link rates in MHz (section 9.1). -/
inductive Rate where
  | mhz1 | mhz4 | mhz8 | mhz16
deriving DecidableEq, Repr

/-- A burst in flight (R182), with the sample at which its last bit has been sent. -/
structure Burst where
  row    : Fin 16
  cells  : GridRow
  rate   : Rate
  endsAt : Nat
deriving DecidableEq, Repr

/-- The Panel Link (section 9.1); bit r of `dirty` stands for row r; `wait` is the sample at which a running wait timer reaches 20 ms. -/
structure Panel where
  link  : LinkState
  rate  : Rate
  dirty : BitVec 16
  wait  : Option Nat
  burst : Option Burst
deriving DecidableEq, Repr

/-- The backlight (section 9.7): BKL is high exactly in the HIGH phase; `endsAt` is `none` in the steady cases. -/
structure Backlight where
  high      : Half
  low       : Half
  phaseHigh : Bool
  endsAt    : Option Nat
deriving DecidableEq, Repr

/-! ### Command Port (chapter 10) -/

/-- The port states (section 10.5). -/
inductive PortState where
  | idle | executing | answered
deriving DecidableEq, Repr

/-- The status codes (R202). -/
inductive Status where
  | ok | noResponse | badCheck | badFrame | unknownRequest | badParam
  | notFound | staleHandle | exists | storeFull | cellsFull | inUse
  | podBusy | podFaulted
  | decoderRunning | badBinding | notConfigured
  | meterRunning | badGate | gateInUse
  | overlap | badRect
  | nothing
deriving DecidableEq, Repr

/-- An owner's answer: a status and a payload (R196). -/
structure Answer where
  status  : Status
  payload : List Byte
deriving DecidableEq, Repr

/-- A response in the buffer (R196). -/
structure Response where
  status  : Status
  overrun : Bool
  payload : List Byte
deriving DecidableEq, Repr

/-- The port (section 10.5); `request` is a good request on its way to its owner and `answer` an answer on its way back (implied by R196); `gathered` is what owners have given so far of a DEV_STATUS on its way (R205); `sdo` is SDO over the wave of the last selection, `none` where it is not driven (R191). -/
structure Port where
  state    : PortState
  buffer   : Option Response
  overrun  : Bool
  request  : Option Instr
  answer   : Option Answer
  gathered : List (StatusOwner × List Byte)
  sdo      : List (Option Bool)
deriving DecidableEq, Repr

/-! ### Time Base and pins -/

/-- The Time Base (section 10.10): the sample clock, the millisecond count, and the sample at which the count next rises. -/
structure Clock where
  now      : Nat
  ms       : Word
  nextMsAt : Nat
deriving DecidableEq, Repr

/-- The input pins that outside agents drive, as last known: sense lines, raw comparator outputs, LBUSY, and RESET held low. SEL, SCK and SDI come with a frame (log entry 21). -/
structure Pins where
  sense    : BitVec 4
  levels   : BitVec 32
  lbusy    : Bool
  resetLow : Bool
deriving DecidableEq, Repr

/-- The whole part, and the queue of commands that wait. -/
structure State where
  clock     : Clock
  pins      : Pins
  pods      : Vector Pod 4
  channels  : Vector Channel 32
  decoders  : Vector Decoder 6
  store     : Store
  meters    : Vector Meter 8
  watch     : WatchUnit
  display   : Display
  panel     : Panel
  backlight : Backlight
  port      : Port
  pending   : List Instr
deriving DecidableEq, Repr

/-- Why the machine could stop. The manual gives the part no condition that stops it (INVENTORY.md, section Faults), so there is no reason: nothing raises a fault. -/
inductive Fault where
deriving DecidableEq, Repr

/-- Why a command could have no meaning. -/
inductive Refusal where
  /-- Raised by `exec` for a row without a meaning, by the row's mnemonic; safe. Every row has a meaning, so nothing raises it. -/
  | notModelled (mnemonic : String)
deriving DecidableEq, Repr

/-- What a command answers. -/
abbrev Result := Host.Outcome State Fault Refusal

/-! ### Reset values -/

/-- A pod at the end of a full reset (R21); `present` is its sense line. -/
def Pod.reset (present : Bool) : Pod :=
  { present, state := if present then .off else .absent, requested := .off
    code := Config.resetThreshold, loaded := Config.resetThreshold, supply := false
    faultMark := false, transition := none, insertion := none }

/-- A channel after a full reset (R21). -/
def Channel.reset : Channel := { width := 0, accepted := false, candidate := none }

/-- A decoder after a full reset (R75) and after a restart (R76). -/
def Decoder.reset : Decoder :=
  { params := .none, learn := .auto, bindings := [], state := .stopped
    view := Vector.replicate 9 false, timer := none, staging := none
    applied := 0, aborted := 0, unknown := 0, withheld := 0, ragged := 0, lastAbort := .none }

/-- The store after a full reset (R52). -/
def Store.reset : Store :=
  { slots := Vector.replicate 64 { gen := 0, record := none }, free := Config.poolCells }

/-- A cleared meter record (R118, R121, R124). -/
def MeterRecord.cleared : MeterRecord :=
  { status := .none, last := 0, min := 0, max := 0, count := 0, disturbed := 0, withheld := 0 }

/-- The reset configuration of a meter (section 5.1). -/
def MeterConfig.reset : MeterConfig :=
  { mode := .period, channelA := 0, channelB := 0, startEdge := .rising, stopEdge := .rising
    startSource := .channelA, sourceDecoder := 0, sourceAddress := none, gate := 0
    window := 1000, singleShot := false }

/-- A meter after a full reset (R124) and after a restart (R125). -/
def Meter.reset : Meter := { config := MeterConfig.reset, state := .off, record := MeterRecord.cleared }

/-- An absent sample (R126). -/
def Sample.absent : Sample := { value := none, expected := none }

/-- A watch with the field values of section 6.1. -/
def Watch.reset : Watch :=
  { state := .off, subject := .none, condition := .none, level := 15, freezes := false
    marks := false, hits := 0, lastTrip := none, sample := Sample.absent }

/-- The Watch Unit after a full reset (R146, R157). -/
def WatchUnit.reset : WatchUnit :=
  { watches := Vector.replicate 32 Watch.reset, podFault := 0, podChange := 0
    panelLost := false, storeFull := false, cellsFull := false, attention := 16
    freezeLevel := 0, hold := false, cause := 0, freeze := false, current := .none, attn := false }

/-- A blank cell (section 8.1). -/
def GridCell.blank : GridCell := { code := 0x20, attr := .normal }

/-- The blank grid (R177, R178). -/
def blankGrid : Vector GridRow 16 := Vector.replicate 16 (Vector.replicate 40 GridCell.blank)

/-- A pane with the reset values of section 8.2. -/
def Pane.reset : Pane :=
  { state := .free, rect := { row := 0, col := 0, width := 1, height := 1 }, subject := .none
    format := .hex, label := [], highlight := false, stale := false }

/-- The Compositor after a full reset (R177). -/
def Display.reset : Display :=
  { panes := Vector.replicate 16 Pane.reset, grid := blankGrid, interval := 100, nextTick := 100 }

/-- The Panel Link after a full reset and after a restart (R190). -/
def Panel.reset : Panel := { link := .off, rate := .mhz4, dirty := 0, wait := none, burst := none }

/-- The backlight after a full reset and after a restart (R190). -/
def Backlight.reset : Backlight := { high := 0, low := 0, phaseHigh := false, endsAt := none }

/-- The port after a full reset (R209). -/
def Port.reset : Port :=
  { state := .idle, buffer := none, overrun := false, request := none, answer := none, gathered := [], sdo := [] }

/-- The Time Base at the end of a full reset (R203). -/
def Clock.reset : Clock := { now := 0, ms := 0, nextMsAt := Config.samplesPerMillisecond }

/-- The sense line of a pod as a full reset reads it: it is not read before the reset ends (R21). -/
def Pins.sensed (p : Pins) (i : Nat) : Bool := p.sense.getLsbD i && !p.resetLow

/-- The part at the end of a full reset that found the pins so, or in a full reset that holds (R21, R52, R75, R124, R146, R157, R177, R190, R203, R209); its queue is empty. -/
def State.resetWith (pins : Pins) : State :=
  { clock := Clock.reset, pins
    pods := #v[Pod.reset (pins.sensed 0), Pod.reset (pins.sensed 1), Pod.reset (pins.sensed 2), Pod.reset (pins.sensed 3)]
    channels := Vector.replicate 32 Channel.reset
    decoders := Vector.replicate 6 Decoder.reset
    store := Store.reset
    meters := Vector.replicate 8 Meter.reset
    watch := WatchUnit.reset
    display := Display.reset
    panel := Panel.reset
    backlight := Backlight.reset
    port := Port.reset
    pending := [] }

/-- The machine right after reset, RESET high again: no pod plugged, comparator outputs low, LBUSY low (DESIGN CHOICE, log entry 6). -/
def State.reset : State := State.resetWith { sense := 0, levels := 0, lbusy := false, resetLow := false }

end Sys2Proof.Machine
end

