-- ==== Sys2Proof/Machine/Ops.lean ====
section
/-! DEFINITION. The operations every block uses: fixed tables, masks, the sample clock, the commands the part takes, the answer to the port, the pins, and the store's handles and keys. -/

namespace Sys2Proof.Machine

/-! ### Fixed tables and masks -/

/-- The table whose entry at `i` is `f i`. -/
def tab {α : Type} {n : Nat} (f : Fin n → α) : Vector α n := ⟨⟨(List.finRange n).map f⟩, by simp⟩

/-- The mask whose bit `i` is `f i`. -/
def maskOf {n : Nat} (f : Fin n → Bool) : BitVec n :=
  (List.finRange n).foldl (fun acc i => if f i then acc ||| BitVec.twoPow n i else acc) 0

/-- A resource number carried in a byte, when it is in range. -/
def index? (n : Nat) (b : Byte) : Option (Fin n) := if h : b.toNat < n then some ⟨b.toNat, h⟩ else none

/-- The lowest set bit of a mask. -/
def lowest? {n : Nat} (m : BitVec n) : Option (Fin n) := (List.finRange n).find? fun i => m.getLsbD i

/-- The pods that a mask byte names (R211). -/
def namedPods (mask : Byte) : List (Fin 4) := (List.finRange 4).filter fun p : Fin 4 => mask.getLsbD p

/-- The pod that holds a channel: channel n is on pod ⌊n/8⌋ (section 5.1). -/
def podOf (c : Fin 32) : Fin 4 := ⟨c / 8, by omega⟩

/-- The input of its pod that a channel is: n mod 8 (section 5.1). -/
def inputOf (c : Fin 32) : Fin 8 := ⟨c % 8, by omega⟩

/-- The byte whose bits are given most significant first. -/
def byteMsb (bits : List Bool) : Byte := bits.foldl (fun acc b => (acc <<< 1) ||| boolByte b) 0

/-! ### Time -/

/-- Time has reached the sample `t` (log entry 2). -/
def State.advance (t : Nat) (s : State) : State :=
  { s with clock := { s.clock with now := max s.clock.now t } }

/-! ### Which commands the part takes (R21, R191, R196, R209) -/

end Sys2Proof.Machine

namespace Sys2Proof

/-- A request row: the owner takes a request that a frame carries (R201). -/
def Instr.isRequest : Instr → Bool
  | .devIdent | .devStatus _ | .devRestart | .podSet _ _ _ _ | .podGo _ | .podRead _
  | .tgtFind _ _ | .tgtList _ _ _ | .tgtRead _ _ _ _ | .tgtDeclare _ _ _ | .tgtSetCell _ _ _ | .tgtExpect _ _ _ _ _
  | .tgtDropCell _ _ | .tgtPin _ _ | .tgtRetire _ _
  | .decConfig _ _ _ _ _ | .decStart _ | .decStop _ | .decRead _
  | .mtrConfig _ _ | .mtrStart _ | .mtrStop _ | .mtrRead _ | .mtrClear _
  | .wchSet _ _ _ _ _ | .wchClear _ | .wchRead _ | .ntcRead | .ntcAckNotice _ _ | .ntcAckWatch _ | .ntcLevels _ _
  | .hold _ | .paneSet _ _ _ _ _ _ _ _ _ _ | .paneClear _ _ | .paneRead _ | .dispInterval _ | .dispRepaint _
  | .pnlEnable _ _ _ | .pnlRestart _ | .bklSet _ _ => true
  | .fullReset _ | .requestFrame _ | .readFrame _ | .answer | .insertionTimerStart _ | .insertionTimerStop _
  | .insertion _ | .removal _ | .overcurrent _ | .rampingExpiry _ | .settlingExpiry _ _ | .stoppingExpiry _
  | .acceptedEdge _ _ _ _ | .filterCandidate _ _ _ | .twoWireIdleExpiry _ _ _ | .asyncIdleExpiry _ _
  | .asyncSamplePoint _ _ | .characterJudged _ _ | .breakTimeout _ _ | .idleGapExpiry _ | .overrange _
  | .windowExpiry _ _ | .refreshTick _ | .lbusyLow | .burstEnd _ | .waitExpiry | .backlightPhaseExpiry
  | .millisecondTick => false

/-- The request with this level of LBUSY at the test it leads to (R181). -/
def Instr.atLevel (lbusy : Bool) : Instr → Instr
  | .paneSet pane row column width height kind names format label _ =>
      .paneSet pane row column width height kind names format label lbusy
  | .paneClear pane _ => .paneClear pane lbusy
  | .dispRepaint _ => .dispRepaint lbusy
  | .pnlEnable on rate _ => .pnlEnable on rate lbusy
  | .pnlRestart _ => .pnlRestart lbusy
  | i => i

/-- The request as a frame carries it: the level of LBUSY is no part of it (log entry 8), nor the moments at which the owners give their items (log entry 15). -/
def Instr.sent (i : Instr) : Instr :=
  match i with
  | .devStatus _ => .devStatus []
  | i => i.atLevel false

end Sys2Proof

namespace Sys2Proof.Machine

/-- The part takes the command: while RESET is held low nothing but a full reset (R21, R191, R209), and while the port is EXECUTING no request but the one on its way to its owner (R196, log entry 1). -/
def State.takes (s : State) (i : Instr) : Bool :=
  match i with
  | .fullReset _ => true
  | _ => !s.pins.resetLow && (!i.isRequest || s.port.state != .executing || s.port.request == some i.sent)

/-- What a command does: its own effect where the part takes it, and nothing otherwise. -/
def State.take (i : Instr) (act : State → State) (s : State) : State := if s.takes i then act s else s

/-! ### The answer to the port (R196) -/

/-- The owner returns its answer to the port; the request it answers is no longer on its way. -/
def State.answered (st : Status) (payload : List Byte) (s : State) : State :=
  { s with port := { s.port with request := none, answer := some { status := st, payload } } }

/-- The request is carried out, with no payload. -/
def State.ok (s : State) : State := s.answered .ok []

/-- The request is refused: nothing but the answer changes (R202). -/
def State.refuse (st : Status) (s : State) : State := s.answered st []

/-! ### Pins -/

/-- The raw level of a channel's comparator output. -/
def Pins.level (p : Pins) (c : Fin 32) : Bool := p.levels.getLsbD c

/-- The pins with one comparator output at a level. -/
def Pins.setLevel (p : Pins) (c : Fin 32) (l : Bool) : Pins :=
  { p with levels := maskOf fun i => if i = c then l else p.levels.getLsbD i }

/-- The pins with the eight comparator outputs of a pod at these levels. -/
def Pins.setPodLevels (p : Pins) (pod : Fin 4) (l : BitVec 8) : Pins :=
  { p with levels := maskOf fun i => if podOf i = pod then l.getLsbD (inputOf i) else p.levels.getLsbD i }

/-- The pins with one sense line present or absent. -/
def Pins.setSense (p : Pins) (pod : Fin 4) (present : Bool) : Pins :=
  { p with sense := maskOf fun i => if i = pod then present else p.sense.getLsbD i }

/-! ### Pods -/

/-- The pod is LIVE. -/
def State.podLive (s : State) (p : Fin 4) : Bool := s.pods[p].state == .live

/-- The pod state that a target names. -/
def PodTarget.state : PodTarget → PodState
  | .off => .off
  | .isolated => .isolated
  | .live => .live

/-! ### Slots, handles and keys (R24, R25, R30, R39) -/

/-- The handle that names what slot `i` holds now (section 5.4). -/
def Store.handle (st : Store) (i : Fin 64) : Handle := { gen := st.slots[i].gen, slot := byte i }

/-- The slot and record that a current handle reaches; `none` for a stale handle (R24). -/
def Store.reach (st : Store) (h : Handle) : Option (Fin 64 × Record) :=
  match index? 64 h.slot with
  | none => none
  | some i => match st.slots[i].record with
      | none => none
      | some r => if st.slots[i].gen = h.gen then some (i, r) else none

/-- The record has the key (R25). -/
def Record.hasKey (d : Fin 6) (a : Byte) (r : Record) : Bool := r.decoder == d && r.address == a

/-- The LIVE slot whose record has the key (R25). -/
def Store.find (st : Store) (d : Fin 6) (a : Byte) : Option (Fin 64) :=
  (List.finRange 64).find? fun i => (st.slots[i].record).any (Record.hasKey d a)

/-- The lowest FREE slot (R23). -/
def Store.freeSlot (st : Store) : Option (Fin 64) :=
  (List.finRange 64).find? fun i => (st.slots[i].record).isNone

/-- A record that eviction may take (R30). -/
def Record.evictable (r : Record) : Bool := !r.declared && !r.pinned && r.references == 0

/-- The age of a record's stamp, modulo 2^32 (R30). -/
def Record.age (now : Word) (r : Record) : Word := now - r.lastSeen

/-- The age of what slot `i` holds when it is evictable. -/
def Store.evictableAge (st : Store) (now : Word) (i : Fin 64) : Option Word :=
  match st.slots[i].record with
  | some r => if r.evictable then some (r.age now) else none
  | none => none

/-- The better victim of the best so far and slot `i`: the greater age, the lower slot on ties (R30). -/
def Store.olderVictim (st : Store) (now : Word) (best : Option (Fin 64 × Word)) (i : Fin 64) : Option (Fin 64 × Word) :=
  match st.evictableAge now i, best with
  | none, b => b
  | some a, none => some (i, a)
  | some a, some (j, b) => if b < a then some (i, a) else some (j, b)

/-- The victim, if any record is evictable (R30). -/
def Store.victim (st : Store) (now : Word) : Option (Fin 64) :=
  ((List.finRange 64).foldl (st.olderVictim now) none).map Prod.fst

/-- The store with what slot `i` holds replaced by the record `r`. -/
def Store.setRecord (st : Store) (i : Fin 64) (r : Record) : Store :=
  { st with slots := st.slots.set i { st.slots[i] with record := some r } }

/-- The store after slot `i` is vacated: its cells return to the pool, it is FREE and its generation advances (R40, steps 2 to 4). -/
def Store.vacate (st : Store) (i : Fin 64) : Store :=
  match st.slots[i].record with
  | none => st
  | some r => { slots := st.slots.set i { gen := st.slots[i].gen + 1, record := none }, free := st.free + r.cells.length }

/-- Bind: a current handle's record gains a reference (R39). -/
def State.bind (h : Handle) (s : State) : State :=
  match s.store.reach h with
  | none => s
  | some (i, r) => { s with store := s.store.setRecord i { r with references := r.references + 1 } }

/-- Unbind: a current handle's record loses a reference; a stale handle changes nothing (R39). -/
def State.unbind (h : Handle) (s : State) : State :=
  match s.store.reach h with
  | none => s
  | some (i, r) => { s with store := s.store.setRecord i { r with references := r.references - 1 } }

/-! ### Cells (R26, R27) -/

/-- The cell at a register. -/
def cellAt (reg : Byte) (cells : List TargetCell) : Option TargetCell := cells.find? fun c => c.register == reg

/-- The list with a new cell at the place its register gives (R26). -/
def insertCell (c : TargetCell) : List TargetCell → List TargetCell
  | [] => [c]
  | x :: xs => if c.register < x.register then c :: x :: xs else x :: insertCell c xs

/-- The list with the cell at a register changed. -/
def updateCell (reg : Byte) (f : TargetCell → TargetCell) (cells : List TargetCell) : List TargetCell :=
  cells.map fun c => if c.register = reg then f c else c

/-- The list without the cell at a register. -/
def removeCell (reg : Byte) (cells : List TargetCell) : List TargetCell := cells.filter fun c => c.register != reg

/-- A cell can be created: the record holds fewer than 32 and the pool is not empty (R27). -/
def canCreate (cells : List TargetCell) (free : Nat) : Bool :=
  decide (cells.length < Config.recordCells) && decide (0 < free)

end Sys2Proof.Machine
end

