-- ==== Sys2Proof/Machine/Serial.lean ====
section
/-! DEFINITION. The serial lines of the command port (R191): the bits and bytes that a wave of the lines clocks in, and the levels of SDO that the port drives over it. -/

namespace Sys2Proof.Machine

/-! ### The selection -/

/-- The lines from SEL going active to SEL going inactive. -/
def selection (wave : List SerialLines) : List SerialLines := (wave.dropWhile fun l => !l.sel).takeWhile fun l => l.sel

/-- What the port hears of a selection: its lines until RESET goes low (R191). It hears nothing of a selection that begins while RESET is low, even after RESET goes high (for a read frame the model's choice: DESIGN CHOICE, log entry 34). -/
def heard (wave : List SerialLines) : List SerialLines := (selection wave).takeWhile fun l => !l.reset

/-- RESET is low at some moment of the selection, so a request frame begun in it is lost (R191, R209). -/
def cutByReset (wave : List SerialLines) : Bool := (selection wave).any fun l => l.reset

/-- SEL goes active once at most. -/
def oneSelection (wave : List SerialLines) : Bool :=
  ((wave.dropWhile fun l => !l.sel).dropWhile fun l => l.sel).all fun l => !l.sel

/-! ### SDI -/

/-- SDI at each rising edge of SCK (R191). -/
def sampledBits : List SerialLines → List Bool
  | a :: b :: rest => if !a.sck && b.sck then b.sdi :: sampledBits (b :: rest) else sampledBits (b :: rest)
  | _ => []

/-- The whole bytes of a list of bits, most significant bit first, eight to a byte (R191). -/
def wholeBytes : List Bool → List Byte
  | b7 :: b6 :: b5 :: b4 :: b3 :: b2 :: b1 :: b0 :: rest => byteMsb [b7, b6, b5, b4, b3, b2, b1, b0] :: wholeBytes rest
  | _ => []

/-- The whole bytes clocked in a selection (R192). -/
def clockedBytes (wave : List SerialLines) : List Byte := wholeBytes (sampledBits (heard wave))

/-- The number of bits of the partial byte after them (R192). -/
def partialBits (wave : List SerialLines) : Nat := (sampledBits (heard wave)).length % 8

/-! ### SDO -/

/-- Bit `n` of the bytes sent, most significant bit first; 0xFF is sent for every byte after them (R191, R192). -/
def sentBit (bytes : List Byte) (n : Nat) : Bool := (bytes.getD (n / 8) 0xFF).getMsbD (n % 8)

/-- SDO over some lines: it stands at bit `n` and goes to the next bit at each falling edge of SCK (R191). -/
def driven (bytes : List Byte) : Nat → List SerialLines → List Bool
  | n, a :: b :: rest => sentBit bytes n :: driven bytes (if a.sck && !b.sck then n + 1 else n) (b :: rest)
  | n, [_] => [sentBit bytes n]
  | _, [] => []

/-- SDO over a wave: the bytes from SEL going active on, and not driven while SEL is inactive or RESET is low (R191). -/
def sdoLevels (bytes : List Byte) (wave : List SerialLines) : List (Option Bool) :=
  let lead := (wave.takeWhile fun l => !l.sel).length
  let hear := heard wave
  List.replicate lead none ++ (driven bytes 0 hear).map some ++ List.replicate (wave.length - lead - hear.length) none

/-! ### A wave for some bytes -/

/-- The lines while SEL is active. -/
def activeLines (sck sdi : Bool) : SerialLines := { sel := true, sck, sdi, reset := false }

/-- The lines while SEL is inactive. -/
def idleLines : SerialLines := { sel := false, sck := false, sdi := false, reset := false }

/-- The bits of some bytes, most significant bit first. -/
def bitsOf (bytes : List Byte) : List Bool := bytes.flatMap fun b => (List.range 8).map b.getMsbD

/-- The wave of a selection in which these bits are clocked, SCK idle low (R191). -/
def clockingBits (bits : List Bool) : List SerialLines :=
  idleLines :: activeLines false false :: (bits.flatMap fun b => [activeLines false b, activeLines true b])
    ++ [activeLines false false, idleLines]

/-- The wave of a selection in which these bytes are clocked. -/
def clocking (bytes : List Byte) : List SerialLines := clockingBits (bitsOf bytes)

end Sys2Proof.Machine
end

