-- ==== Sys2Proof/WellFormed.lean ====
section
/-! DEFINITION. Which terms of `Instr` are commands the outside can send: a request must fit a request frame of its layout (R212, R213), and the lists of an event name each thing once. -/

namespace Sys2Proof

/-- The number of parameter bytes that a profile byte brings in DEC_CONFIG (R213). -/
def profileParamCount (profile : Byte) : Nat :=
  if profile = 2 then 6 else if profile = 3 then 8 else 0

namespace Instr

/-- The check of one command. -/
def wf : Instr → Bool
  -- one selection, in which a first byte completes that is not the 0x00 of a read frame (R192)
  | .requestFrame wave => Machine.oneSelection wave && match Machine.clockedBytes wave with
      | [] => false
      | b :: _ => b != 0
  -- one selection, in which a first byte completes that is 0x00 (R192)
  | .readFrame wave => Machine.oneSelection wave && match Machine.clockedBytes wave with
      | [] => false
      | b :: _ => b == 0
  -- the edges of one sample: each channel once (R18)
  | .acceptedEdge channel also _ order => decide ((channel :: also).Nodup) && decide order.Nodup
  | .windowExpiry _ order => decide order.Nodup
  -- DEC_CONFIG has n = 4 + 2b + p at most 250, p fixed by the profile byte (R213)
  | .decConfig _ profile _ bindings params =>
      decide (params.length = profileParamCount profile) && decide (4 + 2 * bindings.length + params.length ≤ 250)
  -- PANE_SET has n = 12 + L at most 250 (R213)
  | .paneSet _ _ _ _ _ _ _ _ label _ => decide (12 + label.length ≤ 250)
  -- NTC_ACK of kind 6 is the row NTC_ACK_WATCH (R143)
  | .ntcAckNotice kind _ => kind != 6
  | .fullReset _ | .answer | .devIdent | .devStatus _ | .devRestart => true
  | .podSet _ _ _ _ | .podGo _ | .podRead _ => true
  | .insertionTimerStart _ | .insertionTimerStop _ | .insertion _ | .removal _ | .overcurrent _ => true
  | .rampingExpiry _ | .settlingExpiry _ _ | .stoppingExpiry _ => true
  | .twoWireIdleExpiry _ _ _ | .asyncIdleExpiry _ _ | .characterJudged _ _ | .breakTimeout _ _ | .idleGapExpiry _ => true
  | .tgtFind _ _ | .tgtList _ _ _ | .tgtRead _ _ _ _ | .tgtDeclare _ _ _ | .tgtSetCell _ _ _ => true
  | .tgtExpect _ _ _ _ _ | .tgtDropCell _ _ | .tgtPin _ _ | .tgtRetire _ _ => true
  | .decStart _ | .decStop _ | .decRead _ => true
  | .mtrConfig _ _ | .mtrStart _ | .mtrStop _ | .mtrRead _ | .mtrClear _ | .overrange _ => true
  | .wchSet _ _ _ _ _ | .wchClear _ | .wchRead _ => true
  | .ntcRead | .ntcAckWatch _ | .ntcLevels _ _ | .hold _ => true
  | .paneClear _ _ | .paneRead _ | .dispInterval _ | .refreshTick _ | .dispRepaint _ => true
  | .pnlEnable _ _ _ | .pnlRestart _ | .bklSet _ _ | .lbusyLow | .burstEnd _ | .waitExpiry => true
  | .backlightPhaseExpiry | .millisecondTick | .asyncSamplePoint _ _ | .filterCandidate _ _ _ => true

end Instr

end Sys2Proof
end

