-- ==== Sys2Proof/Decode.lean ====
section
/-! DEFINITION. The host's word decoder. spec/opcode_table.json gives no row any bits (98_reader.md: no row has fixed bits or fields), so no word spells a command. The encoding the spec does give, the request frames of R212 and R213, is read and written in Machine/Frames.lean. -/

namespace Sys2Proof

/-- The command that a word spells by the table's bits: none, because the table gives none (log entry 18). -/
def decodeTableWord (_nbits _w : Nat) : Option Instr := none

end Sys2Proof
end

