-- ==== Sys2Proof/Machine/Operands.lean ====
section
/-! DEFINITION. The codes of fields (R211, R213, R216, R217): reading the parameter bytes of a request into what they name, `none` where a byte is out of range, and the codes that a response carries. -/

namespace Sys2Proof.Machine

/-! ### Codes that a response carries (R211) -/

/-- The status codes (R202). -/
def Status.code : Status → Byte
  | .ok => 0x00 | .noResponse => 0x01 | .badCheck => 0x02 | .badFrame => 0x03
  | .unknownRequest => 0x04 | .badParam => 0x05
  | .notFound => 0x10 | .staleHandle => 0x11 | .exists => 0x12 | .storeFull => 0x13
  | .cellsFull => 0x14 | .inUse => 0x15
  | .podBusy => 0x20 | .podFaulted => 0x21
  | .decoderRunning => 0x30 | .badBinding => 0x31 | .notConfigured => 0x32
  | .meterRunning => 0x40 | .badGate => 0x41 | .gateInUse => 0x42
  | .overlap => 0x50 | .badRect => 0x51
  | .nothing => 0x60

/-- The state number of a pod (section 1.1). -/
def PodState.number : PodState → Byte
  | .absent => 0 | .off => 1 | .ramping => 2 | .settling => 3 | .isolated => 4 | .live => 5 | .stopping => 6

/-- The code of a decoder state. -/
def DecState.code : DecState → Byte
  | .stopped => 0 | .suspended => 1 | .syncing => 2 | .idle => 3 | .busy => 4

/-- The code of an abort reason. -/
def AbortReason.code : AbortReason → Byte
  | .none => 0 | .unanswered => 1 | .protocol => 2 | .framing => 3 | .parity => 4
  | .break => 5 | .settle => 6 | .pod => 7 | .stop => 8

/-- The code of a profile. -/
def Params.profileCode : Params → Byte
  | .none => 0 | .twoWire => 1 | .clocked _ => 2 | .async _ => 3

/-- The code of a learn mode. -/
def Learn.code : Learn → Byte
  | .auto => 0 | .fixed => 1

/-- The code of a role, which is also its place in the line view. -/
def Role.code : Role → Fin 9
  | .clock => 0 | .data => 1 | .out => 2 | .inp => 3 | .select0 => 4 | .select1 => 5
  | .select2 => 6 | .select3 => 7 | .line => 8

/-- The code of a meter mode. -/
def MeterMode.code : MeterMode → Byte
  | .period => 0 | .high => 1 | .low => 2 | .delay => 3 | .gate => 4 | .count => 5

/-- The code of a meter state. -/
def MeterState.code : MeterState → Byte
  | .off => 0 | .armed _ => 1 | .timing _ => 2 | .windowOpen _ => 3 | .counting _ _ _ => 4

/-- The code of an edge select. -/
def EdgeSelect.code : EdgeSelect → Byte
  | .rising => 0 | .falling => 1 | .either => 2

/-- The code of a start source. -/
def StartSource.code : StartSource → Byte
  | .channelA => 0 | .decoder => 1

/-- The code of a meter status. -/
def MeterStatus.code : MeterStatus → Byte
  | .none => 0 | .valid => 1 | .overrange => 2

/-- The code of a watch state. -/
def WatchState.code : WatchState → Byte
  | .off => 0 | .idle => 1 | .tripped => 2 | .held => 3 | .dormant => 4

/-- The code of a pane state. -/
def PaneState.code : PaneState → Byte
  | .free => 0 | .live => 1 | .orphaned => 2

/-- The code of a format. -/
def Format.code : Format → Byte
  | .hex => 0 | .dec => 1 | .bin => 2 | .time => 3

/-- The code of a link state. -/
def LinkState.code : LinkState → Byte
  | .off => 0 | .idle => 1 | .waiting => 2 | .sending => 3 | .lost => 4

/-- The number of an attribute (R182). -/
def Attr.code : Attr → Byte
  | .normal => 0 | .inverse => 1 | .dim => 2

/-- The code of a cell origin (R214). -/
def CellOrigin.code : CellOrigin → Byte
  | .written => 0 | .read => 1 | .host => 2

/-- The field code of a TARGET_FIELD subject (R217). -/
def TargetField.code : TargetField → Byte
  | .access => 0 | .error => 1 | .unanswered => 2

/-- The field code of a METER subject (R217). -/
def MeterField.code : MeterField → Byte
  | .last => 0 | .min => 1 | .max => 2 | .count => 3 | .disturbed => 4

/-- The field code of a DECODER subject (R217). -/
def DecoderField.code : DecoderField → Byte
  | .aborted => 0 | .unknown => 1

/-! ### Parameter bytes of a request -/

/-- A yes/no byte, or an on/off byte (R211). -/
def yesNo? (b : Byte) : Option Bool := if b = 0 then some false else if b = 1 then some true else none

/-- The requested state of POD_SET: state number 1, 4 or 5 (R213). -/
def podTarget? (b : Byte) : Option PodTarget :=
  if b = 1 then some .off else if b = 4 then some .isolated else if b = 5 then some .live else none

/-- The code of a requested state (R213). -/
def PodTarget.number (t : PodTarget) : Byte := t.state.number

/-- The learn mode of DEC_CONFIG. -/
def learn? (b : Byte) : Option Learn := if b = 0 then some .auto else if b = 1 then some .fixed else none

/-- A role code (R211). -/
def role? (b : Byte) : Option Role :=
  if b = 0 then some .clock else if b = 1 then some .data else if b = 2 then some .out
  else if b = 3 then some .inp else if b = 4 then some .select0 else if b = 5 then some .select1
  else if b = 6 then some .select2 else if b = 7 then some .select3 else if b = 8 then some .line
  else none

/-- A choice parameter: 0 and 1 are the default, 2 the other choice (R216). -/
def choice? (b : Byte) : Option Bool :=
  if b = 0 ∨ b = 1 then some false else if b = 2 then some true else none

/-- The parity choice of ASYNC (R216). -/
def parity? (b : Byte) : Option Parity :=
  if b = 0 ∨ b = 1 then some .none else if b = 2 then some .even else if b = 3 then some .odd else none

/-- The parameters of CLOCKED (R88, R216). -/
def clockedParams? : List Byte → Option ClockedParams
  | [idle, edge, order, polarity, count, sense] =>
    match choice? idle, choice? edge, choice? order, choice? polarity, choice? sense with
    | some i, some e, some o, some p, some r =>
      if 1 ≤ count.toNat ∧ count.toNat ≤ 4 then
        some { idleHigh := i, sampleSecond := e, lsbFirst := o, activeHigh := p, selectCount := count.toNat, readZero := r }
      else none
    | _, _, _, _, _ => none
  | _ => none

/-- The parameters of ASYNC (R95, R216). -/
def asyncParams? : List Byte → Option AsyncParams
  | [b1, b0, addressBit, parity, stops, gap, polarity, fixed] =>
    match choice? addressBit, parity? parity, choice? stops, choice? polarity with
    | some a, some p, some st, some inv =>
      if 8 ≤ (ofBe16 b1 b0).toNat ∧ 1 ≤ gap.toNat then
        some { bitTime := (ofBe16 b1 b0).toNat, addressBit := a, parity := p, twoStops := st
               idleGap := gap.toNat, inverted := inv, fixedAddress := fixed }
      else none
    | _, _, _, _ => none
  | _ => none

/-- The profile that DEC_CONFIG names, with its parameters (R67, check 2). -/
def params? (profile : Byte) (bytes : List Byte) : Option Params :=
  if profile = 0 then some .none
  else if profile = 1 then some .twoWire
  else if profile = 2 then (clockedParams? bytes).map .clocked
  else if profile = 3 then (asyncParams? bytes).map .async
  else none

/-- One role and channel pair of DEC_CONFIG. -/
def binding? (pair : Byte × Byte) : Option Binding :=
  match role? pair.1, index? 32 pair.2 with
  | some r, some c => some { role := r, channel := c }
  | _, _ => none

/-- The bindings of DEC_CONFIG. -/
def bindings? (pairs : List (Byte × Byte)) : Option (List Binding) := pairs.mapM binding?

/-- The mode of MTR_CONFIG. -/
def meterMode? (b : Byte) : Option MeterMode :=
  if b = 0 then some .period else if b = 1 then some .high else if b = 2 then some .low
  else if b = 3 then some .delay else if b = 4 then some .gate else if b = 5 then some .count else none

/-- An edge select of MTR_CONFIG. -/
def edgeSelect? (b : Byte) : Option EdgeSelect :=
  if b = 0 then some .rising else if b = 1 then some .falling else if b = 2 then some .either else none

/-- The start source of MTR_CONFIG. -/
def startSource? (b : Byte) : Option StartSource :=
  if b = 0 then some .channelA else if b = 1 then some .decoder else none

/-- The source address of MTR_CONFIG: 0xFFFF is ANY, and 0x0100 to 0xFFFE is neither ANY nor an address (R214). -/
def sourceAddress? (h : Half) : Option (Option Byte) :=
  if h = 0xFFFF then some none else if h.toNat < 256 then some (some (byte h.toNat)) else none

/-- The whole configuration of MTR_CONFIG, every field checked whatever the mode (R118, check 2). -/
def meterConfig? (b : MeterBytes) : Option MeterConfig :=
  match meterMode? b.mode, index? 32 b.channelA, index? 32 b.channelB, edgeSelect? b.startEdge,
        edgeSelect? b.stopEdge, startSource? b.startSource, index? 6 b.sourceDecoder,
        sourceAddress? b.sourceAddress, index? 8 b.gate, yesNo? b.singleShot with
  | some mode, some a, some bb, some se, some pe, some src, some d, some addr, some g, some ss =>
    if 1 ≤ b.window.toNat ∧ b.window.toNat ≤ 1000000 then
      some { mode, channelA := a, channelB := bb, startEdge := se, stopEdge := pe, startSource := src
             sourceDecoder := d, sourceAddress := addr, gate := g, window := b.window.toNat, singleShot := ss }
    else none
  | _, _, _, _, _, _, _, _, _, _ => none

/-- The record field of a TARGET_FIELD subject. -/
def targetField? (b : Byte) : Option TargetField :=
  if b = 0 then some .access else if b = 1 then some .error else if b = 2 then some .unanswered else none

/-- The meter field of a METER subject. -/
def meterField? (b : Byte) : Option MeterField :=
  if b = 0 then some .last else if b = 1 then some .min else if b = 2 then some .max
  else if b = 3 then some .count else if b = 4 then some .disturbed else none

/-- The count of a DECODER subject. -/
def decoderField? (b : Byte) : Option DecoderField :=
  if b = 0 then some .aborted else if b = 1 then some .unknown else none

/-- A two-byte resource number, when it is in range. -/
def index16? (n : Nat) (h : Half) : Option (Fin n) := if hn : h.toNat < n then some ⟨h.toNat, hn⟩ else none

/-- The handle that a two-byte number carries, when its slot is in range (R24, R211). -/
def handle? (h : Half) : Option Handle :=
  let handle : Handle := { gen := h.extractLsb' 8 8, slot := h.extractLsb' 0 8 }
  if handle.slot.toNat < 64 then some handle else none

/-- The two-byte number of a handle (R211). -/
def handleNumber (h : Handle) : Half := ofBe16 h.gen h.slot

/-- The subject of WCH_SET (R135, check 1, R217). -/
def subject? (b : SubjectBytes) : Option Subject :=
  if b.kind = 1 then (handle? b.number).map fun h => .targetCell h b.field
  else if b.kind = 2 then
    match handle? b.number, targetField? b.field with
    | some h, some f => some (.targetField h f)
    | _, _ => none
  else if b.kind = 3 then
    match index16? 8 b.number, meterField? b.field with
    | some m, some f => some (.meter m f)
    | _, _ => none
  else if b.kind = 4 then (index16? 4 b.number).map .pod
  else if b.kind = 5 then
    match index16? 6 b.number, decoderField? b.field with
    | some d, some f => some (.decoder d f)
    | _, _ => none
  else none

/-- The condition of WCH_SET (R127, R135, check 1, R217): OUTSIDE needs lo at most hi. -/
def condition? (b : ConditionBytes) : Option Condition :=
  if b.code = 1 then some (.equal b.first b.second)
  else if b.code = 2 then some (.differ b.first b.second)
  else if b.code = 3 then some (.above b.first)
  else if b.code = 4 then some (.below b.first)
  else if b.code = 5 then (if b.second < b.first then none else some (.outside b.first b.second))
  else if b.code = 6 then some .mismatch
  else if b.code = 7 then some .change
  else none

/-- The subject is a cell of a target. -/
def Subject.isCell : Subject → Bool
  | .targetCell _ _ => true
  | _ => false

/-- MISMATCH applies to TARGET_CELL subjects only (R128). -/
def Condition.fits (c : Condition) (sub : Subject) : Bool :=
  match c with
  | .mismatch => sub.isCell
  | _ => true

/-- A whole setting of WCH_SET that passes check 1 of R135: subject, condition, level, FREEZE and MARK. -/
structure WatchSetting where
  subject   : Subject
  condition : Condition
  level     : Byte
  freezes   : Bool
  marks     : Bool
deriving DecidableEq, Repr

/-- Check 1 of WCH_SET (R135). -/
def watchSetting? (sub : SubjectBytes) (cond : ConditionBytes) (level actions : Byte) : Option WatchSetting :=
  match subject? sub, condition? cond with
  | some su, some co =>
    if co.fits su ∧ 1 ≤ level.toNat ∧ level.toNat ≤ 15 ∧ actions.toNat < 4 then
      some { subject := su, condition := co, level, freezes := actions.getLsbD 0, marks := actions.getLsbD 1 }
    else none
  | _, _ => none

/-- The format of PANE_SET. -/
def format? (b : Byte) : Option Format :=
  if b = 0 then some .hex else if b = 1 then some .dec else if b = 2 then some .bin
  else if b = 3 then some .time else none

/-- The subject of PANE_SET (R161, check 1, R217); METER panes have no DISTURBED field. -/
def paneSubject? (kind : Byte) (n : NameBytes) : Option PaneSubject :=
  if kind = 0 then some .none
  else if kind = 1 then
    if n.n1.toNat < 64 ∧ 1 ≤ n.n3.toNat ∧ n.n3.toNat ≤ 16 ∧ n.n2.toNat + n.n3.toNat ≤ 256 then
      some (.target { gen := n.n0, slot := n.n1 } n.n2 n.n3)
    else none
  else if kind = 2 then
    match index? 8 n.n0, meterField? n.n1 with
    | some m, some f => if f = .disturbed then none else some (.meter m f)
    | _, _ => none
  else if kind = 3 then (index? 4 n.n0).map .pod
  else if kind = 4 then (index? 32 n.n0).map .watch
  else if kind = 5 then (index? 6 n.n0).map .decoder
  else if kind = 6 then some .device
  else none

/-- TIME is refused for TARGET and BIN for METER (R160). -/
def PaneSubject.takes (sub : PaneSubject) (f : Format) : Bool :=
  match sub with
  | .target _ _ _ => f != .time
  | .meter _ _ => f != .bin
  | _ => true

/-- The label is at most 40 characters, each 0x20..0x7E (R161). -/
def labelOk (label : List Byte) : Bool :=
  decide (label.length ≤ 40) && label.all fun c => decide (0x20 ≤ c.toNat) && decide (c.toNat ≤ 0x7E)

/-- Check 1 of PANE_SET (R161). -/
def paneSetting? (kind : Byte) (names : NameBytes) (format : Byte) (label : List Byte) : Option (PaneSubject × Format) :=
  match paneSubject? kind names, format? format with
  | some sub, some f => if sub.takes f && labelOk label then some (sub, f) else none
  | _, _ => none

/-- Check 2 of PANE_SET (R161): the rectangle lies in the grid. -/
def rect? (row col width height : Byte) : Option Rect :=
  if row.toNat ≤ 15 ∧ col.toNat ≤ 39 ∧ 1 ≤ width.toNat ∧ width.toNat ≤ 40 ∧ 1 ≤ height.toNat ∧ height.toNat ≤ 16
      ∧ row.toNat + height.toNat ≤ 16 ∧ col.toNat + width.toNat ≤ 40 then
    some { row := row.toNat, col := col.toNat, width := width.toNat, height := height.toNat }
  else none

/-- The rate of PNL_ENABLE: 1, 4, 8 or 16 MHz (R185). -/
def rate? (b : Byte) : Option Rate :=
  if b = 1 then some .mhz1 else if b = 4 then some .mhz4 else if b = 8 then some .mhz8
  else if b = 16 then some .mhz16 else none

/-- A rate in MHz. -/
def Rate.mhz : Rate → Nat
  | .mhz1 => 1 | .mhz4 => 4 | .mhz8 => 8 | .mhz16 => 16

/-! ### Records of a response (R214 to R218) -/

/-- The bytes of a handle (R211). -/
def handleBytes (h : Handle) : List Byte := [h.gen, h.slot]

/-- A flag byte from its bits, bit 0 first. -/
def flags (bits : List Bool) : Byte :=
  bits.foldr (fun b acc => (acc <<< 1) ||| boolByte b) 0

/-- A watch's subject as four bytes (R217); the last byte of a POD subject is not read and is sent as 0 (log entry 11). -/
def Subject.bytes : Subject → List Byte
  | .none => [0, 0, 0, 0]
  | .targetCell h reg => 1 :: handleBytes h ++ [reg]
  | .targetField h f => 2 :: handleBytes h ++ [f.code]
  | .meter m f => [3, 0, byte m, f.code]
  | .pod p => [4, 0, byte p, 0]
  | .decoder d f => [5, 0, byte d, f.code]

/-- A condition as nine bytes (R217); operands that the condition does not read are sent as 0 (log entry 11). -/
def Condition.bytes : Condition → List Byte
  | .none => 0 :: be32 0 ++ be32 0
  | .equal v m => 1 :: be32 v ++ be32 m
  | .differ v m => 2 :: be32 v ++ be32 m
  | .above v => 3 :: be32 v ++ be32 0
  | .below v => 4 :: be32 v ++ be32 0
  | .outside lo hi => 5 :: be32 lo ++ be32 hi
  | .mismatch => 6 :: be32 0 ++ be32 0
  | .change => 7 :: be32 0 ++ be32 0

/-- A pane's subject kind and names (R217). -/
def PaneSubject.bytes : PaneSubject → List Byte
  | .none => [0, 0, 0, 0, 0]
  | .target h first count => 1 :: handleBytes h ++ [first, count]
  | .meter m f => [2, byte m, f.code, 0, 0]
  | .pod p => [3, byte p, 0, 0, 0]
  | .watch w => [4, byte w, 0, 0, 0]
  | .decoder d => [5, byte d, 0, 0, 0]
  | .device => [6, 0, 0, 0, 0]

/-- A choice parameter as its explicit code, never 0 (R216). -/
def choiceByte (b : Bool) : Byte := if b then 2 else 1

/-- The explicit code of a parity (R216). -/
def Parity.byte : Parity → Byte
  | .none => 1 | .even => 2 | .odd => 3

/-- The parameter bytes of a profile (R216). -/
def Params.bytes : Params → List Byte
  | .none => []
  | .twoWire => []
  | .clocked p => [choiceByte p.idleHigh, choiceByte p.sampleSecond, choiceByte p.lsbFirst, choiceByte p.activeHigh,
                   byte p.selectCount, choiceByte p.readZero]
  | .async p => be16 (BitVec.ofNat 16 p.bitTime) ++ [choiceByte p.addressBit, p.parity.byte, choiceByte p.twoStops,
                   byte p.idleGap, choiceByte p.inverted, p.fixedAddress]

/-- The 15-byte configuration of a meter (R217). -/
def MeterConfig.bytes (c : MeterConfig) : List Byte :=
  [c.mode.code, byte c.channelA, byte c.channelB, c.startEdge.code, c.stopEdge.code, c.startSource.code, byte c.sourceDecoder]
    ++ be16 (match c.sourceAddress with | none => 0xFFFF | some a => a.setWidth 16)
    ++ [byte c.gate] ++ be32 (BitVec.ofNat 32 c.window) ++ [boolByte c.singleShot]

/-- A record of a meter (R217). -/
def MeterRecord.bytes (r : MeterRecord) : List Byte :=
  r.status.code :: be32 r.last ++ be32 r.min ++ be32 r.max ++ be32 r.count ++ be16 r.disturbed ++ be16 r.withheld

/-- The notice kind of a current notice (R211). -/
def Notice.kind : Notice → Byte
  | .none => 0 | .podFault => 1 | .podChange => 2 | .panelLost => 3 | .storeFull => 4 | .cellsFull => 5
  | .watch _ => 6

/-- The three bytes of the current notice (R218). -/
def WatchUnit.noticeBytes (u : WatchUnit) : List Byte :=
  match u.current with
  | .podFault => [1, u.podFault.setWidth 8, 0]
  | .podChange => [2, u.podChange.setWidth 8, 0]
  | .watch i => [6, byte i, u.watches[i].level]
  | n => [n.kind, 0, 0]

end Sys2Proof.Machine
end

