-- ==== Sys2Proof/Machine/Flags.lean ====
section
/-! DEFINITION. What the Watch Unit derives: the watch cause and the freeze (chapter 7), the current notice and ATTN (R140), with the reports of their changes to the DEVICE panes; and the raising claims (R139). -/

namespace Sys2Proof.Machine

/-! ### Stale marks (R166) -/

/-- A report at one pane: a LIVE pane that it covers is marked stale (R166). -/
def Pane.report (covers : PaneSubject → Bool) (p : Pane) : Pane :=
  if p.state = .live ∧ covers p.subject = true then { p with stale := true } else p

/-- The Compositor with its panes replaced. -/
def State.withPanes (panes : Vector Pane 16) (s : State) : State :=
  { s with display := { s.display with panes } }

/-- A report reaches the Compositor: every LIVE pane it covers is marked stale (R166). -/
def State.markPanes (covers : PaneSubject → Bool) (s : State) : State :=
  s.withPanes (tab fun i => s.display.panes[i].report covers)

/-- The DEVICE panes. -/
def PaneSubject.isDevice : PaneSubject → Bool
  | .device => true
  | _ => false

/-! ### Freeze causes (R148, R149) -/

/-- The watch is in the watch cause at a freeze level (R149). -/
def Watch.isCause (freezeLevel : Byte) (w : Watch) : Bool :=
  w.state == .tripped && w.freezes && decide (w.level < freezeLevel)

/-- The watch cause derived afresh (R149). -/
def WatchUnit.causeOf (u : WatchUnit) : BitVec 32 := maskOf fun i => u.watches[i].isCause u.freezeLevel

/-- The freeze is in effect exactly when some cause is present (R148). -/
def WatchUnit.freezeOf (u : WatchUnit) : Bool := u.hold || u.podFault != 0 || u.causeOf != 0

/-! ### Current notice and ATTN (R140) -/

/-- The watch can be the current notice: TRIPPED, level 1..14 (R140). -/
def Watch.isNotice (w : Watch) : Bool := w.state == .tripped && decide (1 ≤ w.level.toNat) && decide (w.level.toNat ≤ 14)

/-- The better notice of the best watch so far and watch `i`: the lower level, the lower index on ties (R140). -/
def WatchUnit.lowerNotice (u : WatchUnit) (best : Option (Fin 32)) (i : Fin 32) : Option (Fin 32) :=
  if u.watches[i].isNotice then
    match best with
    | none => some i
    | some j => if u.watches[i].level < u.watches[j].level then some i else some j
  else best

/-- The TRIPPED watch of level 1..14 with the lowest level, lowest index on ties (R140). -/
def WatchUnit.noticeWatch (u : WatchUnit) : Option (Fin 32) := (List.finRange 32).foldl u.lowerNotice none

/-- The current notice derived afresh: the device notices in their fixed order, then the watches (R138, R140). -/
def WatchUnit.currentOf (u : WatchUnit) : Notice :=
  if u.podFault ≠ 0 then .podFault
  else if u.podChange ≠ 0 then .podChange
  else if u.panelLost then .panelLost
  else if u.storeFull then .storeFull
  else if u.cellsFull then .cellsFull
  else match u.noticeWatch with
    | some i => .watch i
    | none => .none

/-- The level of a notice: 0 for a device notice, a watch's own level (R138, R140); none for no notice. -/
def WatchUnit.noticeLevel (u : WatchUnit) : Notice → Option Byte
  | .none => none
  | .watch i => some u.watches[i].level
  | .podFault | .podChange | .panelLost | .storeFull | .cellsFull => some 0

/-- ATTN is asserted exactly when a current notice exists and its level is below the attention level (R140). -/
def WatchUnit.attnOf (u : WatchUnit) : Bool :=
  match u.noticeLevel u.currentOf with
  | none => false
  | some l => decide (l < u.attention)

/-- The unit with all it derives derived afresh. -/
def WatchUnit.derived (u : WatchUnit) : WatchUnit :=
  { u with cause := u.causeOf, freeze := u.freezeOf, current := u.currentOf, attn := u.attnOf }

/-- The derivation after a change of any source, with the report of a freeze start or end (R152) and of a change of the current notice (R134) to the DEVICE panes. -/
def State.derive (s : State) : State :=
  let s' := { s with watch := s.watch.derived }
  if s'.watch.freeze ≠ s.watch.freeze ∨ s'.watch.current ≠ s.watch.current then s'.markPanes PaneSubject.isDevice else s'

/-! ### Raising claims (R139) -/

/-- The Pod Controller raises POD_CHANGE with a pod's bit (R2, R3). -/
def State.raisePodChange (p : Fin 4) (s : State) : State :=
  State.derive { s with watch := { s.watch with podChange := s.watch.podChange ||| BitVec.twoPow 4 p } }

/-- The Panel Link raises PANEL_LOST (R184). -/
def State.raisePanelLost (s : State) : State := State.derive { s with watch := { s.watch with panelLost := true } }

/-- The store raises STORE_FULL (R51). -/
def State.raiseStoreFull (s : State) : State := State.derive { s with watch := { s.watch with storeFull := true } }

/-- The store raises CELLS_FULL (R51). -/
def State.raiseCellsFull (s : State) : State := State.derive { s with watch := { s.watch with cellsFull := true } }

/-- A report of a fault mark set or cleared: the POD_FAULT mask follows the mark, and the freeze with it (R139, R150). -/
def State.faultReport (p : Fin 4) (mark : Bool) (s : State) : State :=
  State.derive { s with watch := { s.watch with
    podFault := maskOf fun i => if i = p then mark else s.watch.podFault.getLsbD i } }

end Sys2Proof.Machine
end

