-- ==== Sys2Proof/Machine/Reports.lean ====
section
/-! DEFINITION. The reports of owner blocks (R14, R37, R66, R106): the evaluation of watches (R126 to R134), the highlights (R167), and the writing of a pod, a decoder or a meter with the report of what changed. -/

namespace Sys2Proof.Machine

/-! ### Subjects (R126) -/

/-- A value a watch reads from a cell (R126): absent when there is no cell or its value is absent; the expected part with it. -/
def cellSample (c : Option TargetCell) : Sample :=
  match c with
  | none => Sample.absent
  | some c => { value := c.value.map (·.setWidth 32), expected := c.expected }

/-- A number that is always present (R126). -/
def Sample.present (v : Word) : Sample := { value := some v, expected := none }

/-- The count field of a record that a TARGET_FIELD watch names. -/
def Record.field (r : Record) : TargetField → Half
  | .access => r.access
  | .error => r.errors
  | .unanswered => r.unanswered

/-- A meter field as a subject: LAST, MIN and MAX are absent while the count is 0 (R126). -/
def MeterRecord.sample (r : MeterRecord) : MeterField → Sample
  | .last => if r.count = 0 then Sample.absent else Sample.present r.last
  | .min => if r.count = 0 then Sample.absent else Sample.present r.min
  | .max => if r.count = 0 then Sample.absent else Sample.present r.max
  | .count => Sample.present r.count
  | .disturbed => Sample.present (r.disturbed.setWidth 32)

/-- The decoder count that a DECODER watch names. -/
def Decoder.field (d : Decoder) : DecoderField → Half
  | .aborted => d.aborted
  | .unknown => d.unknown

/-- A subject's value, read from the block that owns it (R126). -/
def State.subjectSample (s : State) : Subject → Sample
  | .none => Sample.absent
  | .targetCell h reg => match s.store.reach h with
      | none => Sample.absent
      | some (_, r) => cellSample (cellAt reg r.cells)
  | .targetField h f => match s.store.reach h with
      | none => Sample.absent
      | some (_, r) => Sample.present ((r.field f).setWidth 32)
  | .meter m f => s.meters[m].record.sample f
  | .pod p => Sample.present (s.pods[p].state.number.setWidth 32)
  | .decoder d f => Sample.present ((s.decoders[d].field f).setWidth 32)

/-! ### Conditions (R127, R128, R129) -/

/-- A cell's value and its expected part differ in the bits that the mask selects (R127, R172). -/
def mismatches (value : Word) (e : Expected) : Bool :=
  ((value ^^^ e.value.setWidth 32) &&& e.mask.setWidth 32) != 0

/-- The condition is the momentary CHANGE (R127). -/
def Condition.isChange : Condition → Bool
  | .change => true
  | _ => false

/-- A level condition on a subject value as it stands (R127, R128); an absent value makes it false. CHANGE and NONE are no level conditions. -/
def Condition.holds (c : Condition) (smp : Sample) : Bool :=
  match smp.value with
  | .none => false
  | .some v => match c with
      | .none => false
      | .equal x m => (v &&& m) == (x &&& m)
      | .differ x m => (v &&& m) != (x &&& m)
      | .above x => decide (x < v)
      | .below x => decide (v < x)
      | .outside lo hi => decide (v < lo) || decide (hi < v)
      | .mismatch => match smp.expected with
          | .none => false
          | .some e => mismatches v e
      | .change => false

/-- The subject's present value differs from the sample's (R129). -/
def isChange (old new : Sample) : Bool := new.value.isSome && new.value != old.value

/-! ### Evaluation (R130 to R132) -/

/-- The watch is evaluated and, for a target subject, holds a reference: IDLE, TRIPPED or HELD (section 6.3). -/
def WatchState.active : WatchState → Bool
  | .idle | .tripped | .held => true
  | .off | .dormant => false

/-- The watch enters TRIPPED (R131, R132). -/
def Watch.trip (ms : Word) (w : Watch) : Watch :=
  { w with state := .tripped, hits := satInc w.hits, lastTrip := some ms }

/-- A watch with a level condition moves on evaluation (R131). -/
def Watch.moveLevel (ms : Word) (now : Sample) (w : Watch) : Watch :=
  match w.state, w.condition.holds now with
  | .idle, true => w.trip ms
  | .held, false => { w with state := .idle }
  | _, _ => w

/-- A watch with condition CHANGE moves on evaluation (R132). -/
def Watch.moveChange (ms : Word) (now : Sample) (w : Watch) : Watch :=
  if isChange w.sample now then
    match w.state with
    | .idle => w.trip ms
    | .tripped => { w with hits := satInc w.hits }
    | _ => w
  else w

/-- One evaluation of a watch whose subject now reads `now`; the sample is then replaced (R129, R130). -/
def Watch.evaluate (ms : Word) (now : Sample) (w : Watch) : Watch :=
  { (if w.condition.isChange then w.moveChange ms now else w.moveLevel ms now) with sample := now }

/-! ### Highlights (R167) -/

/-- A watch's subject matches what a pane shows (R167). -/
def Subject.matchesPane (sub : Subject) (pane : PaneSubject) : Bool :=
  match sub, pane with
  | .targetCell h reg, .target h' first count =>
      h == h' && decide (first.toNat ≤ reg.toNat) && decide (reg.toNat < first.toNat + count.toNat)
  | .targetField h _, .target h' _ _ => h == h'
  | .meter m _, .meter m' _ => m == m'
  | .pod p, .pod p' => p == p'
  | .decoder d _, .decoder d' => d == d'
  | _, _ => false

/-- The watch highlights a pane subject: MARK, TRIPPED or HELD, and a match (R167). -/
def Watch.highlights (w : Watch) (pane : PaneSubject) : Bool :=
  w.marks && (w.state == .tripped || w.state == .held) && w.subject.matchesPane pane

/-- Some watch highlights the pane subject. -/
def WatchUnit.highlighted (u : WatchUnit) (pane : PaneSubject) : Bool :=
  (List.finRange 32).any fun i => u.watches[i].highlights pane

/-- A LIVE pane with its highlight derived afresh; a change marks it stale (R167). -/
def WatchUnit.rehighlight (u : WatchUnit) (p : Pane) : Pane :=
  if p.state = .live ∧ u.highlighted p.subject ≠ p.highlight then
    { p with highlight := u.highlighted p.subject, stale := true }
  else p

/-- The highlights of all LIVE panes derived afresh from the watch table (R167). -/
def State.deriveHighlights (s : State) : State :=
  s.withPanes (tab fun i => s.watch.rehighlight s.display.panes[i])

/-! ### The watch table changes (R134) -/

/-- A change of a watch that is reported to the Compositor: of its state or of its hit count (R134). -/
def Watch.reported (old new : Watch) : Bool := old.state != new.state || old.hits != new.hits

/-- The report of watches whose state or hit count changed (R134): WATCH panes are marked stale, the highlights derived. -/
def State.watchReport (changed : Fin 32 → Bool) (s : State) : State :=
  if (List.finRange 32).any changed then
    (s.markPanes fun sub => match sub with | .watch i => changed i | _ => false).deriveHighlights
  else s

/-- The watch table becomes `ws`: the changes are reported, and the notice, ATTN and the freeze are derived afresh (R134). -/
def State.setWatches (ws : Vector Watch 32) (s : State) : State :=
  (State.watchReport (fun i => (s.watch.watches[i]).reported ws[i]) { s with watch := { s.watch with watches := ws } }).derive

/-- A report reaches the Watch Unit: every active watch whose subject it covers is evaluated within it (R130). -/
def State.evaluate (covers : Subject → Bool) (s : State) : State :=
  s.setWatches (tab fun i =>
    let w := s.watch.watches[i]
    if w.state.active && covers w.subject then w.evaluate s.clock.ms (s.subjectSample w.subject) else w)

/-! ### Writing an owner's record with its report -/

/-- The report of a pod (R14): its watches, its panes, and the POD_FAULT mask and freeze from its mark. -/
def State.podReport (p : Fin 4) (s : State) : State :=
  ((s.evaluate fun sub => match sub with | .pod q => q == p | _ => false).markPanes
    fun sub => match sub with | .pod q => q == p | _ => false).faultReport p s.pods[p].faultMark

/-- A pod changes; a change of its state, threshold code or fault mark is reported (R14). -/
def State.putPod (p : Fin 4) (new : Pod) (s : State) : State :=
  let old := s.pods[p]
  let s' := { s with pods := s.pods.set p new }
  if old.state ≠ new.state ∨ old.code ≠ new.code ∨ old.faultMark ≠ new.faultMark then s'.podReport p else s'

/-- A decoder changes; a change of its aborted or unknown count reaches the watches of either (R130, log entry 28), a change of its state or of its applied, aborted or unknown count its panes (R66). -/
def State.putDecoder (d : Fin 6) (new : Decoder) (s : State) : State :=
  let old := s.decoders[d]
  let s1 := { s with decoders := s.decoders.set d new }
  let s2 := if old.aborted ≠ new.aborted ∨ old.unknown ≠ new.unknown then
      s1.evaluate fun sub => match sub with | .decoder e _ => e == d | _ => false
    else s1
  if old.state ≠ new.state ∨ old.applied ≠ new.applied ∨ old.aborted ≠ new.aborted ∨ old.unknown ≠ new.unknown then
    s2.markPanes fun sub => match sub with | .decoder e => e == d | _ => false
  else s2

/-- The fields of a meter record that a report names: all but withheld (R106). -/
def MeterRecord.reportedSame (a b : MeterRecord) : Bool :=
  a.status == b.status && a.last == b.last && a.min == b.min && a.max == b.max && a.count == b.count && a.disturbed == b.disturbed

/-- A meter changes; a change of its record other than of the withheld field is reported (R106), and every watch of the meter evaluated (R130, log entry 28). -/
def State.putMeter (m : Fin 8) (new : Meter) (s : State) : State :=
  let old := s.meters[m]
  let s1 := { s with meters := s.meters.set m new }
  if old.record.reportedSame new.record then s1
  else (s1.evaluate fun sub => match sub with | .meter e _ => e == m | _ => false).markPanes
    fun sub => match sub with | .meter e _ => e == m | _ => false

end Sys2Proof.Machine
end

