-- ==== Sys2Proof/Machine/Meters.lean ====
section
/-! DEFINITION. The Meter Array (chapter 5): edges, clean-end events, windows, overrange, pod downs, and the meanings of the MTR_ rows, OVERRANGE and WINDOW_EXPIRY. -/

namespace Sys2Proof.Machine

/-! ### Configuration (R103) -/

/-- An edge select matches an edge's direction (R103). -/
def EdgeSelect.selects (e : EdgeSelect) (rising : Bool) : Bool :=
  match e with
  | .rising => rising
  | .falling => !rising
  | .either => true

/-- The channels a mode uses (R103). -/
def MeterConfig.usedChannels (c : MeterConfig) : List (Fin 32) :=
  match c.mode with
  | .period | .high | .low | .count => [c.channelA]
  | .delay => match c.startSource with
      | .channelA => [c.channelB, c.channelA]
      | .decoder => [c.channelB]
  | .gate => []

/-- A pod holds a used channel of the meter (R103). -/
def MeterConfig.usesPod (c : MeterConfig) (p : Fin 4) : Bool := c.usedChannels.any fun ch => podOf ch == p

/-- Every used pod is LIVE (R104). -/
def State.usedPodsLive (s : State) (c : MeterConfig) : Bool := c.usedChannels.all fun ch => s.podLive (podOf ch)

/-- The length of a gate window in sample periods (R112). -/
def MeterConfig.windowLength (c : MeterConfig) : Nat := c.window * Config.samplesPerMicrosecond

/-! ### Results and discards (R105, R115, R116) -/

/-- The outcome of a measurement (R105). -/
inductive MeterOutcome where
  | valid (v : Word)
  | overrange
deriving DecidableEq, Repr

/-- A record takes a result (R105). -/
def MeterRecord.take (r : MeterRecord) (o : MeterOutcome) : MeterRecord :=
  match o with
  | .overrange => { r with status := .overrange }
  | .valid v =>
    { r with
      status := .valid
      last := v
      min := if r.count = 0 then v else if v < r.min then v else r.min
      max := if r.count = 0 then v else if r.max < v then v else r.max
      count := satInc r.count }

/-- The record after a result, taken or withheld by the freeze (R105). -/
def MeterRecord.result (freeze : Bool) (r : MeterRecord) (o : MeterOutcome) : MeterRecord :=
  if freeze then { r with withheld := satInc r.withheld } else r.take o

/-- A meter takes a result and goes to `next`, or to OFF when it is single-shot (R105, R116). -/
def State.meterResult (m : Fin 8) (o : MeterOutcome) (next : MeterState) (s : State) : State :=
  let mt := s.meters[m]
  s.putMeter m { mt with
    record := mt.record.result s.watch.freeze o
    state := if mt.config.singleShot then .off else next }

/-- A measurement is discarded: disturbed rises and the meter goes to ARMED (R114, R115). -/
def State.disturb (m : Fin 8) (s : State) : State :=
  let mt := s.meters[m]
  s.putMeter m { mt with
    record := { mt.record with disturbed := satInc mt.record.disturbed }
    state := .armed none }

/-- The meter's state becomes `st`. -/
def State.setMeterState (m : Fin 8) (st : MeterState) (s : State) : State :=
  s.putMeter m { s.meters[m] with state := st }

/-! ### Edges (R107 to R110, R113) -/

/-- The elapsed time of a measurement as a value (R107). -/
def elapsed (start stamp : Nat) : Word := BitVec.ofNat 32 (stamp - start)

/-- An event of this stamp comes after the stop edge that ended the last measurement, if one is held: no event of the stop's own stamp begins the next (R107, log entry 27). -/
def afterStop (held : Option Nat) (stamp : Nat) : Bool :=
  match held with
  | none => true
  | some stop => decide (stop < stamp)

/-- An edge reaches a meter in ARMED (R108, R109, R110, R113). -/
def State.armedEdge (m : Fin 8) (ch : Fin 32) (rising : Bool) (stamp : Nat) (held : Option Nat) (s : State) : State :=
  let c := s.meters[m].config
  match c.mode with
  | .period => if ch = c.channelA ∧ c.startEdge.selects rising = true then s.setMeterState m (.timing stamp) else s
  | .high => if ch = c.channelA ∧ rising = true then s.setMeterState m (.timing stamp) else s
  | .low => if ch = c.channelA ∧ rising = false then s.setMeterState m (.timing stamp) else s
  | .delay =>
    if c.startSource = .channelA ∧ ch = c.channelA ∧ c.startEdge.selects rising = true ∧ afterStop held stamp = true
        ∧ s.usedPodsLive c = true then
      s.setMeterState m (.timing stamp)
    else s
  | .count => if ch = c.channelA ∧ c.startEdge.selects rising = true then s.setMeterState m (.armed (some stamp)) else s
  | .gate => s

/-- An edge reaches a meter in TIMING; an event not later than the start stamp has no effect (R107 to R110). A stop edge of DELAY leaves its stamp in ARMED (log entry 27). -/
def State.timingEdge (m : Fin 8) (ch : Fin 32) (rising : Bool) (stamp start : Nat) (s : State) : State :=
  let c := s.meters[m].config
  if stamp ≤ start then s
  else match c.mode with
    | .period =>
      if ch = c.channelA ∧ c.startEdge.selects rising = true then
        s.meterResult m (.valid (elapsed start stamp)) (.timing stamp)
      else s
    | .high => if ch = c.channelA ∧ rising = false then s.meterResult m (.valid (elapsed start stamp)) (.armed none) else s
    | .low => if ch = c.channelA ∧ rising = true then s.meterResult m (.valid (elapsed start stamp)) (.armed none) else s
    | .delay =>
      if ch = c.channelB ∧ c.stopEdge.selects rising = true then
        s.meterResult m (.valid (elapsed start stamp)) (.armed (some stamp))
      else s
    | .gate | .count => s

/-- A selected edge reaches a follower in COUNTING, judged by its stamp (R113). -/
def State.countingEdge (m : Fin 8) (ch : Fin 32) (rising : Bool) (stamp openAt edges : Nat) (held : Option Nat)
    (s : State) : State :=
  let c := s.meters[m].config
  let expiry := openAt + s.meters[c.gate].config.windowLength
  if ch = c.channelA ∧ c.startEdge.selects rising = true then
    if openAt ≤ stamp ∧ stamp < expiry then s.setMeterState m (.counting openAt (edges + 1) held)
    else if stamp = expiry then s.setMeterState m (.counting openAt edges (some stamp))
    else s
  else s

/-- The measurement ends in overrange (R111). -/
def State.overrangeEnd (m : Fin 8) (s : State) : State := s.meterResult m .overrange (.armed none)

/-- An event that carries the overrange stamp or a later one is taken after the overrange of a meter in TIMING (R107, R111). -/
def State.overrangeFirst (m : Fin 8) (stamp : Nat) (s : State) : State :=
  match s.meters[m].state with
  | .timing start => if start + Config.overrangeTime ≤ stamp then s.overrangeEnd m else s
  | _ => s

/-- An edge reaches a meter in the state it is in (R107). -/
def State.takeEdge (m : Fin 8) (ch : Fin 32) (rising : Bool) (stamp : Nat) (s : State) : State :=
  match s.meters[m].state with
  | .off => s
  | .windowOpen _ => s
  | .armed held => s.armedEdge m ch rising stamp held
  | .timing start => s.timingEdge m ch rising stamp start
  | .counting openAt edges held => s.countingEdge m ch rising stamp openAt edges held

/-- A meter takes an accepted edge of a used channel (R107), after the overrange when that has come (R111). -/
def State.meterEdge (m : Fin 8) (ch : Fin 32) (rising : Bool) (stamp : Nat) (s : State) : State :=
  if s.meters[m].config.usedChannels.contains ch then (s.overrangeFirst m stamp).takeEdge m ch rising stamp else s

/-! ### Clean-end events (R110) -/

/-- A clean-end event of a decoder is a start of this configuration (R110). -/
def MeterConfig.startsOn (c : MeterConfig) (d : Fin 6) (a : Byte) : Bool :=
  c.mode == .delay && c.startSource == .decoder && c.sourceDecoder == d &&
    match c.sourceAddress with | none => true | some x => x == a

/-- A clean-end event that is a start reaches a meter (R110): in ARMED, with the used pods LIVE, it begins the measurement. -/
def State.takeStart (m : Fin 8) (stamp : Nat) (s : State) : State :=
  match s.meters[m].state with
  | .armed held => if afterStop held stamp && s.usedPodsLive s.meters[m].config then s.setMeterState m (.timing stamp) else s
  | _ => s

/-- A clean-end event reaches one meter (R110). One that carries the overrange stamp of a measurement in TIMING, or a later one, is taken after the overrange: R111 says so of an edge, and the model takes every event with a stamp so (section 5.10, log entry 30). -/
def State.meterCleanEnd (d : Fin 6) (a : Byte) (stamp : Nat) (s : State) (m : Fin 8) : State :=
  if s.meters[m].config.startsOn d a then (s.overrangeFirst m stamp).takeStart m stamp else s

/-- A clean-end event reaches the Meter Array (R61): the meters in increasing index, where R61 and R110 give no order (DESIGN CHOICE, log entry 32). -/
def State.cleanEndEvent (d : Fin 6) (a : Byte) (stamp : Nat) (s : State) : State :=
  (List.finRange 8).foldl (State.meterCleanEnd d a stamp) s

/-! ### Gates and followers (R112, R113, R114) -/

/-- Meter `f` follows gate `g`. -/
def State.follows (s : State) (g f : Fin 8) : Bool := s.meters[f].config.mode == .count && s.meters[f].config.gate == g

/-- A window open reaches a follower in ARMED (R113). -/
def State.followerOpen (g : Fin 8) (stamp : Nat) (s : State) (f : Fin 8) : State :=
  if s.follows g f then
    match s.meters[f].state with
    | .armed held =>
      if s.usedPodsLive s.meters[f].config then
        s.setMeterState f (.counting stamp (if held = some stamp then 1 else 0) none)
      else s.setMeterState f (.armed none)
    | _ => s
  else s

/-- A window end, and the window open at the same stamp if one follows, reach a follower (R113). Where none follows, a held edge stays held: it counts if a window opens at its stamp yet, and in no other. -/
def State.followerEnd (g : Fin 8) (stamp : Nat) (reopens : Bool) (s : State) (f : Fin 8) : State :=
  if s.follows g f then
    match s.meters[f].state with
    | .counting _ edges held =>
      s.meterResult f (.valid (BitVec.ofNat 32 edges))
        (if reopens then .counting stamp (if held = some stamp then 1 else 0) none else .armed held)
    | .armed _ => if reopens then s.followerOpen g stamp f else s
    | _ => s
  else s

/-- A gate stop reaches a follower (R114). -/
def State.followerStop (g : Fin 8) (s : State) (f : Fin 8) : State :=
  if s.follows g f then
    match s.meters[f].state with
    | .counting _ _ _ => s.disturb f
    | _ => s
  else s

/-- The meters in the order that the command names, then the others by index (log entry 5). -/
def meterOrder (order : List (Fin 8)) : List (Fin 8) := order ++ (List.finRange 8).filter fun m => !order.contains m

/-- A gate's window opens at a stamp (R112). -/
def State.openWindow (g : Fin 8) (stamp : Nat) (s : State) : State :=
  (List.finRange 8).foldl (State.followerOpen g stamp) (s.setMeterState g (.windowOpen stamp))

/-- A gate's window expires (R112): the gate's result, the window end, and the next window unless it is single-shot. -/
def State.expireWindow (g : Fin 8) (openAt : Nat) (order : List (Fin 8)) (s : State) : State :=
  let c := s.meters[g].config
  let stamp := openAt + c.windowLength
  let s1 := (s.advance stamp).meterResult g (.valid (BitVec.ofNat 32 c.windowLength)) (.windowOpen stamp)
  (meterOrder order).foldl (State.followerEnd g stamp (!c.singleShot)) s1

/-! ### Pod downs (R115) -/

/-- A pod down reaches one meter (R115). After its ending edge a PERIOD meter is in TIMING again (R108), so a pod down then counts its new measurement as disturbed; R123 says of that pair that the pod down finds the meter ARMED, and the model follows R108 and R115 (log entry 29). -/
def State.meterPodDown (p : Fin 4) (s : State) (m : Fin 8) : State :=
  let mt := s.meters[m]
  match mt.state with
  | .timing _ => if mt.config.usesPod p then s.disturb m else s
  | .counting _ _ _ => if mt.config.usesPod p then s.disturb m else s
  | _ => s

/-- A pod down reaches the Meter Array (R13, R115). -/
def State.metersPodDown (p : Fin 4) (s : State) : State := (List.finRange 8).foldl (State.meterPodDown p) s

/-! ### Requests (section 5.9) -/

/-- Meter `m` is the gate of a COUNT meter that is not OFF (R118, check 4). -/
def State.gatesFollower (s : State) (m : Fin 8) : Bool :=
  (List.finRange 8).any fun f => s.follows m f && s.meters[f].state != .off

/-- MTR_CONFIG (R118). -/
def mtrConfig (meter : Byte) (b : MeterBytes) (s : State) : State :=
  match index? 8 meter with
  | none => s.refuse .badParam
  | some m =>
    if s.meters[m].state ≠ .off then s.refuse .meterRunning
    else match meterConfig? b with
      | none => s.refuse .badParam
      | some c =>
        if c.mode = .count ∧ m ≤ c.gate then s.refuse .badGate
        else if c.mode ≠ .gate ∧ s.gatesFollower m = true then s.refuse .gateInUse
        else (s.putMeter m { config := c, state := .off, record := MeterRecord.cleared }).ok

/-- MTR_START (R119). -/
def mtrStart (meter : Byte) (s : State) : State :=
  match index? 8 meter with
  | none => s.refuse .badParam
  | some m =>
    let mt := s.meters[m]
    if mt.state ≠ .off then s.ok
    else match mt.config.mode with
      | .count => if s.meters[mt.config.gate].config.mode ≠ .gate then s.refuse .badGate else (s.setMeterState m (.armed none)).ok
      | .gate => (s.openWindow m s.clock.now).ok
      | .period | .high | .low | .delay => (s.setMeterState m (.armed none)).ok

/-- MTR_STOP (R120): the measurement is dropped, and the followers of a gate receive a gate stop. -/
def mtrStop (meter : Byte) (s : State) : State :=
  match index? 8 meter with
  | none => s.refuse .badParam
  | some m =>
    let mt := s.meters[m]
    if mt.state = .off then s.ok
    else
      let s1 := s.setMeterState m .off
      (if mt.config.mode = .gate then (List.finRange 8).foldl (State.followerStop m) s1 else s1).ok

/-- MTR_CLEAR (R121). -/
def mtrClear (meter : Byte) (s : State) : State :=
  match index? 8 meter with
  | none => s.refuse .badParam
  | some m => (s.putMeter m { s.meters[m] with record := MeterRecord.cleared }).ok

/-- MTR_READ (R122, R217). -/
def mtrRead (meter : Byte) (s : State) : State :=
  match index? 8 meter with
  | none => s.refuse .badParam
  | some m =>
    let mt := s.meters[m]
    s.answered .ok (mt.config.bytes ++ [mt.state.code] ++ mt.record.bytes)

/-- OVERRANGE (R111): a meter in TIMING reaches 2^32 sample periods. -/
def overrange (m : Fin 8) (s : State) : State :=
  match s.meters[m].state with
  | .timing start => (s.advance (start + Config.overrangeTime)).overrangeEnd m
  | _ => s

/-- WINDOW_EXPIRY (R112): the window of an OPEN gate expires. -/
def windowExpiry (m : Fin 8) (order : List (Fin 8)) (s : State) : State :=
  match s.meters[m].state with
  | .windowOpen openAt => s.expireWindow m openAt order
  | _ => s

/-! ### The meanings -/

/-- The row MTR_CONFIG. -/
def execMtrConfig (meter : Byte) (b : MeterBytes) (s : State) : Result :=
  .next (s.take (.mtrConfig meter b) (mtrConfig meter b))
/-- The row MTR_START. -/
def execMtrStart (meter : Byte) (s : State) : Result := .next (s.take (.mtrStart meter) (mtrStart meter))
/-- The row MTR_STOP. -/
def execMtrStop (meter : Byte) (s : State) : Result := .next (s.take (.mtrStop meter) (mtrStop meter))
/-- The row MTR_READ. -/
def execMtrRead (meter : Byte) (s : State) : Result := .next (s.take (.mtrRead meter) (mtrRead meter))
/-- The row MTR_CLEAR. -/
def execMtrClear (meter : Byte) (s : State) : Result := .next (s.take (.mtrClear meter) (mtrClear meter))
/-- The row OVERRANGE. -/
def execOverrange (m : Fin 8) (s : State) : Result := .next (s.take (.overrange m) (overrange m))
/-- The row WINDOW_EXPIRY. -/
def execWindowExpiry (m : Fin 8) (order : List (Fin 8)) (s : State) : Result :=
  .next (s.take (.windowExpiry m order) (windowExpiry m order))

end Sys2Proof.Machine
end

