-- ==== Sys2Proof/Machine/Store.lean ====
section
/-! DEFINITION. The Target Store (chapter 2): applications, error reports, retirement, and the meanings of the TGT_ requests. -/

namespace Sys2Proof.Machine

/-! ### Reports of the store (R37) -/

/-- The panes that show the record of a handle. -/
def PaneSubject.shows (h : Handle) : PaneSubject → Bool
  | .target h' _ _ => h' == h
  | _ => false

/-- The report of a record to the Compositor alone (R28, R43). -/
def State.markTarget (h : Handle) (s : State) : State := s.markPanes (PaneSubject.shows h)

/-- A watch subject is among the changed items of a record's report (R37, R130). -/
def Subject.amongChanged (h : Handle) (regs : List Byte) (fields : List TargetField) : Subject → Bool
  | .targetCell h' reg => h' == h && regs.contains reg
  | .targetField h' f => h' == h && fields.contains f
  | _ => false

/-- The change report of a record: the registers and the count fields that changed (R37). -/
def State.targetReport (h : Handle) (regs : List Byte) (fields : List TargetField) (s : State) : State :=
  (s.evaluate (Subject.amongChanged h regs fields)).markTarget h

/-! ### Retirement (R40) -/

/-- A retirement notice at a pane: a LIVE pane bound to the handle is ORPHANED (R165). -/
def Pane.orphan (h : Handle) (p : Pane) : Pane :=
  if p.state = .live ∧ p.subject.shows h then { p with state := .orphaned, highlight := false, stale := true } else p

/-- A watch subject names a target by this handle. -/
def Subject.names (h : Handle) : Subject → Bool
  | .targetCell h' _ => h' == h
  | .targetField h' _ => h' == h
  | _ => false

/-- A retirement notice at a watch: an active watch that names the handle is DORMANT (R133). -/
def Watch.retire (h : Handle) (w : Watch) : Watch :=
  if w.state.active && w.subject.names h then { w with state := .dormant, sample := Sample.absent } else w

/-- A LIVE pane that the retirement notice of a handle orphans (R165). -/
def Pane.orphanedBy (h : Handle) (p : Pane) : Bool := p.state == .live && p.subject.shows h

/-- The retirement notice, taken whole by the Compositor and the Watch Unit (R40, step 1); an orphaning derives the highlights of the LIVE panes afresh (R167). -/
def State.retireNotice (h : Handle) (s : State) : State :=
  let s1 := s.withPanes (tab fun i => s.display.panes[i].orphan h)
  let s2 := s1.setWatches (tab fun i => s1.watch.watches[i].retire h)
  if (List.finRange 16).any fun i => s.display.panes[i].orphanedBy h then s2.deriveHighlights else s2

/-- The record in slot `i` is retired with its notice (R40). -/
def State.retire (i : Fin 64) (s : State) : State :=
  let s1 := s.retireNotice (s.store.handle i)
  { s1 with store := s1.store.vacate i }

/-! ### Applications (section 2.4) -/

/-- What a decoder hands over at a clean end (section 2.4). -/
structure Application where
  decoder    : Fin 6
  address    : Byte
  direction  : Direction
  pointerSet : Option Byte
  values     : List Byte
  observed   : Nat
  wrap       : Nat
  learn      : Learn
deriving DecidableEq, Repr

/-- The store's outcomes (section 2.4). -/
inductive AppOutcome where
  | applied | withheld | unknown
deriving DecidableEq, Repr

/-- A new record (section 2.2, R31, R44). -/
def Record.fresh (d : Fin 6) (a : Byte) (declared pinned : Bool) (ms : Word) : Record :=
  { decoder := d, address := a, declared, pinned, pointer := none, cells := [], access := 0, unanswered := 0
    errors := 0, lastSeen := ms, withheldMark := false, withheldCount := 0, truncated := false, references := 0 }

/-- The placing of an application's values as it goes (R34, R35): the record's cells, the free cells of the pool, the registers created or changed, whether a value was not placed, and whether one was not placed for want of a pool cell. -/
structure Placing where
  cells     : List TargetCell
  free      : Nat
  touched   : List Byte
  unplaced  : Bool
  poolEmpty : Bool
deriving DecidableEq, Repr

/-- One observed value goes to a register (R34, R35). -/
def Placing.place (origin : CellOrigin) (p : Placing) (reg value : Byte) : Placing :=
  match cellAt reg p.cells with
  | some c =>
    let differs := c.value != some value
    { p with cells := updateCell reg (fun c => { c with value := some value, origin, changed := c.changed || differs }) p.cells
             touched := if differs then p.touched ++ [reg] else p.touched }
  | none =>
    if canCreate p.cells p.free then
      { p with cells := insertCell { register := reg, value := some value, origin, changed := true, expected := none } p.cells
               free := p.free - 1, touched := p.touched ++ [reg] }
    else { p with unplaced := true, poolEmpty := p.poolEmpty || decide (p.cells.length < Config.recordCells) }

/-- The values in observation order, value k going to register (base + k) modulo the wrap (R33). -/
def Placing.placeAll (origin : CellOrigin) (base wrap : Nat) : Nat → Placing → List Byte → Placing
  | _, p, [] => p
  | k, p, v :: vs => Placing.placeAll origin base wrap (k + 1) (p.place origin (byte ((base + k) % wrap)) v) vs

/-- The origin of a cell that an application writes (R34). -/
def Direction.origin : Direction → CellOrigin
  | .write => .written
  | .read => .read

/-- The base of an application: its pointer-set, else the record's pointer, else none (R33). -/
def Application.base (a : Application) (r : Record) : Option Byte := a.pointerSet.or r.pointer

/-- The placing of an application on a record; without a base every value is dropped (R33). -/
def Application.placing (a : Application) (r : Record) (free : Nat) : Placing :=
  let start : Placing := { cells := r.cells, free, touched := [], unplaced := false, poolEmpty := false }
  match a.base r with
  | none => start
  | some b => Placing.placeAll a.direction.origin b.toNat a.wrap 0 start a.values

/-- The record after an application has updated it (R32, R35, R36). -/
def Application.updated (a : Application) (ms : Word) (r : Record) (p : Placing) : Record :=
  { r with
    access := satInc r.access
    lastSeen := ms
    withheldMark := false
    cells := p.cells
    truncated := r.truncated || p.unplaced || decide (a.values.length < a.observed)
    pointer := (a.base r).map fun b => byte ((b.toNat + a.observed) % a.wrap) }

/-- The count fields that an application's report names (R37). -/
def accessChanged (r : Record) : List TargetField := if satInc r.access = r.access then [] else [.access]

/-- An application updates the record in slot `i` (R32 to R37). -/
def State.applyTo (a : Application) (i : Fin 64) (r : Record) (s : State) : State :=
  let p := a.placing r s.store.free
  let s1 := { s with store := { s.store.setRecord i (a.updated s.clock.ms r p) with free := p.free } }
  let s2 := if p.poolEmpty then s1.raiseCellsFull else s1
  s2.targetReport (s.store.handle i) p.touched (accessChanged r)

/-- An application creates its record in slot `i`, which is FREE, and updates it (R31). -/
def State.applyNew (a : Application) (i : Fin 64) (s : State) : State :=
  let r := Record.fresh a.decoder a.address false false s.clock.ms
  ({ s with store := s.store.setRecord i r }).applyTo a i r

/-- An application under the freeze: the record found, if any, is marked and counted withheld (R28). -/
def State.withhold (a : Application) (s : State) : State :=
  match s.store.find a.decoder a.address with
  | none => s
  | some i => match s.store.slots[i].record with
      | none => s
      | some r =>
        let s1 := { s with store := s.store.setRecord i { r with withheldMark := true, withheldCount := satInc r.withheldCount } }
        if r.withheldMark then s1 else s1.markTarget (s.store.handle i)

/-- The store takes an application as one whole operation and answers its outcome (R28, R29). -/
def State.apply (a : Application) (s : State) : State × AppOutcome :=
  if s.watch.freeze then (s.withhold a, .withheld)
  else match s.store.find a.decoder a.address with
    | some i => match s.store.slots[i].record with
        | some r => (s.applyTo a i r, .applied)
        | none => (s, .unknown)
    | none => match a.learn with
        | .fixed => (s, .unknown)
        | .auto => match s.store.freeSlot with
            | some i => (s.applyNew a i, .applied)
            | none => match s.store.victim s.clock.ms with
                | some i => (({ s with store := s.store.vacate i }).applyNew a i, .applied)
                | none => (s.raiseStoreFull, .unknown)

/-! ### Error reports (R38) -/

/-- The count of a record that an abort reason goes to, with the record after it (R38). -/
def Record.countError (reason : AbortReason) (r : Record) : Record × TargetField :=
  match reason with
  | .unanswered => ({ r with unanswered := satInc r.unanswered }, .unanswered)
  | _ => ({ r with errors := satInc r.errors }, .error)

/-- The store takes an error report (R38); a count at its limit does not change and is not reported (log entry 20). -/
def State.errorReport (d : Fin 6) (addr : Byte) (reason : AbortReason) (s : State) : State :=
  if s.watch.freeze then s
  else match s.store.find d addr with
    | none => s
    | some i => match s.store.slots[i].record with
        | none => s
        | some r =>
          let (r', f) := r.countError reason
          let s1 := { s with store := s.store.setRecord i r' }
          if r' = r then s1 else s1.targetReport (s.store.handle i) [] [f]

/-! ### Host requests (section 2.8) -/

/-- A request that names a handle: parameters first, then currency (R24). -/
def State.withRecord (h : Handle) (paramsOk : Bool) (act : Fin 64 → Record → State → State) (s : State) : State :=
  if paramsOk = false ∨ 64 ≤ h.slot.toNat then s.refuse .badParam
  else match s.store.reach h with
    | none => s.refuse .staleHandle
    | some (i, r) => act i r s

/-- TGT_FIND (R41). -/
def tgtFind (decoder address : Byte) (s : State) : State :=
  match index? 6 decoder with
  | none => s.refuse .badParam
  | some d => match s.store.find d address with
      | some i => s.answered .ok (handleBytes (s.store.handle i))
      | none => s.refuse .notFound

/-- The filter of TGT_LIST: a decoder, or ALL as 0xFF (R42, R214). -/
def listFilter? (b : Byte) : Option (Option (Fin 6)) := if b = 0xFF then some none else (index? 6 b).map some

/-- Slot `i` is LIVE, at or above the start slot, and matches the filter (R42). -/
def Store.listed (st : Store) (start : Nat) (filter : Option (Fin 6)) (i : Fin 64) : Bool :=
  decide (start ≤ i.val) && (st.slots[i].record).any fun r => match filter with | none => true | some d => r.decoder == d

/-- One TGT_LIST entry (R214). -/
def Store.listEntry (st : Store) (i : Fin 64) : List Byte :=
  match st.slots[i].record with
  | none => []
  | some r => handleBytes (st.handle i) ++ [byte r.decoder, r.address, boolByte r.declared]

/-- TGT_LIST (R42). -/
def tgtList (start filter max : Byte) (s : State) : State :=
  match listFilter? filter with
  | none => s.refuse .badParam
  | some f =>
    if 64 < start.toNat ∨ max.toNat < 1 ∨ 16 < max.toNat then s.refuse .badParam
    else
      let found := (List.finRange 64).filter (s.store.listed start.toNat f)
      let shown := found.take max.toNat
      let next := match (found.drop max.toNat).head? with | some i => i.val | none => 64
      s.answered .ok (byte next :: byte shown.length :: shown.flatMap s.store.listEntry)

/-- The 21-byte header of TGT_READ (R214). -/
def Record.header (h : Handle) (r : Record) (returned : Nat) : List Byte :=
  handleBytes h ++ [byte r.decoder, r.address,
    flags [r.declared, r.pinned, r.pointer.isSome, r.withheldMark, r.truncated], r.pointer.getD 0]
    ++ be16 r.access ++ be16 r.unanswered ++ be16 r.errors ++ be32 r.lastSeen ++ be16 r.withheldCount
    ++ [byte r.references, byte r.cells.length, byte returned]

/-- One cell entry of TGT_READ (R214). -/
def TargetCell.entry (c : TargetCell) : List Byte :=
  [c.register, c.value.getD 0,
   flags [c.value.isSome, c.origin.code.getLsbD 0, c.origin.code.getLsbD 1, c.changed, c.expected.isSome],
   match c.expected with | some e => e.value | none => 0,
   match c.expected with | some e => e.mask | none => 0]

/-- The cells that TGT_READ returns (R43). -/
def returnedCells (first max : Byte) (r : Record) : List TargetCell :=
  (r.cells.filter fun c => decide (first.toNat ≤ c.register.toNat)).take max.toNat

/-- The record after TGT_READ with clear: the marks of the returned cells and the record's two marks cleared (R43). -/
def Record.clearMarks (shown : List TargetCell) (r : Record) : Record :=
  { r with
    cells := r.cells.map fun c => if shown.any (fun x => x.register == c.register) then { c with changed := false } else c
    withheldMark := false
    truncated := false }

/-- TGT_READ (R43). -/
def tgtRead (h : Handle) (first max clear : Byte) (s : State) : State :=
  s.withRecord h (decide (1 ≤ max.toNat) && decide (max.toNat ≤ 32) && (yesNo? clear).isSome) fun i r s =>
    let shown := returnedCells first max r
    let s1 := s.answered .ok (r.header h shown.length ++ shown.flatMap TargetCell.entry)
    if clear = 1 then
      let s2 := { s1 with store := s1.store.setRecord i (r.clearMarks shown) }
      if r.withheldMark then s2.markTarget h else s2
    else s1

/-- TGT_DECLARE (R44). -/
def tgtDeclare (decoder address pinned : Byte) (s : State) : State :=
  match index? 6 decoder, yesNo? pinned with
  | some d, some p => match s.store.find d address with
      | some i => s.answered .exists (handleBytes (s.store.handle i))
      | none => match s.store.freeSlot with
          | none => s.refuse .storeFull
          | some i =>
            ({ s with store := s.store.setRecord i (Record.fresh d address true p s.clock.ms) }).answered .ok
              (handleBytes (s.store.handle i))
  | _, _ => s.refuse .badParam

/-- The store with the cells of the record in slot `i` replaced and the pool at `free`. -/
def State.putCells (i : Fin 64) (r : Record) (cells : List TargetCell) (free : Nat) (s : State) : State :=
  { s with store := { s.store.setRecord i { r with cells } with free } }

/-- TGT_SETCELL (R45). -/
def tgtSetCell (h : Handle) (register value : Byte) (s : State) : State :=
  s.withRecord h true fun i r s =>
    match cellAt register r.cells with
    | some c =>
      let s1 := s.putCells i r (updateCell register (fun c => { c with value := some value, origin := .host }) r.cells) s.store.free
      (if c.value = some value then s1 else s1.targetReport h [register] []).ok
    | none =>
      if canCreate r.cells s.store.free then
        ((s.putCells i r (insertCell { register, value := some value, origin := .host, changed := false, expected := none } r.cells)
          (s.store.free - 1)).targetReport h [register] []).ok
      else s.refuse .cellsFull

/-- TGT_EXPECT with operation set (R46). -/
def expectSet (h : Handle) (register : Byte) (e : Expected) (i : Fin 64) (r : Record) (s : State) : State :=
  match cellAt register r.cells with
  | some _ =>
    ((s.putCells i r (updateCell register (fun c => { c with expected := some e }) r.cells) s.store.free).targetReport h [register] []).ok
  | none =>
    if canCreate r.cells s.store.free then
      ((s.putCells i r (insertCell { register, value := none, origin := .host, changed := false, expected := some e } r.cells)
        (s.store.free - 1)).targetReport h [register] []).ok
    else s.refuse .cellsFull

/-- TGT_EXPECT with operation clear (R46): a cell left without a value returns to the pool. -/
def expectClear (h : Handle) (register : Byte) (i : Fin 64) (r : Record) (s : State) : State :=
  match cellAt register r.cells with
  | none => s.refuse .nothing
  | some c =>
    if c.expected.isNone then s.refuse .nothing
    else if c.value.isNone then
      ((s.putCells i r (removeCell register r.cells) (s.store.free + 1)).targetReport h [register] []).ok
    else
      ((s.putCells i r (updateCell register (fun c => { c with expected := none }) r.cells) s.store.free).targetReport h [register] []).ok

/-- TGT_EXPECT (R46). -/
def tgtExpect (h : Handle) (register operation value mask : Byte) (s : State) : State :=
  s.withRecord h (yesNo? operation).isSome fun i r s =>
    if operation = 1 then expectSet h register { value, mask } i r s else expectClear h register i r s

/-- TGT_DROPCELL (R47). -/
def tgtDropCell (h : Handle) (register : Byte) (s : State) : State :=
  s.withRecord h true fun i r s =>
    match cellAt register r.cells with
    | none => s.refuse .nothing
    | some _ => ((s.putCells i r (removeCell register r.cells) (s.store.free + 1)).targetReport h [register] []).ok

/-- TGT_PIN (R48). -/
def tgtPin (h : Handle) (on : Byte) (s : State) : State :=
  s.withRecord h (yesNo? on).isSome fun i r s =>
    ({ s with store := s.store.setRecord i { r with pinned := on == 1 } }).ok

/-- TGT_RETIRE (R49). -/
def tgtRetire (h : Handle) (force : Byte) (s : State) : State :=
  s.withRecord h (yesNo? force).isSome fun i r s =>
    if 0 < r.references ∧ force = 0 then s.refuse .inUse else (s.retire i).ok

/-! ### The meanings -/

/-- The row TGT_FIND. -/
def execTgtFind (decoder address : Byte) (s : State) : Result :=
  .next (s.take (.tgtFind decoder address) (tgtFind decoder address))
/-- The row TGT_LIST. -/
def execTgtList (start filter max : Byte) (s : State) : Result :=
  .next (s.take (.tgtList start filter max) (tgtList start filter max))
/-- The row TGT_READ. -/
def execTgtRead (h : Handle) (first max clear : Byte) (s : State) : Result :=
  .next (s.take (.tgtRead h first max clear) (tgtRead h first max clear))
/-- The row TGT_DECLARE. -/
def execTgtDeclare (decoder address pinned : Byte) (s : State) : Result :=
  .next (s.take (.tgtDeclare decoder address pinned) (tgtDeclare decoder address pinned))
/-- The row TGT_SETCELL. -/
def execTgtSetCell (h : Handle) (register value : Byte) (s : State) : Result :=
  .next (s.take (.tgtSetCell h register value) (tgtSetCell h register value))
/-- The row TGT_EXPECT. -/
def execTgtExpect (h : Handle) (register operation value mask : Byte) (s : State) : Result :=
  .next (s.take (.tgtExpect h register operation value mask) (tgtExpect h register operation value mask))
/-- The row TGT_DROPCELL. -/
def execTgtDropCell (h : Handle) (register : Byte) (s : State) : Result :=
  .next (s.take (.tgtDropCell h register) (tgtDropCell h register))
/-- The row TGT_PIN. -/
def execTgtPin (h : Handle) (on : Byte) (s : State) : Result := .next (s.take (.tgtPin h on) (tgtPin h on))
/-- The row TGT_RETIRE. -/
def execTgtRetire (h : Handle) (force : Byte) (s : State) : Result := .next (s.take (.tgtRetire h force) (tgtRetire h force))

end Sys2Proof.Machine
end

