-- ==== Sys2Proof/Machine/Decoders.lean ====
section
/-! DEFINITION. What the six decoder contexts share (chapter 3): bindings, the line view, staging, clean ends, aborts, discards, and the entry to SYNCING with each profile's idle condition. -/

namespace Sys2Proof.Machine

/-! ### Bindings and the line view (R55, R56, R59) -/

/-- The channel bound to a role. -/
def Decoder.channelOf (d : Decoder) (r : Role) : Option (Fin 32) := (d.bindings.find? fun b => b.role == r).map (·.channel)

/-- The decoder is bound to a channel of the pod (R56). -/
def Decoder.usesPod (d : Decoder) (p : Fin 4) : Bool := d.bindings.any fun b => podOf b.channel == p

/-- Every bound pod of the decoder is LIVE (R57). -/
def State.boundPodsLive (s : State) (d : Decoder) : Bool := d.bindings.all fun b => s.podLive (podOf b.channel)

/-- The level of a role in the line view (R77). -/
def Decoder.level (d : Decoder) (r : Role) : Bool := d.view[r.code]

/-- The decoder with a role's level in its line view (R59). -/
def Decoder.withLevel (d : Decoder) (r : Role) (l : Bool) : Decoder := { d with view := d.view.set r.code l }

/-- The line view loaded from the accepted levels of the bound channels (R59). -/
def State.loadedView (s : State) (d : Decoder) : Vector Bool 9 :=
  d.bindings.foldl (fun v b => v.set b.role.code s.channels[b.channel].accepted) (Vector.replicate 9 false)

/-- The select role of an index (R88). -/
def selectRole : Fin 4 → Role
  | 0 => .select0
  | 1 => .select1
  | 2 => .select2
  | 3 => .select3

/-- The index of a select role. -/
def Role.selectIndex : Role → Option (Fin 4)
  | .select0 => some 0
  | .select1 => some 1
  | .select2 => some 2
  | .select3 => some 3
  | _ => none

/-! ### Idle conditions and the entry to SYNCING (R59, R80, R89, R97) -/

/-- Both TWO_WIRE lines are high in the line view (R80). -/
def Decoder.bothHigh (d : Decoder) : Bool := d.level .clock && d.level .data

/-- Every select of a CLOCKED decoder is inactive in the line view (R89). -/
def Decoder.selectsInactive (d : Decoder) (p : ClockedParams) : Bool :=
  (List.finRange 4).all fun k => decide (p.selectCount ≤ k.val) || d.level (selectRole k) != p.activeHigh

/-- The logical level of LINE: the line view's level, opposite when the polarity is inverted (R96). -/
def Decoder.logical (d : Decoder) (p : AsyncParams) : Bool := d.level .line != p.inverted

/-- The number n of bit positions of a character (R96). -/
def AsyncParams.positions (p : AsyncParams) : Nat :=
  9 + (if p.addressBit then 1 else 0) + (if p.parity = .none then 0 else 1) + (if p.twoStops then 2 else 1)

/-- The character time (R96). -/
def AsyncParams.charTime (p : AsyncParams) : Nat := p.bitTime * p.positions

/-- The sample point of bit position `j` of a character whose start edge has this stamp (R98). -/
def AsyncParams.samplePoint (p : AsyncParams) (start j : Nat) : Nat := start + (2 * j + 1) * p.bitTime / 2

/-- The decoder enters SYNCING at a stamp with its line view as it stands: its profile timer, or for CLOCKED its idle condition at once (R59, R80, R89, R97). -/
def Decoder.enterSyncing (d : Decoder) (stamp : Nat) : Decoder :=
  let d1 := { d with state := .syncing, timer := none, staging := none }
  match d.params with
  | .none => d1
  | .twoWire => if d.bothHigh then { d1 with timer := some (stamp + Config.twoWireIdleTime) } else d1
  | .clocked p => if d.selectsInactive p then { d1 with state := .idle } else d1
  | .async p => if d.logical p then { d1 with timer := some (stamp + p.charTime) } else d1

/-- The decoder enters SYNCING from STOPPED or SUSPENDED: the line view is loaded first (R59). -/
def State.syncDecoder (d : Fin 6) (s : State) : State :=
  s.putDecoder d ({ s.decoders[d] with view := s.loadedView s.decoders[d] }.enterSyncing s.clock.now)

/-! ### Staging (section 3.4, R63) -/

/-- The staging at a transaction start (section 3.4). -/
def Staging.fresh : Staging :=
  { address := none, direction := none, pointerSet := none, values := [], observed := 0, bits := [], inBits := []
    slot := 0, addressByte := true, taking := true, receiver := none }

/-- The profile takes a value: counted, and staged while fewer than 32 are (R63). -/
def Staging.takeValue (st : Staging) (v : Byte) : Staging :=
  if st.observed < Config.observedLimit then
    { st with
      observed := st.observed + 1
      values := if st.values.length < Config.stagedValues then st.values ++ [v] else st.values }
  else st

/-- The byte whose bits are given least significant first. -/
def byteLsb (bits : List Bool) : Byte := byteMsb bits.reverse

/-- The register wrap of a profile (R54). -/
def Params.wrap : Params → Nat
  | .none => 256
  | .twoWire => 256
  | .clocked _ => 128
  | .async _ => 256

/-- The application made from a staging whose address and direction are known (R61). -/
def Decoder.application (dec : Decoder) (d : Fin 6) (st : Staging) (a : Byte) (dir : Direction) : Application :=
  { decoder := d, address := a, direction := dir, pointerSet := st.pointerSet, values := st.values
    observed := st.observed, wrap := dec.params.wrap, learn := dec.learn }

/-! ### Ends (R61, R62, R64, R65) -/

/-- The decoder after a transaction's end: its next state, its new staging or none, the timer stopped (R65). -/
def Decoder.afterEnd (dec : Decoder) (next : DecState) (staging : Option Staging) : Decoder :=
  { dec with state := next, staging, timer := none }

/-- The counters after an application's outcome (R62). -/
def Decoder.count (dec : Decoder) (o : AppOutcome) : Decoder :=
  { dec with
    applied := satInc dec.applied
    withheld := if o = .withheld then satInc dec.withheld else dec.withheld
    unknown := if o = .unknown then satInc dec.unknown else dec.unknown }

/-- A transaction is discarded: no application, report or count (R86, R94). -/
def State.discard (d : Fin 6) (next : DecState) (staging : Option Staging) (s : State) : State :=
  s.putDecoder d (s.decoders[d].afterEnd next staging)

/-- A transaction ends clean at a stamp: application, counts, clean-end event (R61). R61 gives the application and the event no order: that the application, with the freeze its report may start, comes first is the model's choice (DESIGN CHOICE, log entry 31). A transaction whose address or direction is not known cannot end clean and is discarded. -/
def State.cleanEnd (d : Fin 6) (stamp : Nat) (next : DecState) (staging : Option Staging) (s : State) : State :=
  let dec := s.decoders[d]
  match dec.staging with
  | none => s.discard d next staging
  | some st => match st.address, st.direction with
      | some a, some dir =>
        let r := s.apply (dec.application d st a dir)
        (r.1.putDecoder d ((r.1.decoders[d].count r.2).afterEnd next staging)).cleanEndEvent d a stamp
      | _, _ => s.discard d next staging

/-- The reason comes from what was seen on the wire (section 3.5). -/
def AbortReason.fromBus : AbortReason → Bool
  | .unanswered | .protocol | .framing | .parity | .break => true
  | .none | .settle | .pod | .stop => false

/-- The decoder with an abort counted (R64). -/
def Decoder.countAbort (dec : Decoder) (reason : AbortReason) : Decoder :=
  { dec with aborted := satInc dec.aborted, lastAbort := reason }

/-- The error report of an abort: bus-originated and the address known (R64). -/
def State.abortReport (d : Fin 6) (reason : AbortReason) (st : Option Staging) (s : State) : State :=
  match st with
  | none => s
  | some st => match st.address with
      | none => s
      | some a => if reason.fromBus then s.errorReport d a reason else s

/-- A transaction is aborted and the decoder becomes `f` of what the abort leaves (R64, R65). -/
def State.abortTo (d : Fin 6) (reason : AbortReason) (f : Decoder → Decoder) (s : State) : State :=
  (s.putDecoder d (f (s.decoders[d].countAbort reason))).abortReport d reason s.decoders[d].staging

/-- A transaction is aborted and the decoder goes to `next`, with new staging or none (R64, R65). -/
def State.abort (d : Fin 6) (reason : AbortReason) (next : DecState) (staging : Option Staging) (s : State) : State :=
  s.abortTo d reason fun dec => dec.afterEnd next staging

/-- A transaction is aborted and the decoder goes to SYNCING with its line view kept (R65). -/
def State.abortToSyncing (d : Fin 6) (reason : AbortReason) (stamp : Nat) (s : State) : State :=
  s.abortTo d reason fun dec => dec.enterSyncing stamp

/-! ### Pod events (R57, R58) -/

/-- The causes of a pod down (R13). -/
inductive DownCause where
  | settle | stop | removal | fault
deriving DecidableEq, Repr

/-- The abort reason of a pod down (R57). -/
def DownCause.reason : DownCause → AbortReason
  | .settle => .settle
  | .stop | .removal | .fault => .pod

/-- A pod down reaches one decoder (R57). -/
def State.decoderPodDown (p : Fin 4) (cause : DownCause) (s : State) (d : Fin 6) : State :=
  let dec := s.decoders[d]
  if dec.usesPod p then
    match dec.state with
    | .busy => s.abort d cause.reason .suspended none
    | .syncing | .idle => s.putDecoder d (dec.afterEnd .suspended none)
    | .suspended | .stopped => s
  else s

/-- A pod up reaches one decoder (R58). -/
def State.decoderPodUp (p : Fin 4) (s : State) (d : Fin 6) : State :=
  let dec := s.decoders[d]
  if dec.usesPod p && dec.state == .suspended && s.boundPodsLive dec then s.syncDecoder d else s

/-- A pod down reaches the Decoder Bank (R13). -/
def State.decodersPodDown (p : Fin 4) (cause : DownCause) (s : State) : State :=
  (List.finRange 6).foldl (State.decoderPodDown p cause) s

/-- A pod up reaches the Decoder Bank (R10). -/
def State.decodersPodUp (p : Fin 4) (s : State) : State := (List.finRange 6).foldl (State.decoderPodUp p) s

/-! ### Requests (section 3.7) -/

/-- The roles of a profile in increasing code (R55). -/
def Params.roles : Params → List Role
  | .none => []
  | .twoWire => [.clock, .data]
  | .clocked p => [.clock, .out, .inp] ++ ((List.finRange 4).filter fun k => decide (k.val < p.selectCount)).map selectRole
  | .async _ => [.line]

/-- Every role of the profile once, none extra, and no channel twice (R55, R67, check 3). -/
def goodBindings (p : Params) (bs : List Binding) : Bool :=
  (p.roles.all fun r => bs.any fun b => b.role == r) && (bs.all fun b => p.roles.contains b.role)
    && decide (bs.map (·.role)).Nodup && decide (bs.map (·.channel)).Nodup

/-- DEC_CONFIG (R67, R68, R70). -/
def decConfig (decoder profile learn : Byte) (pairs : List (Byte × Byte)) (bytes : List Byte) (s : State) : State :=
  match index? 6 decoder with
  | none => s.refuse .badParam
  | some d =>
    if s.decoders[d].state ≠ .stopped then s.refuse .decoderRunning
    else match params? profile bytes, learn? learn, bindings? pairs with
      | some p, some l, some bs =>
        if goodBindings p bs then
          (s.putDecoder d { Decoder.reset with params := p, learn := l, bindings := bs }).ok
        else s.refuse .badBinding
      | _, _, _ => s.refuse .badParam

/-- DEC_START (R69). -/
def decStart (decoder : Byte) (s : State) : State :=
  match index? 6 decoder with
  | none => s.refuse .badParam
  | some d =>
    let dec := s.decoders[d]
    if dec.params = .none then s.refuse .notConfigured
    else if dec.state ≠ .stopped then s.ok
    else if s.boundPodsLive dec then (s.syncDecoder d).ok
    else (s.putDecoder d (dec.afterEnd .suspended none)).ok

/-- DEC_STOP (R72). -/
def decStop (decoder : Byte) (s : State) : State :=
  match index? 6 decoder with
  | none => s.refuse .badParam
  | some d =>
    match s.decoders[d].state with
    | .stopped => s.ok
    | .busy => (s.abort d .stop .stopped none).ok
    | .suspended | .syncing | .idle => (s.putDecoder d (s.decoders[d].afterEnd .stopped none)).ok

/-- One binding of a DEC_READ payload. -/
def Decoder.bindingBytes (dec : Decoder) (r : Role) : List Byte :=
  match dec.channelOf r with
  | none => []
  | some c => [byte r.code, byte c]

/-- The DEC_READ payload (R71, R216), bindings in increasing role code (R215). -/
def Decoder.bytes (dec : Decoder) : List Byte :=
  [dec.params.profileCode, dec.learn.code, byte dec.params.roles.length]
    ++ dec.params.roles.flatMap dec.bindingBytes ++ dec.params.bytes ++ [dec.state.code]
    ++ be32 dec.applied ++ be16 dec.aborted ++ be16 dec.unknown ++ be16 dec.withheld ++ be16 dec.ragged ++ [dec.lastAbort.code]

/-- DEC_READ (R71). -/
def decRead (decoder : Byte) (s : State) : State :=
  match index? 6 decoder with
  | none => s.refuse .badParam
  | some d => s.answered .ok s.decoders[d].bytes

/-! ### The meanings -/

/-- The row DEC_CONFIG. -/
def execDecConfig (decoder profile learn : Byte) (pairs : List (Byte × Byte)) (bytes : List Byte) (s : State) : Result :=
  .next (s.take (.decConfig decoder profile learn pairs bytes) (decConfig decoder profile learn pairs bytes))
/-- The row DEC_START. -/
def execDecStart (decoder : Byte) (s : State) : Result := .next (s.take (.decStart decoder) (decStart decoder))
/-- The row DEC_STOP. -/
def execDecStop (decoder : Byte) (s : State) : Result := .next (s.take (.decStop decoder) (decStop decoder))
/-- The row DEC_READ. -/
def execDecRead (decoder : Byte) (s : State) : Result := .next (s.take (.decRead decoder) (decRead decoder))

end Sys2Proof.Machine
end

