-- ==== Sys2Proof/Machine/Pods.lean ====
section
/-! DEFINITION. The Pod Controller (chapter 1): presence, requests, transitions, faults, and the pod down and pod up it delivers. -/

namespace Sys2Proof.Machine

/-! ### Leaving and entering LIVE (R10, R13, R16) -/

/-- The pod a channel is on loses its candidate when the pod leaves LIVE (R16). -/
def State.dropCandidates (p : Fin 4) (s : State) : State :=
  { s with channels := tab fun c => if podOf c = p then { s.channels[c] with candidate := none } else s.channels[c] }

/-- A pod becomes `new`; leaving LIVE drops the candidates and delivers a pod down with this cause (R13). -/
def State.podMoves (p : Fin 4) (new : Pod) (cause : DownCause) (s : State) : State :=
  let s1 := s.putPod p new
  if s.pods[p].state = .live ∧ new.state ≠ .live then ((s1.dropCandidates p).decodersPodDown p cause).metersPodDown p
  else s1

/-- The present comparator outputs of a pod become the accepted levels of its channels, with no edge (R10). -/
def State.loadLevels (p : Fin 4) (s : State) : State :=
  { s with channels := tab fun c =>
      if podOf c = p then { s.channels[c] with accepted := s.pins.level c, candidate := none } else s.channels[c] }

/-- A pod enters LIVE: a pod up (R10). -/
def State.podUp (p : Fin 4) (new : Pod) (s : State) : State := ((s.putPod p new).loadLevels p).decodersPodUp p

/-! ### POD_SET (R4, R5, R19) -/

/-- The eight widths of POD_SET, each 0..7 (R4). -/
def widths? (w : Vector Byte 8) : Option (Vector (Fin 8) 8) :=
  if (List.finRange 8).all fun i => decide (w[i].toNat ≤ 7) then some (tab fun i => Fin.ofNat 8 w[i].toNat) else none

/-- The widths are handed to the pod's channels; accepted levels and candidates are kept (R4, R19). -/
def State.setWidths (p : Fin 4) (w : Vector (Fin 8) 8) (s : State) : State :=
  { s with channels := tab fun c =>
      if podOf c = p then { s.channels[c] with width := w[inputOf c] } else s.channels[c] }

/-- The transition of a settle that starts now (R5). -/
def settleFrom (dest : PodTarget) (now : Nat) : Transition := { dest, stage := .settling, endsAt := now + Config.settleTime }

/-- A pod with a settle restarted: the code is loaded again and the full time is set, towards the same destination (R5). -/
def Pod.resettle (pod : Pod) (code : Byte) (now : Nat) : Pod :=
  { pod with
    code
    loaded := code
    transition := pod.transition.map fun t => settleFrom t.dest now }

/-- A pod with the threshold change of POD_SET (R5). -/
def Pod.changeCode (pod : Pod) (code : Byte) (now : Nat) : Pod :=
  if code = pod.code then pod
  else match pod.state with
    | .live => { pod with code, loaded := code, state := .settling, transition := some (settleFrom .live now) }
    | .settling => pod.resettle code now
    | .absent | .off | .ramping | .isolated | .stopping => { pod with code }

/-- POD_SET (R4). -/
def podSet (pod requested code : Byte) (widths : Vector Byte 8) (s : State) : State :=
  match index? 4 pod, podTarget? requested, widths? widths with
  | some p, some t, some w =>
    if Config.maxThreshold < code.toNat then s.refuse .badParam
    else ((s.setWidths p w).podMoves p ({ s.pods[p] with requested := t }.changeCode code s.clock.now) .settle).ok
  | _, _, _ => s.refuse .badParam

/-! ### POD_GO (R6, R7) -/

/-- The pod is in a transition (R6, R8). -/
def PodState.moving : PodState → Bool
  | .ramping | .settling | .stopping => true
  | .absent | .off | .isolated | .live => false

/-- The full time of STOPPING towards a destination (section 1.4). -/
def stoppingTime : PodTarget → Nat
  | .isolated => Config.stopToIsolatedTime
  | .off | .live => Config.stopToOffTime

/-- A pod enters RAMPING with its supply on (R7). -/
def Pod.ramp (pod : Pod) (dest : PodTarget) (now : Nat) : Pod :=
  { pod with state := .ramping, supply := true, transition := some { dest, stage := .ramping, endsAt := now + Config.rampTime } }

/-- A pod enters SETTLING towards LIVE with its code loaded (R7). -/
def Pod.settle (pod : Pod) (now : Nat) : Pod :=
  { pod with state := .settling, loaded := pod.code, transition := some (settleFrom .live now) }

/-- A pod enters STOPPING (R7). -/
def Pod.stop (pod : Pod) (dest : PodTarget) (now : Nat) : Pod :=
  { pod with state := .stopping, transition := some { dest, stage := .stopping, endsAt := now + stoppingTime dest } }

/-- The pod at the start of the transition from its state to its requested state, by the table of section 1.4 (R7); a pod that is where it is requested stays (R6). -/
def Pod.go (pod : Pod) (now : Nat) : Pod :=
  match pod.state, pod.requested with
  | .off, .isolated => pod.ramp .isolated now
  | .off, .live => pod.ramp .live now
  | .isolated, .live => pod.settle now
  | .isolated, .off => pod.stop .off now
  | .live, .isolated => pod.stop .isolated now
  | .live, .off => pod.stop .off now
  | _, _ => pod

/-- One named pod is handled on its own (R6). -/
def State.podGoOne (s : State) (p : Fin 4) : State := s.podMoves p (s.pods[p].go s.clock.now) .stop

/-- The ABSENT pods of a mask, as the response gives them (R6, R211). -/
def absentMask (s : State) (mask : Byte) : Byte :=
  (maskOf fun p : Fin 4 => mask.getLsbD p && s.pods[p].state == .absent).setWidth 8

/-- POD_GO (R6). -/
def podGo (mask : Byte) (s : State) : State :=
  if 16 ≤ mask.toNat then s.refuse .badParam
  else if (namedPods mask).any fun p => s.pods[p].state.moving then s.refuse .podBusy
  else if (namedPods mask).any fun p => s.pods[p].faultMark then s.refuse .podFaulted
  else ((namedPods mask).foldl State.podGoOne s).answered .ok [absentMask s mask]

/-! ### POD_READ (R15) -/

/-- The sample periods left on a pod's path: those of its stage and those of a stage still to follow. -/
def Pod.timeLeft (pod : Pod) (now : Nat) : Nat :=
  match pod.transition with
  | none => 0
  | some t => (t.endsAt - now) + (if t.stage = .ramping ∧ t.dest = .live then Config.settleTime else 0)

/-- The remaining time in µs, rounded up (R15). -/
def Pod.remaining (pod : Pod) (now : Nat) : Half :=
  BitVec.ofNat 16 ((pod.timeLeft now + (Config.samplesPerMicrosecond - 1)) / Config.samplesPerMicrosecond)

/-- The channel of an input of a pod. -/
def channelAt (p : Fin 4) (i : Fin 8) : Fin 32 := ⟨8 * p + i, by omega⟩

/-- The POD_READ payload (R213). -/
def State.podBytes (s : State) (p : Fin 4) : List Byte :=
  let pod := s.pods[p]
  [flags [pod.present, pod.faultMark], pod.state.number, pod.requested.number, pod.code]
    ++ (List.finRange 8).map (fun i => byte s.channels[channelAt p i].width) ++ be16 (pod.remaining s.clock.now)

/-- POD_READ (R15). -/
def podRead (pod : Byte) (s : State) : State :=
  match index? 4 pod with
  | none => s.refuse .badParam
  | some p => s.answered .ok (s.podBytes p)

/-! ### Presence (R2, R3) -/

/-- INSERTION_TIMER_START (R2): the sense line goes present on an ABSENT pod. -/
def insertionTimerStart (p : Fin 4) (s : State) : State :=
  if s.pods[p].state = .absent ∧ s.pods[p].insertion = none then
    { s with
      pins := s.pins.setSense p true
      pods := s.pods.set p { s.pods[p] with insertion := some (s.clock.now + Config.insertionTime) } }
  else s

/-- INSERTION_TIMER_STOP (R2): the sense line goes absent before the timer reaches 10 ms. -/
def insertionTimerStop (p : Fin 4) (s : State) : State :=
  if s.pods[p].insertion = none then s
  else { s with pins := s.pins.setSense p false, pods := s.pods.set p { s.pods[p] with insertion := none } }

/-- INSERTION (R2): the timer reaches 10 ms. -/
def insertion (p : Fin 4) (s : State) : State :=
  match s.pods[p].insertion with
  | none => s
  | some t =>
    (((s.advance t).putPod p { s.pods[p] with present := true, state := .off, insertion := none })).raisePodChange p

/-- A pod after its removal (R3). -/
def Pod.removed (pod : Pod) : Pod :=
  { pod with present := false, state := .absent, supply := false, transition := none }

/-- REMOVAL (R3): the sense line of a pod that is not ABSENT goes absent. -/
def removal (p : Fin 4) (s : State) : State :=
  if s.pods[p].state = .absent then s
  else (({ s with pins := s.pins.setSense p false }).podMoves p s.pods[p].removed .removal).raisePodChange p

/-! ### Faults and expiries (R9, R11) -/

/-- A pod state in which the supply is on (R1). -/
def PodState.powered : PodState → Bool
  | .ramping | .settling | .isolated | .live | .stopping => true
  | .absent | .off => false

/-- A pod after a fault (R11). -/
def Pod.faulted (pod : Pod) : Pod :=
  { pod with supply := false, state := .off, transition := none, faultMark := true }

/-- FAULT (R11): an overcurrent on a supply that is on. -/
def overcurrent (p : Fin 4) (s : State) : State :=
  if s.pods[p].state.powered then s.podMoves p s.pods[p].faulted .fault else s

/-- A pod after its RAMPING has expired (R9). -/
def Pod.ramped (pod : Pod) (dest : PodTarget) (now : Nat) : Pod :=
  match dest with
  | .live => pod.settle now
  | .isolated | .off => { pod with state := .isolated, transition := none }

/-- A pod after its STOPPING has expired (R9). -/
def Pod.stopped (pod : Pod) (dest : PodTarget) : Pod :=
  match dest with
  | .isolated => { pod with state := .isolated, transition := none }
  | .off | .live => { pod with state := .off, supply := false, transition := none }

/-- The transition in flight when its stage is this one. -/
def Pod.inStage (pod : Pod) (stage : Stage) : Option Transition := pod.transition.filter fun t => t.stage == stage

/-- RAMPING_EXPIRY (R9). -/
def rampingExpiry (p : Fin 4) (s : State) : State :=
  match s.pods[p].inStage .ramping with
  | none => s
  | some t => (s.advance t.endsAt).putPod p (s.pods[p].ramped t.dest (s.advance t.endsAt).clock.now)

/-- SETTLING_EXPIRY (R9, R10): the pod up takes the comparator outputs as the command gives them. -/
def settlingExpiry (p : Fin 4) (levels : BitVec 8) (s : State) : State :=
  match s.pods[p].inStage .settling with
  | none => s
  | some t =>
    let s1 := s.advance t.endsAt
    State.podUp p { s.pods[p] with state := .live, transition := none } { s1 with pins := s1.pins.setPodLevels p levels }

/-- STOPPING_EXPIRY (R9). -/
def stoppingExpiry (p : Fin 4) (s : State) : State :=
  match s.pods[p].inStage .stopping with
  | none => s
  | some t => (s.advance t.endsAt).putPod p (s.pods[p].stopped t.dest)

/-! ### The meanings -/

/-- The row POD_SET. -/
def execPodSet (pod requested code : Byte) (widths : Vector Byte 8) (s : State) : Result :=
  .next (s.take (.podSet pod requested code widths) (podSet pod requested code widths))
/-- The row POD_GO. -/
def execPodGo (mask : Byte) (s : State) : Result := .next (s.take (.podGo mask) (podGo mask))
/-- The row POD_READ. -/
def execPodRead (pod : Byte) (s : State) : Result := .next (s.take (.podRead pod) (podRead pod))
/-- The row INSERTION_TIMER_START. -/
def execInsertionTimerStart (p : Fin 4) (s : State) : Result :=
  .next (s.take (.insertionTimerStart p) (insertionTimerStart p))
/-- The row INSERTION_TIMER_STOP. -/
def execInsertionTimerStop (p : Fin 4) (s : State) : Result := .next (s.take (.insertionTimerStop p) (insertionTimerStop p))
/-- The row INSERTION. -/
def execInsertion (p : Fin 4) (s : State) : Result := .next (s.take (.insertion p) (insertion p))
/-- The row REMOVAL. -/
def execRemoval (p : Fin 4) (s : State) : Result := .next (s.take (.removal p) (removal p))
/-- The row FAULT. -/
def execOvercurrent (p : Fin 4) (s : State) : Result := .next (s.take (.overcurrent p) (overcurrent p))
/-- The row RAMPING_EXPIRY. -/
def execRampingExpiry (p : Fin 4) (s : State) : Result := .next (s.take (.rampingExpiry p) (rampingExpiry p))
/-- The row SETTLING_EXPIRY. -/
def execSettlingExpiry (p : Fin 4) (levels : BitVec 8) (s : State) : Result :=
  .next (s.take (.settlingExpiry p levels) (settlingExpiry p levels))
/-- The row STOPPING_EXPIRY. -/
def execStoppingExpiry (p : Fin 4) (s : State) : Result := .next (s.take (.stoppingExpiry p) (stoppingExpiry p))

end Sys2Proof.Machine
end

