-- ==== Sys2Proof/Machine/Profiles.lean ====
section
/-! DEFINITION. The three bus profiles (chapter 4): what each does with an edge of a role and at the expiry of the profile timer, the order of edges of one sample, and the meanings of the profile timer rows. -/

namespace Sys2Proof.Machine

/-- The staging of a decoder, as a change of the decoder. -/
def Decoder.withStaging (dec : Decoder) (st : Staging) : Decoder := { dec with staging := some st }

/-- The decoder's staging is replaced. -/
def State.setStaging (d : Fin 6) (st : Staging) (s : State) : State := s.putDecoder d (s.decoders[d].withStaging st)

/-- A transaction starts: new staging, BUSY, timer stopped (R60). -/
def State.begin (d : Fin 6) (st : Staging) (s : State) : State := s.putDecoder d (s.decoders[d].afterEnd .busy (some st))

/-! ### TWO_WIRE (section 4.2) -/

/-- The bit of slots 1 to 8 joins the partial byte; at slot 8 of the address byte the address and the direction are set (R82, R83). -/
def Staging.twoWireBit (st : Staging) (slot : Nat) (bit : Bool) : Staging :=
  let bits := st.bits ++ [bit]
  if slot = 8 ∧ st.addressByte = true then
    { st with slot, bits, address := some (byteMsb bits >>> 1), direction := some (if bit then .read else .write) }
  else { st with slot, bits }

/-- An acknowledged or refused data byte (R84, R85). -/
def Staging.twoWireData (st : Staging) (value : Byte) (ack : Bool) : Staging :=
  match st.direction with
  | some .read => st.takeValue value
  | some .write | none =>
    if st.taking then
      if ack then
        match st.pointerSet with
        | none => { st with pointerSet := some value }
        | some _ => st.takeValue value
      else { st with taking := false }
    else st

/-- The staging when slot 9 completes a byte (R82). -/
def Staging.byteDone (st : Staging) : Staging := { st with slot := 9, bits := [], addressByte := false }

/-- A CLOCK rising edge in BUSY takes one bit; at slot 9 the byte is complete (R82 to R85). -/
def State.twoWireClock (d : Fin 6) (bit : Bool) (st : Staging) (s : State) : State :=
  let slot := if 9 ≤ st.slot then 1 else st.slot + 1
  if slot ≤ 8 then s.setStaging d (st.twoWireBit slot bit)
  else if st.addressByte then
    if bit then s.abort d .unanswered .idle none else s.setStaging d st.byteDone
  else s.setStaging d (st.byteDone.twoWireData (byteMsb st.bits) (!bit))

/-- A start (`stop` false) or a stop condition in BUSY, at a byte boundary or inside a byte (R86, R87). -/
def State.twoWireCondition (d : Fin 6) (stop : Bool) (stamp : Nat) (st : Staging) (s : State) : State :=
  let next := if stop then DecState.idle else .busy
  let staging := if stop then none else some Staging.fresh
  if st.slot ≤ 1 then
    match st.address with
    | some _ => s.cleanEnd d stamp next staging
    | none => s.discard d next staging
  else s.abort d .protocol next staging

/-- An edge in SYNCING acts on the timer (R80). -/
def Decoder.twoWireSyncTimer (dec : Decoder) (stamp : Nat) : Decoder :=
  { dec with timer := if dec.bothHigh then some (stamp + Config.twoWireIdleTime) else none }

/-- A TWO_WIRE edge; the line view already has it (R78 to R87). -/
def State.twoWireEdge (d : Fin 6) (r : Role) (level : Bool) (stamp : Nat) (s : State) : State :=
  let dec := s.decoders[d]
  let condition := r == .data && dec.level .clock
  match dec.state with
  | .syncing =>
    if condition && level then s.putDecoder d (dec.afterEnd .idle none) else s.putDecoder d (dec.twoWireSyncTimer stamp)
  | .idle => if condition && !level then s.begin d Staging.fresh else s
  | .busy => match dec.staging with
      | none => s
      | some st =>
        if condition then s.twoWireCondition d level stamp st
        else if r == .clock && level then s.twoWireClock d (dec.level .data) st
        else s
  | .stopped | .suspended => s

/-! ### CLOCKED (section 4.3) -/

/-- The direction that the command's bit 7 gives (R93). -/
def ClockedParams.direction (p : ClockedParams) (command : Byte) : Direction :=
  if command.getLsbD 7 != p.readZero then .read else .write

/-- A byte from its bits in the order taken (R92). -/
def ClockedParams.assemble (p : ClockedParams) (bits : List Bool) : Byte := if p.lsbFirst then byteLsb bits else byteMsb bits

/-- A CLOCK edge to `level` samples (R92): a first edge leaves the idle level, a second edge returns to it. -/
def ClockedParams.samples (p : ClockedParams) (level : Bool) : Bool := (level != p.idleHigh) != p.sampleSecond

/-- A complete byte of the frame: the command, or a value (R93). -/
def Staging.clockedByte (st : Staging) (p : ClockedParams) (outByte inByte : Byte) : Staging :=
  match st.direction with
  | none => { st with direction := some (p.direction outByte), pointerSet := some (outByte &&& 0x7F) }
  | some .write => st.takeValue outByte
  | some .read => st.takeValue inByte

/-- A sampling edge takes one bit from OUT and one from IN; eight complete a byte (R92). -/
def Staging.clockedBit (st : Staging) (p : ClockedParams) (out inp : Bool) : Staging :=
  let st1 := { st with bits := st.bits ++ [out], inBits := st.inBits ++ [inp] }
  if st1.bits.length < 8 then st1
  else { st1 with bits := [], inBits := [] }.clockedByte p (p.assemble st1.bits) (p.assemble st1.inBits)

/-- The transaction's select goes inactive (R94): a partial byte is counted ragged; the frame ends clean when its command is complete, and is discarded otherwise. -/
def State.frameEnd (d : Fin 6) (stamp : Nat) (st : Staging) (s : State) : State :=
  let s1 := if st.bits.isEmpty then s else s.putDecoder d { s.decoders[d] with ragged := satInc s.decoders[d].ragged }
  match st.direction with
  | some _ => s1.cleanEnd d stamp .idle none
  | none => s1.discard d .idle none

/-- An edge of select `k` in BUSY (R90, R91, R94). -/
def State.selectInBusy (d : Fin 6) (k : Fin 4) (active : Bool) (stamp : Nat) (st : Staging) (s : State) : State :=
  if st.address = some (byte k) then
    if active then s else s.frameEnd d stamp st
  else if active then s.abortToSyncing d .protocol stamp
  else s

/-- A CLOCKED edge; the line view already has it (R89 to R94). -/
def State.clockedEdge (d : Fin 6) (p : ClockedParams) (r : Role) (level : Bool) (stamp : Nat) (s : State) : State :=
  let dec := s.decoders[d]
  match r.selectIndex with
  | some k => match dec.state with
      | .syncing => if dec.selectsInactive p then s.putDecoder d (dec.afterEnd .idle none) else s
      | .idle => if level == p.activeHigh then s.begin d { Staging.fresh with address := some (byte k) } else s
      | .busy => match dec.staging with
          | none => s
          | some st => s.selectInBusy d k (level == p.activeHigh) stamp st
      | .stopped | .suspended => s
  | none => match dec.state, dec.staging with
      | .busy, some st =>
        if r == .clock && p.samples level then s.setStaging d (st.clockedBit p (dec.level .out) (dec.level .inp)) else s
      | _, _ => s

/-! ### ASYNC (section 4.4) -/

/-- The staging at a start edge in IDLE: with the address bit off the fixed address and the direction are set at once (R101). -/
def AsyncParams.startStaging (p : AsyncParams) (stamp : Nat) : Staging :=
  { Staging.fresh with
    address := if p.addressBit then none else some p.fixedAddress
    direction := if p.addressBit then none else some .write
    receiver := some { start := stamp, edgeSeen := false } }

/-- A start edge in IDLE begins a transaction and its first character (R98). -/
def State.asyncStart (d : Fin 6) (p : AsyncParams) (stamp : Nat) (s : State) : State :=
  s.putDecoder d { s.decoders[d].afterEnd .busy (some (p.startStaging stamp)) with timer := some (p.samplePoint stamp 1) }

/-- The idle gap is over: the transaction ends clean at the sample of the expiry (R102). -/
def State.gapEnd (d : Fin 6) (stamp : Nat) (s : State) : State := s.cleanEnd d stamp .idle none

/-- After a good character that leaves the transaction in progress the idle-gap timer is set, from the character's start edge (R102). -/
def State.setGap (d : Fin 6) (p : AsyncParams) (start : Nat) (s : State) : State :=
  s.putDecoder d { s.decoders[d] with timer := some (start + p.charTime + p.idleGap * p.charTime) }

/-- The bits of a judged character: data, then the address and parity bits where used, then the stop bits (R96). -/
def AsyncParams.dataBits (_p : AsyncParams) (bits : List Bool) : List Bool := bits.take 8

/-- The address bit of a character: low when the address bit is off (R96). -/
def AsyncParams.isAddress (p : AsyncParams) (bits : List Bool) : Bool := p.addressBit && (bits.drop 8).headD false

/-- The bits that parity covers, the parity bit included (R96). -/
def AsyncParams.parityBits (p : AsyncParams) (bits : List Bool) : List Bool := bits.take (if p.addressBit then 10 else 9)

/-- The parity bit, where used, matches (R96). -/
def AsyncParams.parityOk (p : AsyncParams) (bits : List Bool) : Bool :=
  match p.parity with
  | .none => true
  | .even => ((p.parityBits bits).count true) % 2 == 0
  | .odd => ((p.parityBits bits).count true) % 2 == 1

/-- Every stop bit was sampled high (R99). -/
def AsyncParams.stopsOk (p : AsyncParams) (bits : List Bool) : Bool :=
  (bits.drop (p.positions - 1 - (if p.twoStops then 2 else 1))).all id

/-- The staging when its character has been judged: no partial byte, the receiver waiting (R99). -/
def Staging.charDone (st : Staging) : Staging := { st with bits := [], receiver := none }

/-- A data character of a transaction with an address: the pointer-set, then values (R100, R101). -/
def Staging.asyncData (st : Staging) (value : Byte) : Staging :=
  match st.pointerSet with
  | none => { st with pointerSet := some value }
  | some _ => st.takeValue value

/-- The staging of the transaction that an address character begins (R100). -/
def Staging.addressed (value : Byte) : Staging :=
  { Staging.fresh with address := some value, direction := some .write }

/-- A data character with no transaction for it is discarded and counted as unknown (R100). -/
def State.discardCharacter (d : Fin 6) (s : State) : State :=
  s.putDecoder d ({ s.decoders[d] with unknown := satInc s.decoders[d].unknown }.afterEnd .idle none)

/-- A good character (R100, R101). -/
def State.goodCharacter (d : Fin 6) (p : AsyncParams) (start : Nat) (st : Staging) (s : State) : State :=
  let value := byteLsb (p.dataBits st.bits)
  if p.isAddress st.bits then
    match st.address with
    | none => (s.setStaging d { st.charDone with address := some value, direction := some .write }).setGap d p start
    | some _ => (s.cleanEnd d (p.samplePoint start (p.positions - 1)) .busy (some (Staging.addressed value))).setGap d p start
  else match st.address with
    | some _ => (s.setStaging d (st.charDone.asyncData value)).setGap d p start
    | none => s.discardCharacter d

/-- A character is judged by steps 2 to 4 of R99. -/
def State.judge (d : Fin 6) (p : AsyncParams) (start : Nat) (st : Staging) (s : State) : State :=
  if p.parityOk st.bits = false then s.abort d .parity .idle none
  else if p.stopsOk st.bits = false then s.abort d .framing .idle none
  else s.goodCharacter d p start st

/-- All positions of the character have been sampled and its judgment waits for the break test (R99, step 1). -/
def Staging.awaitsBreak (st : Staging) (p : AsyncParams) : Bool := decide (p.positions ≤ st.bits.length + 1)

/-- An edge while the receiver is receiving: noted, and an edge to the idle level ends a wait of the break test (R98, R99). -/
def State.asyncReceiving (d : Fin 6) (p : AsyncParams) (high : Bool) (st : Staging) (rc : Receiver) (s : State) : State :=
  if st.awaitsBreak p && high then s.judge d p rc.start st
  else s.setStaging d { st with receiver := some { rc with edgeSeen := true } }

/-- A start edge in BUSY begins the next character and stops the idle-gap timer; at the gap's expiry or later the transaction ends first (R98, R102). -/
def State.asyncNextCharacter (d : Fin 6) (p : AsyncParams) (stamp : Nat) (st : Staging) (s : State) : State :=
  match s.decoders[d].timer with
  | some t =>
    if t ≤ stamp then (s.gapEnd d t).asyncStart d p stamp
    else s.putDecoder d { s.decoders[d].withStaging { st with receiver := some { start := stamp, edgeSeen := false } } with
      timer := some (p.samplePoint stamp 1) }
  | none => s.putDecoder d { s.decoders[d].withStaging { st with receiver := some { start := stamp, edgeSeen := false } } with
      timer := some (p.samplePoint stamp 1) }

/-- An edge in SYNCING acts on the timer (R97). -/
def Decoder.asyncSyncTimer (dec : Decoder) (p : AsyncParams) (stamp : Nat) : Decoder :=
  { dec with timer := if dec.logical p then some (stamp + p.charTime) else none }

/-- An ASYNC edge; the line view already has it (R97 to R102). -/
def State.asyncEdge (d : Fin 6) (p : AsyncParams) (stamp : Nat) (s : State) : State :=
  let dec := s.decoders[d]
  let high := dec.logical p
  match dec.state with
  | .syncing => s.putDecoder d (dec.asyncSyncTimer p stamp)
  | .idle => if high then s else s.asyncStart d p stamp
  | .busy => match dec.staging with
      | none => s
      | some st => match st.receiver with
          | some rc => s.asyncReceiving d p high st rc
          | none => if high then s else s.asyncNextCharacter d p stamp st
  | .stopped | .suspended => s

/-! ### Edges of one sample at one decoder (R56, R79, R90, R92) -/

/-- The edge of one role reaches a decoder: the line view follows it, then the profile takes it (R59). An edge to the level that the line view holds was taken with an expiry of its stamp (R77, log entry 4). -/
def State.roleEdge (d : Fin 6) (stamp : Nat) (s : State) (e : Role × Bool) : State :=
  match s.decoders[d].state with
  | .stopped | .suspended => s
  | .syncing | .idle | .busy =>
    if s.decoders[d].level e.1 = e.2 then s else
    let s1 := s.putDecoder d (s.decoders[d].withLevel e.1 e.2)
    match s.decoders[d].params with
    | .none => s
    | .twoWire => s1.twoWireEdge d e.1 e.2 stamp
    | .clocked p => s1.clockedEdge d p e.1 e.2 stamp
    | .async p => s1.asyncEdge d p stamp

/-- The bound roles of a decoder whose channel is among those with an edge at this sample, with the level each edge goes to. -/
def State.roleEdges (s : State) (d : Fin 6) (channels : List (Fin 32)) : List (Role × Bool) :=
  (s.decoders[d].params.roles).filterMap fun r => match s.decoders[d].channelOf r with
    | none => none
    | some c => if channels.contains c then some (r, s.channels[c].accepted) else none

/-- An edge of a select to its inactive level. -/
def ClockedParams.goesInactive (p : ClockedParams) (e : Role × Bool) : Bool := e.1.selectIndex.isSome && e.2 != p.activeHigh

/-- An edge of a select to its active level. -/
def ClockedParams.goesActive (p : ClockedParams) (e : Role × Bool) : Bool := e.1.selectIndex.isSome && e.2 == p.activeHigh

/-- The CLOCKED order of edges of one sample (R90 to R92): a select becoming active before CLOCK, or after it and after the select that goes inactive at the same sample; lower indices first; OUT and IN last. -/
def ClockedParams.order (p : ClockedParams) (es : List (Role × Bool)) : List (Role × Bool) :=
  let clock := es.filter fun e => e.1 == .clock
  let down := es.filter p.goesInactive
  let up := es.filter p.goesActive
  let lines := es.filter fun e => e.1 == .out || e.1 == .inp
  if down.isEmpty then up ++ clock ++ lines else clock ++ down ++ up ++ lines

/-- The order in which a profile takes edges of one sample: TWO_WIRE takes CLOCK before DATA (R79), which is the order of its roles. -/
def Params.order (p : Params) (es : List (Role × Bool)) : List (Role × Bool) :=
  match p with
  | .clocked c => c.order es
  | .none | .twoWire | .async _ => es

/-- The edges of one sample reach a decoder (R18, R56). -/
def State.decoderEdges (channels : List (Fin 32)) (stamp : Nat) (d : Fin 6) (s : State) : State :=
  (s.decoders[d].params.order (s.roleEdges d channels)).foldl (State.roleEdge d stamp) s

/-! ### Profile timer expiries (R60, R77)

An expiry reads the line view with every edge of its stamp applied (R77). The command brings the levels of the lines at that stamp: an edge of the stamp that has not been delivered is taken first, and the expiry then acts on what that leaves. Its delivery, when it comes, finds the line view at its level and changes nothing. -/

/-- Time reaches an expiry, and the edges of its stamp that these levels show are taken (R77). -/
def State.atExpiry (d : Fin 6) (t : Nat) (levels : List (Role × Bool)) (s : State) : State :=
  levels.foldl (State.roleEdge d t) (s.advance t)

/-- The idle condition of SYNCING is met at the expiry of the timer, when no edge of that stamp has ended it (R80, R97). -/
def State.idleAt (d : Fin 6) (t : Nat) (s : State) : State :=
  if s.decoders[d].timer = some t then s.putDecoder d (s.decoders[d].afterEnd .idle none) else s

/-- TWO_WIRE_IDLE_EXPIRY (R80): both lines have been high for 50 µs in SYNCING; CLOCK's edges come before DATA's (R79). -/
def twoWireIdleExpiry (d : Fin 6) (clock data : Bool) (s : State) : State :=
  let dec := s.decoders[d]
  match dec.params, dec.state, dec.timer with
  | .twoWire, .syncing, some t => (s.atExpiry d t [(.clock, clock), (.data, data)]).idleAt d t
  | _, _, _ => s

/-- ASYNC_IDLE_EXPIRY (R97): the line has been idle for one character time in SYNCING. -/
def asyncIdleExpiry (d : Fin 6) (line : Bool) (s : State) : State :=
  let dec := s.decoders[d]
  match dec.params, dec.state, dec.timer with
  | .async _, .syncing, some t => (s.atExpiry d t [(.line, line)]).idleAt d t
  | _, _, _ => s

/-- The ASYNC decoder is receiving a character: its parameters, staging, receiver and timer. -/
def Decoder.receiving (dec : Decoder) : Option (AsyncParams × Staging × Receiver × Nat) :=
  match dec.params, dec.state, dec.staging, dec.timer with
  | .async p, .busy, some st, some t => match st.receiver with
      | some rc => some (p, st, rc, t)
      | none => none
  | _, _, _, _ => none

/-- The logical level is taken as the next bit of the character (R98). -/
def Staging.sampleBit (st : Staging) (bit : Bool) : Staging := { st with bits := st.bits ++ [bit] }

/-- The bit of a position before the last is taken, and the timer goes to the next position (R98). -/
def State.takeSample (d : Fin 6) (s : State) : State :=
  let dec := s.decoders[d]
  match dec.receiving with
  | none => s
  | some (p, st, rc, _) =>
    s.putDecoder d { dec.withStaging (st.sampleBit (dec.logical p)) with
      timer := some (p.samplePoint rc.start (st.bits.length + 2)) }

/-- ASYNC_SAMPLE_POINT (R98): a sample point before the last. -/
def asyncSamplePoint (d : Fin 6) (line : Bool) (s : State) : State :=
  match s.decoders[d].receiving with
  | none => s
  | some (p, st, _, t) =>
    if st.bits.length + 2 < p.positions then (s.atExpiry d t [(.line, line)]).takeSample d else s

/-- The bit of the last position is taken (R99): a character with an edge since its start edge is judged, and one without waits for the break test. -/
def State.lastSample (d : Fin 6) (s : State) : State :=
  let dec := s.decoders[d]
  match dec.receiving with
  | none => s
  | some (p, st, rc, _) =>
    let st' := st.sampleBit (dec.logical p)
    if rc.edgeSeen then (s.putDecoder d { dec.withStaging st' with timer := none }).judge d p rc.start st'
    else s.putDecoder d { dec.withStaging st' with timer := some (rc.start + p.charTime) }

/-- CHARACTER_JUDGED (R99): the last sample point. -/
def characterJudged (d : Fin 6) (line : Bool) (s : State) : State :=
  match s.decoders[d].receiving with
  | none => s
  | some (p, st, _, t) =>
    if st.bits.length + 2 = p.positions then (s.atExpiry d t [(.line, line)]).lastSample d else s

/-- The break test (R99): a line still at the start level makes the character a break; an edge to the idle level has ended the wait. -/
def State.breakTest (d : Fin 6) (t : Nat) (s : State) : State :=
  let dec := s.decoders[d]
  match dec.receiving with
  | none => s
  | some (p, _, _, _) => if dec.logical p then s else s.abortToSyncing d .break t

/-- BREAK_TIMEOUT (R99): one character time after the start edge of a character that waits for the break test. -/
def breakTimeout (d : Fin 6) (line : Bool) (s : State) : State :=
  let dec := s.decoders[d]
  match dec.receiving with
  | none => s
  | some (p, st, _, t) =>
    if st.awaitsBreak p && !dec.logical p then (s.atExpiry d t [(.line, line)]).breakTest d t else s

/-- IDLE_GAP_EXPIRY (R102): the idle gap is over and the transaction ends clean. -/
def idleGapExpiry (d : Fin 6) (s : State) : State :=
  let dec := s.decoders[d]
  match dec.params, dec.state, dec.staging, dec.timer with
  | .async _, .busy, some st, some t => if st.receiver.isNone then (s.advance t).gapEnd d t else s
  | _, _, _, _ => s

/-! ### The meanings -/

/-- The row TWO_WIRE_IDLE_EXPIRY. -/
def execTwoWireIdleExpiry (d : Fin 6) (clock data : Bool) (s : State) : Result :=
  .next (s.take (.twoWireIdleExpiry d clock data) (twoWireIdleExpiry d clock data))
/-- The row ASYNC_IDLE_EXPIRY. -/
def execAsyncIdleExpiry (d : Fin 6) (line : Bool) (s : State) : Result :=
  .next (s.take (.asyncIdleExpiry d line) (asyncIdleExpiry d line))
/-- The row ASYNC_SAMPLE_POINT. -/
def execAsyncSamplePoint (d : Fin 6) (line : Bool) (s : State) : Result :=
  .next (s.take (.asyncSamplePoint d line) (asyncSamplePoint d line))
/-- The row CHARACTER_JUDGED. -/
def execCharacterJudged (d : Fin 6) (line : Bool) (s : State) : Result :=
  .next (s.take (.characterJudged d line) (characterJudged d line))
/-- The row BREAK_TIMEOUT. -/
def execBreakTimeout (d : Fin 6) (line : Bool) (s : State) : Result :=
  .next (s.take (.breakTimeout d line) (breakTimeout d line))
/-- The row IDLE_GAP_EXPIRY. -/
def execIdleGapExpiry (d : Fin 6) (s : State) : Result := .next (s.take (.idleGapExpiry d) (idleGapExpiry d))

end Sys2Proof.Machine
end

