-- ==== Sys2Proof/Machine/Channels.lean ====
section
/-! DEFINITION. The Channel Front End (sections 1.10, R16 to R20): the glitch filter, one sample at a time, and the delivery of accepted edges to the decoders and meters. -/

namespace Sys2Proof.Machine

/-! ### The filter (R16, R17) -/

/-- The sample that shows the other level is the one at which the filter accepts the change (R17, R19). -/
def Channel.accepts (c : Channel) : Bool :=
  match c.candidate with
  | none => c.width == 0
  | some k => decide (c.width.val ≤ k.held + 1)

/-- The channel after an accepted change: the other level, no candidate (R17). -/
def Channel.flip (c : Channel) : Channel := { c with accepted := !c.accepted, candidate := none }

/-- The channel after a sample that accepts no change (R17). -/
def Channel.sampled (c : Channel) (level : Bool) : Channel :=
  if level = c.accepted then { c with candidate := none }
  else match c.candidate with
    | none => { c with candidate := some { level, held := 0 } }
    | some k => { c with candidate := some { k with held := k.held + 1 } }

/-- A change of the channel can be accepted at this sample: its pod is LIVE and the filter has seen enough (R17, R20). -/
def State.canAccept (s : State) (c : Fin 32) : Bool := s.podLive (podOf c) && s.channels[c].accepts

/-- The channel's filter is replaced, and its comparator output is known to be at a level. -/
def State.setChannel (c : Fin 32) (ch : Channel) (level : Bool) (s : State) : State :=
  { s with channels := s.channels.set c ch, pins := s.pins.setLevel c level }

/-- The change of one channel is accepted. -/
def State.acceptChange (s : State) (c : Fin 32) : State := s.setChannel c s.channels[c].flip (!s.channels[c].accepted)

/-! ### Delivery (R18) -/

/-- The edges of one sample reach a meter in the order in which the command lists their channels; R18 gives none, and every order leaves the meter the same (R107, log entry 5). -/
def State.meterEdges (channels : List (Fin 32)) (stamp : Nat) (m : Fin 8) (s : State) : State :=
  channels.foldl (fun s c => s.meterEdge m c s.channels[c].accepted stamp) s

/-- The edges of one sample reach one taker. -/
def State.taken (channels : List (Fin 32)) (stamp : Nat) (s : State) : Taker → State
  | .decoder d => s.decoderEdges channels stamp d
  | .meter m => s.meterEdges channels stamp m

/-- All takers: the decoders, then the meters. -/
def allTakers : List Taker := (List.finRange 6).map .decoder ++ (List.finRange 8).map .meter

/-- The takers in the order that the command names, then the others (log entry 5). -/
def takerOrder (order : List Taker) : List Taker := order ++ allTakers.filter fun t => !order.contains t

/-- The edges of these channels, accepted at one sample, are delivered to every decoder and meter (R18). -/
def State.deliver (channels : List (Fin 32)) (stamp : Nat) (order : List Taker) (s : State) : State :=
  (takerOrder order).foldl (State.taken channels stamp) s

/-- ACCEPTED_EDGE (R17, R18): the changes that the filters accept at a sample, with their edges; a change that cannot be accepted is passed over (log entry 10). -/
def acceptedEdge (channel : Fin 32) (also : List (Fin 32)) (stamp : Nat) (order : List Taker) (s : State) : State :=
  let channels := (channel :: also).filter s.canAccept
  if channels.isEmpty then s
  else (channels.foldl State.acceptChange (s.advance stamp)).deliver channels stamp order

/-- FILTER_CANDIDATE (R17): a sample that accepts no change; the filter of a pod that is not LIVE takes none (R1). -/
def filterCandidate (c : Fin 32) (level : Bool) (stamp : Nat) (s : State) : State :=
  if s.podLive (podOf c) = false then s
  else if level ≠ s.channels[c].accepted ∧ s.channels[c].accepts = true then s
  else (s.advance stamp).setChannel c (s.channels[c].sampled level) level

/-! ### One sample of every channel -/

/-- A channel's filter after a sample of its pin that accepts no change; a channel of a pod that is not LIVE takes none. -/
def State.sampleOne (s : State) (c : Fin 32) : Channel :=
  if s.podLive (podOf c) && !(s.pins.level c != s.channels[c].accepted && s.channels[c].accepts) then
    s.channels[c].sampled (s.pins.level c)
  else s.channels[c]

/-- The channels whose pin shows an acceptable change. -/
def State.changing (s : State) : List (Fin 32) :=
  (List.finRange 32).filter fun c => s.canAccept c && s.pins.level c != s.channels[c].accepted

/-- Every filter takes the sample at the present moment: what is accepted is one delivery (log entry 3). -/
def State.sampleAll (s : State) : State :=
  let s1 := { s with channels := tab s.sampleOne }
  match s.changing with
  | [] => s1
  | c :: cs => acceptedEdge c cs s.clock.now [] s1

/-! ### The meanings -/

/-- The row ACCEPTED_EDGE. -/
def execAcceptedEdge (channel : Fin 32) (also : List (Fin 32)) (stamp : Nat) (order : List Taker) (s : State) : Result :=
  .next (s.take (.acceptedEdge channel also stamp order) (acceptedEdge channel also stamp order))
/-- The row FILTER_CANDIDATE. -/
def execFilterCandidate (c : Fin 32) (level : Bool) (stamp : Nat) (s : State) : Result :=
  .next (s.take (.filterCandidate c level stamp) (filterCandidate c level stamp))

end Sys2Proof.Machine
end

