-- ==== Sys2Proof/Machine/Device.lean ====
section
/-! DEFINITION. The device requests (sections 10.11 and 10.12), the full reset and the millisecond count (R203, R209). -/

namespace Sys2Proof.Machine

/-- The DEV_IDENT payload (R204, R218). -/
def identBytes : List Byte := [0x48, 0x19, 0x14, 1, 4, 32, 6, 8, 32, 16, 64, 0x04, 0x00, 32, 40, 16]

/-- DEV_IDENT (R204). -/
def devIdent (s : State) : State := s.answered .ok identBytes

/-- The number of LIVE slots (R205). -/
def Store.liveCount (st : Store) : Nat := (List.finRange 64).countP fun i => (st.slots[i].record).isSome

/-- The owners of the DEV_STATUS items, in the order of the payload (R205, section 11.7). -/
def statusOwners : List StatusOwner :=
  [.timeBase, .watchUnit, .podController, .decoderBank, .meterArray, .panelLink, .targetStore]

/-- The items of DEV_STATUS that an owner gives, as it stands (R205, R218). -/
def State.statusItems (s : State) : StatusOwner → List Byte
  | .timeBase => be32 s.clock.ms
  | .watchUnit =>
    [flags [s.watch.freeze, s.watch.hold], s.watch.podFault.setWidth 8] ++ be32 s.watch.cause ++ s.watch.noticeBytes
  | .podController => (List.finRange 4).map fun p => s.pods[p].state.number
  | .decoderBank => (List.finRange 6).map fun d => s.decoders[d].state.code
  | .meterArray => (List.finRange 8).map fun m => s.meters[m].state.code
  | .panelLink => [s.panel.link.code]
  | .targetStore => be16 (BitVec.ofNat 16 s.store.free) ++ [byte s.store.liveCount]

/-- The items of an owner in a DEV_STATUS: those it gave at an earlier moment of the request, else as it stands (R205). -/
def State.givenItems (s : State) (o : StatusOwner) : List Byte := (s.port.gathered.lookup o).getD (s.statusItems o)

/-- The owner gives its items at a later moment: it is named, and has not given them yet. -/
def Port.waitsFor (p : Port) (later : List StatusOwner) (o : StatusOwner) : Bool :=
  later.contains o && (p.gathered.lookup o).isNone

/-- A DEV_STATUS that a frame brought is on its way, so its owners may give their items at moments of their own (R205). -/
def Port.gathers (p : Port) : Bool := p.state == .executing && p.request == some (.devStatus [])

/-- The port with the items that its owners have given so far. -/
def State.gather (later : List StatusOwner) (s : State) : State :=
  { s with port := { s.port with
      gathered := (statusOwners.filter fun o => !s.port.waitsFor later o).map fun o => (o, s.givenItems o) } }

/-- The answer of DEV_STATUS: every item in the order of the payload (R205, section 11.7). -/
def State.answerStatus (s : State) : State :=
  ({ s with port := { s.port with gathered := [] } }).answered .ok (statusOwners.flatMap s.givenItems)

/-- DEV_STATUS (R205): the owners give their items, each in one operation, and the last completes the answer; a DEV_STATUS that no frame brought is one moment (log entry 15). -/
def devStatus (later : List StatusOwner) (s : State) : State :=
  if s.port.gathers && statusOwners.any (s.port.waitsFor later) then s.gather later else s.answerStatus

/-- A slot after a restart: a LIVE one is FREE and its generation advances (R53). -/
def Slot.restarted (x : Slot) : Slot := if x.record.isSome then { gen := x.gen + 1, record := none } else x

/-- The store after a restart: every record retired without a notice, all cells in the pool (R53). -/
def Store.restarted (st : Store) : Store :=
  { slots := tab fun i => st.slots[i].restarted, free := Config.poolCells }

/-- The Watch Unit after a restart: the pod masks are kept, and what it derives is derived afresh without a report (R147, R157). -/
def WatchUnit.restarted (u : WatchUnit) : WatchUnit :=
  { WatchUnit.reset with podFault := u.podFault, podChange := u.podChange }.derived

/-- The Compositor after a restart at a millisecond count (R178). -/
def Display.restarted (ms : Word) : Display := { Display.reset with nextTick := ms + 100 }

/-- Stage 1 of a restart: the sources are stopped (R207). -/
def State.stopSources (s : State) : State :=
  { s with decoders := Vector.replicate 6 Decoder.reset, meters := Vector.replicate 8 Meter.reset }

/-- Stage 2 of a restart: the records are emptied (R208). -/
def State.emptyRecords (s : State) : State :=
  { s with
    store := s.store.restarted
    watch := s.watch.restarted
    display := Display.restarted s.clock.ms
    panel := Panel.reset
    backlight := Backlight.reset }

/-- DEV_RESTART (R206): both stages in one step (log entry 15). -/
def devRestart (s : State) : State := s.stopSources.emptyRecords.ok

/-- The pins when RESET goes low, or when it goes high again with these sense lines; the other input pins stay as the outside drives them (log entry 6). -/
def Pins.afterReset (sense : Option (BitVec 4)) (p : Pins) : Pins :=
  match sense with
  | none => { p with resetLow := true }
  | some sense => { p with sense, resetLow := false }

/-- FULL_RESET (R21, R209): RESET goes low and every block is at its full reset values, no pod sensed; or the reset ends with these sense lines (log entry 22). -/
def fullReset (sense : Option (BitVec 4)) (s : State) : State :=
  { State.resetWith (s.pins.afterReset sense) with pending := s.pending }

/-- MILLISECOND_TICK (R203). -/
def millisecondTick (s : State) : State :=
  { s with clock := { now := max s.clock.now s.clock.nextMsAt
                      ms := s.clock.ms + 1
                      nextMsAt := s.clock.nextMsAt + Config.samplesPerMillisecond } }

/-! ### The meanings -/

/-- The row DEV_IDENT. -/
def execDevIdent (s : State) : Result := .next (s.take .devIdent devIdent)
/-- The row DEV_STATUS. -/
def execDevStatus (later : List StatusOwner) (s : State) : Result := .next (s.take (.devStatus later) (devStatus later))
/-- The row DEV_RESTART. -/
def execDevRestart (s : State) : Result := .next (s.take .devRestart devRestart)
/-- The row FULL_RESET. -/
def execFullReset (sense : Option (BitVec 4)) (s : State) : Result := .next (s.take (.fullReset sense) (fullReset sense))
/-- The row MILLISECOND_TICK. -/
def execMillisecondTick (s : State) : Result := .next (s.take .millisecondTick millisecondTick)

end Sys2Proof.Machine
end

