-- ==== Sys2Proof/Machine/Layout.lean ====
section
/-! DEFINITION. The layout of a pane (section 8.7): the text of each subject, the flow of target entries, and the cell at each place of the rectangle. -/

namespace Sys2Proof.Machine

/-! ### Characters and numbers -/

/-- The codes of a list of characters (section 5.9). -/
def codes (cs : List Char) : List Byte := cs.map fun c => byte c.toNat

/-- The character of a digit, in uppercase. -/
def digitCode (d : Nat) : Byte := if d < 10 then byte (0x30 + d) else byte (0x37 + d)

/-- Exactly `k` digits of a number, most significant first. -/
def fixedDigits (base k n : Nat) : List Byte := (List.range k).reverse.map fun i => digitCode (n / base ^ i % base)

/-- The digits of a number below base^fuel, least significant first, without leading zeros. -/
def digitsUp (base : Nat) : Nat → Nat → List Byte
  | 0, _ => []
  | fuel + 1, n => if n < base then [digitCode n] else digitCode (n % base) :: digitsUp base fuel (n / base)

/-- A 32-bit number in decimal without leading zeros (R173). -/
def decimal (n : Nat) : List Byte := (digitsUp 10 10 n).reverse

/-- A 32-bit number in uppercase hex without leading zeros (R173). -/
def hexadecimal (n : Nat) : List Byte := (digitsUp 16 8 n).reverse

/-- A count in the pane's format: hex, or decimal in any other (R174). -/
def countText (f : Format) (n : Nat) : List Byte :=
  match f with
  | .hex => hexadecimal n
  | .dec | .bin | .time => decimal n

/-- Four significant digits of t/unit with the point in its place, the rest dropped (R173). -/
def fourDigits (t unit : Nat) : List Byte :=
  if 100 ≤ t / unit then fixedDigits 10 3 (t / unit) ++ codes ['.'] ++ fixedDigits 10 1 (t * 10 / unit % 10)
  else if 10 ≤ t / unit then fixedDigits 10 2 (t / unit) ++ codes ['.'] ++ fixedDigits 10 2 (t * 100 / unit % 100)
  else fixedDigits 10 1 (t / unit) ++ codes ['.'] ++ fixedDigits 10 3 (t * 1000 / unit % 1000)

/-- A time of `t` nanoseconds (R173). -/
def timeText (t : Nat) : List Byte :=
  if t < 1000 then fourDigits t 1 ++ codes ['n', 's']
  else if t < 1000000 then fourDigits t 1000 ++ codes ['u', 's']
  else if t < 1000000000 then fourDigits t 1000000 ++ codes ['m', 's']
  else fourDigits t 1000000000 ++ codes ['s']

/-! ### Names (R174) -/

/-- The name of a pod state. -/
def PodState.text : PodState → List Byte
  | .absent => codes ['A', 'B', 'S', 'E', 'N', 'T']
  | .off => codes ['O', 'F', 'F']
  | .ramping => codes ['R', 'A', 'M', 'P', 'I', 'N', 'G']
  | .settling => codes ['S', 'E', 'T', 'T', 'L', 'I', 'N', 'G']
  | .isolated => codes ['I', 'S', 'O', 'L', 'A', 'T', 'E', 'D']
  | .live => codes ['L', 'I', 'V', 'E']
  | .stopping => codes ['S', 'T', 'O', 'P', 'P', 'I', 'N', 'G']

/-- The name of a watch state. -/
def WatchState.text : WatchState → List Byte
  | .off => codes ['O', 'F', 'F']
  | .idle => codes ['I', 'D', 'L', 'E']
  | .tripped => codes ['T', 'R', 'I', 'P', 'P', 'E', 'D']
  | .held => codes ['H', 'E', 'L', 'D']
  | .dormant => codes ['D', 'O', 'R', 'M', 'A', 'N', 'T']

/-- The name of a decoder state. -/
def DecState.text : DecState → List Byte
  | .stopped => codes ['S', 'T', 'O', 'P', 'P', 'E', 'D']
  | .suspended => codes ['S', 'U', 'S', 'P', 'E', 'N', 'D', 'E', 'D']
  | .syncing => codes ['S', 'Y', 'N', 'C', 'I', 'N', 'G']
  | .idle => codes ['I', 'D', 'L', 'E']
  | .busy => codes ['B', 'U', 'S', 'Y']

/-- The name of the current notice. -/
def Notice.text : Notice → List Byte
  | .none => codes ['N', 'O', 'N', 'E']
  | .podFault => codes ['P', 'O', 'D', '_', 'F', 'A', 'U', 'L', 'T']
  | .podChange => codes ['P', 'O', 'D', '_', 'C', 'H', 'A', 'N', 'G', 'E']
  | .panelLost => codes ['P', 'A', 'N', 'E', 'L', '_', 'L', 'O', 'S', 'T']
  | .storeFull => codes ['S', 'T', 'O', 'R', 'E', '_', 'F', 'U', 'L', 'L']
  | .cellsFull => codes ['C', 'E', 'L', 'L', 'S', '_', 'F', 'U', 'L', 'L']
  | .watch i => codes ['W'] ++ fixedDigits 10 2 i

/-- The dashes that stand for no value. -/
def dashes : List Byte := codes ['-', '-', '-', '-']

/-- A space between two words. -/
def space : List Byte := codes [' ']

/-! ### Lines of the subjects (R173, R174) -/

/-- The number that a METER pane shows, when its status and count give one (R173). -/
def MeterRecord.shown (r : MeterRecord) : MeterField → Option Word
  | .last => if r.status = .valid then some r.last else none
  | .min => if r.status = .none ∨ r.count = 0 then none else some r.min
  | .max => if r.status = .none ∨ r.count = 0 then none else some r.max
  | .count => if r.status = .none then none else some r.count
  | .disturbed => none

/-- A METER pane shows this field of this meter as a time (R173). -/
def Meter.isTime (m : Meter) (field : MeterField) (f : Format) : Bool :=
  f == .time && field != .count && m.config.mode != .count

/-- The line of a METER pane (R173). -/
def Meter.line (m : Meter) (field : MeterField) (f : Format) : List Byte :=
  match m.record.shown field with
  | some v => if m.isTime field f then timeText (4 * v.toNat) else countText f v.toNat
  | none => if field = .last ∧ m.record.status = .overrange then codes ['O', 'V', 'E', 'R'] else dashes

/-- The threshold of a code in volts, two decimal places, the third dropped (R174). -/
def thresholdText (code : Byte) : List Byte :=
  let centivolts := (300 + 25 * code.toNat) / 10
  fixedDigits 10 1 (centivolts / 100) ++ codes ['.'] ++ fixedDigits 10 2 (centivolts % 100) ++ codes ['V']

/-- The line of a POD pane (R174). -/
def Pod.line (p : Pod) : List Byte := p.state.text ++ space ++ thresholdText p.code

/-- The line of a WATCH pane (R174). -/
def Watch.line (w : Watch) (f : Format) : List Byte := w.state.text ++ space ++ countText f w.hits.toNat

/-- The line of a DECODER pane (R174). -/
def Decoder.line (d : Decoder) (f : Format) : List Byte := d.state.text ++ space ++ countText f d.applied.toNat

/-- The line of a DEVICE pane (R174). -/
def WatchUnit.line (u : WatchUnit) : List Byte :=
  (if u.freeze then codes ['F', 'R', 'O', 'Z', 'E', 'N'] else codes ['R', 'U', 'N']) ++ space ++ u.current.text

/-! ### Target entries (R171, R172) -/

/-- One character laid out, and whether it belongs to a mismatch entry (R172). -/
structure Glyph where
  code     : Byte
  mismatch : Bool
deriving DecidableEq, Repr

/-- Characters that belong to no mismatch entry. -/
def plain (cs : List Byte) : List Glyph := cs.map fun c => { code := c, mismatch := false }

/-- The number of digits of a value field (R171). -/
def Format.width : Format → Nat
  | .hex => 2
  | .dec => 3
  | .bin => 8
  | .time => 2

/-- The base of a value field (R171). -/
def Format.base : Format → Nat
  | .hex => 16
  | .dec => 10
  | .bin => 2
  | .time => 16

/-- The value field of an entry: the digits, or dashes for no value (R171). -/
def valueText (f : Format) (v : Option Byte) : List Byte :=
  match v with
  | some b => fixedDigits f.base f.width b.toNat
  | none => List.replicate f.width 0x2D

/-- The cell is a mismatch (R172). -/
def TargetCell.isMismatch (c : TargetCell) : Bool :=
  match c.value, c.expected with
  | some v, some e => mismatches (v.setWidth 32) e
  | _, _ => false

/-- The entry of one register (R171, R172). -/
def entry (cells : List TargetCell) (f : Format) (reg : Byte) : List Glyph :=
  let cell := cellAt reg cells
  (fixedDigits 16 2 reg.toNat ++ codes [':'] ++ valueText f (cell.bind (·.value))).map fun c =>
    { code := c, mismatch := cell.any TargetCell.isMismatch }

/-- A line that is not empty. -/
def lineOf (cur : List Glyph) : List (List Glyph) := if cur.isEmpty then [] else [cur]

/-- The entries flow into lines of a width; `true` when an entry is longer than the width, which ends the flow (R171). -/
def flow (width : Nat) : List Glyph → List (List Glyph) → List (List Glyph) × Bool
  | cur, [] => (lineOf cur, false)
  | cur, e :: es =>
    if width < e.length then (lineOf cur, true)
    else if cur.isEmpty then flow width e es
    else if cur.length + 1 + e.length ≤ width then flow width (cur ++ plain space ++ e) es
    else let rest := flow width e es
      (cur :: rest.1, rest.2)

/-! ### The rectangle (R170, R175) -/

/-- What a pane lays out: its lines, whether one was cut or an entry did not fit, and whether '*' is shown. -/
structure Content where
  lines    : List (List Glyph)
  cut      : Bool
  withheld : Bool
deriving DecidableEq, Repr

/-- The content of a subject of one line (R170). -/
def oneLine (width : Nat) (cs : List Byte) : Content :=
  { lines := [plain cs], cut := decide (width < cs.length), withheld := false }

/-- The content of a TARGET pane (R171, R172). -/
def targetContent (width : Nat) (f : Format) (first count : Byte) (r : Record) : Content :=
  let flowed := flow width [] ((List.range count.toNat).map fun k => entry r.cells f (byte (first.toNat + k)))
  { lines := flowed.1, cut := flowed.2, withheld := r.withheldMark }

/-- The content of a pane, read at this moment (R169 to R174). -/
def State.content (s : State) (p : Pane) : Content :=
  match p.state with
  | .orphaned => oneLine p.rect.width dashes
  | .free | .live => match p.subject with
      | .none => { lines := [], cut := false, withheld := false }
      | .target h first count => match s.store.reach h with
          | some (_, r) => targetContent p.rect.width p.format first count r
          | none => oneLine p.rect.width dashes
      | .meter m field => oneLine p.rect.width (s.meters[m].line field p.format)
      | .pod q => oneLine p.rect.width s.pods[q].line
      | .watch w => oneLine p.rect.width (s.watch.watches[w].line p.format)
      | .decoder d => oneLine p.rect.width (s.decoders[d].line p.format)
      | .device => oneLine p.rect.width s.watch.line

/-- The rows that the label takes (R170). -/
def Pane.labelRows (p : Pane) : Nat := if p.label.isEmpty then 0 else 1

/-- Lines remain that have no row, or a line was cut (R170). -/
def Pane.overflows (p : Pane) (c : Content) : Bool := c.cut || decide (p.rect.height - p.labelRows < c.lines.length)

/-- A blank character. -/
def Glyph.blank : Glyph := { code := 0x20, mismatch := false }

/-- The label and the lines at a place of the rectangle (R170). -/
def Pane.textAt (p : Pane) (c : Content) (row col : Nat) : Glyph :=
  if row < p.labelRows then (plain p.label).getD col Glyph.blank
  else (c.lines.getD (row - p.labelRows) []).getD col Glyph.blank

/-- The character at a place: '*' before '>' before the text (R170, R172). -/
def Pane.glyphAt (p : Pane) (c : Content) (row col : Nat) : Glyph :=
  if c.withheld ∧ row = 0 ∧ col + 1 = p.rect.width then { code := 0x2A, mismatch := false }
  else if p.overflows c ∧ row + 1 = p.rect.height ∧ col + 1 = p.rect.width then { code := 0x3E, mismatch := false }
  else p.textAt c row col

/-- The attribute of a character in a pane (R175). -/
def attrOf (highlight mismatch : Bool) : Attr :=
  match highlight, mismatch with
  | false, false => .normal
  | false, true => .inverse
  | true, false => .inverse
  | true, true => .dim

/-- The grid cell at a place of the rectangle (R169 to R175). -/
def Pane.cellAt (p : Pane) (c : Content) (row col : Nat) : GridCell :=
  let g := p.glyphAt c row col
  { code := g.code, attr := attrOf p.highlight g.mismatch }

end Sys2Proof.Machine
end

