-- ==== Sys2Proof/Machine/PanelLink.lean ====
section
/-! DEFINITION. The Panel Link and the backlight (chapter 9): the dirty-row set, the test for a burst, bursts, loss, the panel requests and the backlight. -/

namespace Sys2Proof.Machine

/-! ### The dirty-row set and bursts (R180 to R182) -/

/-- All 16 rows. -/
def allRows : BitVec 16 := BitVec.allOnes 16

/-- The link with rows marked dirty (R180). -/
def Panel.mark (rows : BitVec 16) (p : Panel) : Panel := { p with dirty := p.dirty ||| rows }

/-- Rows are marked dirty; the test for a burst follows at the end of the command (log entry 14). -/
def State.markRows (rows : BitVec 16) (s : State) : State := { s with panel := s.panel.mark rows }

/-- The length of a burst in sample periods (R182). -/
def Rate.burstTime (r : Rate) : Nat := Config.burstBits * Config.samplesPerMicrosecond / r.mhz

/-- The burst of a row of the grid that starts now (R182). -/
def Burst.of (row : Fin 16) (grid : Vector GridRow 16) (rate : Rate) (now : Nat) : Burst :=
  { row, cells := grid[row], rate, endsAt := now + rate.burstTime }

/-- The link with the burst of a row in flight, the row out of the set and the wait timer stopped (R181, R182). -/
def Panel.send (p : Panel) (b : Burst) : Panel :=
  { p with link := .sending, wait := none, burst := some b, dirty := p.dirty &&& ~~~(BitVec.twoPow 16 b.row) }

/-- A burst starts with the lowest row of the set (R182). -/
def State.startBurst (s : State) : State :=
  match lowest? s.panel.dirty with
  | none => s
  | some r => { s with panel := s.panel.send (Burst.of r s.display.grid s.panel.rate s.clock.now) }

/-- The link in WAITING with the wait timer started from 0 (R181). -/
def Panel.startWait (p : Panel) (now : Nat) : Panel := { p with link := .waiting, wait := some (now + Config.panelWaitTime) }

/-- LBUSY is known to be at a level. -/
def State.setLbusy (l : Bool) (s : State) : State := { s with pins := { s.pins with lbusy := l } }

/-- The test for a burst (R181): in IDLE with rows waiting LBUSY is read, a low one starts a burst and a high one the wait; in every other state LBUSY is not read and nothing changes (R179). -/
def State.panelTest (lbusy : Bool) (s : State) : State :=
  if s.panel.link = .idle ∧ s.panel.dirty ≠ 0 then
    if lbusy then { s.setLbusy lbusy with panel := s.panel.startWait s.clock.now } else (s.setLbusy lbusy).startBurst
  else s

/-- The code sent for a cell: one outside 0x20..0x7E goes as '?' (R182, R219). -/
def sentCode (c : Byte) : Byte := if 0x20 ≤ c.toNat ∧ c.toNat ≤ 0x7E then c else 0x3F

/-- The two bytes of one column (R219). -/
def GridCell.bytes (c : GridCell) : List Byte := [sentCode c.code, c.attr.code]

/-- The bytes of a burst as LDAT carries them (R182, R219). -/
def Burst.bytes (b : Burst) : List Byte := byte b.row :: b.cells.toList.flatMap GridCell.bytes

/-- The bits of a burst as LDAT carries them, most significant bit first (R182, R219). -/
def Burst.bits (b : Burst) : List Bool := bitsOf b.bytes

/-- The bit period that a sample falls in, one period of LSCK at the burst's rate for each bit (R182). -/
def Burst.bitAt (b : Burst) (now : Nat) : Nat :=
  (now - (b.endsAt - b.rate.burstTime)) * b.rate.mhz / Config.samplesPerMicrosecond

/-- LSEL is active (R179). -/
def State.lsel (s : State) : Bool := s.panel.link == .sending

/-- Where in its bit period a sample falls, in 250ths of the period (R182). -/
def Burst.phase (b : Burst) (now : Nat) : Nat :=
  (now - (b.endsAt - b.rate.burstTime)) * b.rate.mhz % Config.samplesPerMicrosecond

/-- Where in a bit period LSCK leaves its idle level, in 250ths of the period (R182, log entry 35). -/
def Rate.pulseStart (r : Rate) : Nat := (Config.lsckStart r.mhz).val

/-- Where in a bit period LSCK is back at its idle level, in 250ths of the period: at least one sample period later, and within the bit period (R182, log entry 35). -/
def Rate.pulseEnd (r : Rate) : Nat := r.pulseStart + (r.mhz + (Config.lsckSlack r.mhz).val)

/-- LSCK is away from its idle level at this sample: for one run of samples in every bit period of the burst (R179, R182, log entry 35). -/
def Burst.clocked (b : Burst) (now : Nat) : Bool :=
  decide (b.bitAt now < Config.burstBits ∧ b.rate.pulseStart ≤ b.phase now ∧ b.phase now < b.rate.pulseEnd)

/-- The burst that the link sends: in SENDING the burst in flight (R179). -/
def Panel.sending (p : Panel) : Option Burst := if p.link = .sending then p.burst else none

/-- LSCK: in SENDING one pulse for each of the 648 bits, and in every other state its idle level (R179, R182). -/
def State.lsck (s : State) : Bool :=
  if s.panel.sending.any fun b => b.clocked s.clock.now then !Config.lsckIdle else Config.lsckIdle

/-- LDAT: in SENDING the bit of this bit period, and in every other state its idle level (R179). -/
def State.ldat (s : State) : Bool :=
  (s.panel.sending.bind fun b => b.bits[b.bitAt s.clock.now]?).getD Config.ldatIdle

/-- BKL is high (R189). -/
def State.bkl (s : State) : Bool := s.backlight.phaseHigh

/-! ### Events (R181, R182, R184) -/

/-- LBUSY_LOW (R181): in WAITING the wait timer stops and a burst starts; in every other state the level is not read (R179). -/
def lbusyLow (s : State) : State :=
  if s.panel.link = .waiting then (s.setLbusy false).startBurst else s.setLbusy false

/-- BURST_END (R182): the link goes to IDLE and tests for the next burst. -/
def burstEnd (lbusy : Bool) (s : State) : State :=
  match s.panel.link, s.panel.burst with
  | .sending, some b =>
    let s1 := s.advance b.endsAt
    State.panelTest lbusy { s1 with panel := { s1.panel with link := .idle, burst := none } }
  | _, _ => s

/-- WAIT_EXPIRY (R184): the link is LOST and PANEL_LOST is raised. -/
def waitExpiry (s : State) : State :=
  match s.panel.link, s.panel.wait with
  | .waiting, some t =>
    let s1 := s.advance t
    ({ s1 with panel := { s1.panel with link := .lost, wait := none } }).raisePanelLost
  | _, _ => s

/-! ### Requests (R185 to R187) -/

/-- The link turned on from OFF: IDLE with all rows dirty (R185). -/
def Panel.turnOn (p : Panel) (r : Rate) : Panel := { p with rate := r, dirty := allRows, link := .idle }

/-- The link turned off; a cut burst's row is dirty again (R185). -/
def Panel.turnOff (p : Panel) : Panel :=
  { p with
    link := .off
    wait := none
    burst := none
    dirty := match p.burst with | some b => p.dirty ||| BitVec.twoPow 16 b.row | none => p.dirty }

/-- PNL_ENABLE (R185). -/
def pnlEnable (on rate : Byte) (lbusy : Bool) (s : State) : State :=
  match yesNo? on with
  | none => s.refuse .badParam
  | some false => ({ s with panel := s.panel.turnOff }).ok
  | some true => match rate? rate with
      | none => s.refuse .badParam
      | some r =>
        if s.panel.link = .off then (State.panelTest lbusy { s with panel := s.panel.turnOn r }).ok
        else ({ s with panel := { s.panel with rate := r } }).ok

/-- PNL_RESTART (R186). -/
def pnlRestart (lbusy : Bool) (s : State) : State :=
  if s.panel.link = .lost then
    (State.panelTest lbusy { s with panel := { s.panel with link := .idle, dirty := allRows } }).ok
  else s.refuse .nothing

/-- DISP_REPAINT (R187). -/
def dispRepaint (lbusy : Bool) (s : State) : State := ((s.markRows allRows).panelTest lbusy).ok

/-! ### The backlight (R189) -/

/-- The length of a count in µs as sample periods. -/
def phaseTime (count : Half) : Nat := count.toNat * Config.samplesPerMicrosecond

/-- The backlight after BKL_SET at a moment (R189). -/
def Backlight.start (high low : Half) (now : Nat) : Backlight :=
  if high = 0 then { high, low, phaseHigh := false, endsAt := none }
  else if low = 0 then { high, low, phaseHigh := true, endsAt := none }
  else { high, low, phaseHigh := true, endsAt := some (now + phaseTime high) }

/-- BKL_SET (R189). -/
def bklSet (high low : Half) (s : State) : State := ({ s with backlight := Backlight.start high low s.clock.now }).ok

/-- The backlight after the expiry of its phase at `t` (R189). -/
def Backlight.flip (b : Backlight) (t : Nat) : Backlight :=
  { b with phaseHigh := !b.phaseHigh, endsAt := some (t + phaseTime (if b.phaseHigh then b.low else b.high)) }

/-- BACKLIGHT_PHASE_EXPIRY (R189). -/
def backlightPhaseExpiry (s : State) : State :=
  match s.backlight.endsAt with
  | none => s
  | some t => { s.advance t with backlight := s.backlight.flip t }

/-! ### The meanings -/

/-- The row DISP_REPAINT. -/
def execDispRepaint (lbusy : Bool) (s : State) : Result := .next (s.take (.dispRepaint lbusy) (dispRepaint lbusy))
/-- The row PNL_ENABLE. -/
def execPnlEnable (on rate : Byte) (lbusy : Bool) (s : State) : Result :=
  .next (s.take (.pnlEnable on rate lbusy) (pnlEnable on rate lbusy))
/-- The row PNL_RESTART. -/
def execPnlRestart (lbusy : Bool) (s : State) : Result := .next (s.take (.pnlRestart lbusy) (pnlRestart lbusy))
/-- The row BKL_SET. -/
def execBklSet (high low : Half) (s : State) : Result := .next (s.take (.bklSet high low) (bklSet high low))
/-- The row LBUSY_LOW. -/
def execLbusyLow (s : State) : Result := .next (s.take .lbusyLow lbusyLow)
/-- The row BURST_END. -/
def execBurstEnd (lbusy : Bool) (s : State) : Result := .next (s.take (.burstEnd lbusy) (burstEnd lbusy))
/-- The row WAIT_EXPIRY. -/
def execWaitExpiry (s : State) : Result := .next (s.take .waitExpiry waitExpiry)
/-- The row BACKLIGHT_PHASE_EXPIRY. -/
def execBacklightPhaseExpiry (s : State) : Result := .next (s.take .backlightPhaseExpiry backlightPhaseExpiry)

end Sys2Proof.Machine
end

