-- ==== Sys2Proof/Machine/Watches.lean ====
section
/-! DEFINITION. The requests of the Watch Unit (sections 6.4 and 6.7, and HOLD of chapter 7). -/

namespace Sys2Proof.Machine

/-! ### Watches (R135 to R137) -/

/-- The handle that a watch subject names. -/
def Subject.handle? : Subject → Option Handle
  | .targetCell h _ => some h
  | .targetField h _ => some h
  | .none | .meter _ _ | .pod _ | .decoder _ _ => .none

/-- The handle that the watch holds a reference of: IDLE, TRIPPED or HELD with a target subject (section 6.3). -/
def Watch.holds (w : Watch) : Option Handle := if w.state.active then w.subject.handle? else none

/-- The handle, if any, is bound. -/
def State.bind? (h : Option Handle) (s : State) : State :=
  match h with
  | none => s
  | some h => s.bind h

/-- The handle, if any, is unbound. -/
def State.unbind? (h : Option Handle) (s : State) : State :=
  match h with
  | none => s
  | some h => s.unbind h

/-- A bind of the handle, if any, would succeed: the handle is current (R39). -/
def State.bindable (s : State) (h : Option Handle) : Bool :=
  match h with
  | none => true
  | some h => (s.store.reach h).isSome

/-- The watch table with one watch replaced, and the reports and derivations of R134. -/
def State.putWatch (i : Fin 32) (w : Watch) (s : State) : State := s.setWatches (s.watch.watches.set i w)

/-- The state that WCH_SET decides for a setting whose subject now reads `now` (R136). -/
def WatchSetting.start (w : WatchSetting) (now : Sample) : WatchState :=
  if w.condition.isChange then .idle else if w.condition.holds now then .held else .idle

/-- The watch that WCH_SET makes (R136). -/
def WatchSetting.watch (w : WatchSetting) (now : Sample) : Watch :=
  { state := w.start now, subject := w.subject, condition := w.condition, level := w.level
    freezes := w.freezes, marks := w.marks, hits := 0, lastTrip := none, sample := now }

/-- WCH_SET (R135, R136): the new reference is bound, then the old one unbound. -/
def wchSet (watch : Byte) (sub : SubjectBytes) (cond : ConditionBytes) (level actions : Byte) (s : State) : State :=
  match index? 32 watch with
  | none => s.refuse .badParam
  | some i => match watchSetting? sub cond level actions with
      | none => s.refuse .badParam
      | some w =>
        if s.bindable w.subject.handle? = false then s.refuse .staleHandle
        else
          let s1 := (s.bind? w.subject.handle?).unbind? s.watch.watches[i].holds
          (s1.putWatch i (w.watch (s1.subjectSample w.subject))).ok

/-- WCH_CLEAR (R137). -/
def wchClear (watch : Byte) (s : State) : State :=
  match index? 32 watch with
  | none => s.refuse .badParam
  | some i =>
    if s.watch.watches[i].state = .off then s.ok
    else ((s.unbind? s.watch.watches[i].holds).putWatch i Watch.reset).ok

/-- The WCH_READ payload (R217). -/
def Watch.bytes (w : Watch) : List Byte :=
  w.state.code :: w.subject.bytes ++ w.condition.bytes ++ [w.level, flags [w.freezes, w.marks]] ++ be16 w.hits
    ++ [flags [w.lastTrip.isSome, w.sample.value.isSome, w.sample.expected.isSome]]
    ++ be32 (w.lastTrip.getD 0) ++ be32 (w.sample.value.getD 0)
    ++ [match w.sample.expected with | some e => e.value | none => 0,
        match w.sample.expected with | some e => e.mask | none => 0]

/-- WCH_READ (R137). -/
def wchRead (watch : Byte) (s : State) : State :=
  match index? 32 watch with
  | none => s.refuse .badParam
  | some i => s.answered .ok s.watch.watches[i].bytes

/-! ### Notices (R141 to R144) -/

/-- The TRIPPED set (R141). -/
def WatchUnit.tripped (u : WatchUnit) : BitVec 32 := maskOf fun i => u.watches[i].state == .tripped

/-- The NTC_READ payload (R218). -/
def WatchUnit.bytes (u : WatchUnit) : List Byte :=
  u.noticeBytes ++ [u.podFault.setWidth 8, u.podChange.setWidth 8, flags [u.panelLost, u.storeFull, u.cellsFull]]
    ++ be32 u.tripped ++ [u.attention, u.freezeLevel, flags [u.attn, u.freeze, u.hold]] ++ be32 u.cause

/-- NTC_READ (R141). -/
def ntcRead (s : State) : State := s.answered .ok s.watch.bytes

/-- The Pod Controller clears a pod's mark that is set, and reports it (R12, R142). -/
def State.clearMark (s : State) (p : Fin 4) : State :=
  if s.pods[p].faultMark then s.putPod p { s.pods[p] with faultMark := false } else s

/-- NTC_ACK of POD_FAULT (R142). -/
def ackPodFault (mask : Byte) (s : State) : State :=
  if (namedPods mask).any fun p => s.pods[p].faultMark then ((namedPods mask).foldl State.clearMark s).ok
  else s.refuse .nothing

/-- NTC_ACK of POD_CHANGE (R142). -/
def ackPodChange (mask : Byte) (s : State) : State :=
  let named : BitVec 4 := mask.setWidth 4
  if s.watch.podChange &&& named = 0 then s.refuse .nothing
  else (State.derive { s with watch := { s.watch with podChange := s.watch.podChange &&& ~~~named } }).ok

/-- NTC_ACK of PANEL_LOST (R142). -/
def ackPanelLost (s : State) : State :=
  if s.watch.panelLost then (State.derive { s with watch := { s.watch with panelLost := false } }).ok else s.refuse .nothing

/-- NTC_ACK of STORE_FULL (R142). -/
def ackStoreFull (s : State) : State :=
  if s.watch.storeFull then (State.derive { s with watch := { s.watch with storeFull := false } }).ok else s.refuse .nothing

/-- NTC_ACK of CELLS_FULL (R142). -/
def ackCellsFull (s : State) : State :=
  if s.watch.cellsFull then (State.derive { s with watch := { s.watch with cellsFull := false } }).ok else s.refuse .nothing

/-- NTC_ACK of a device notice (R142); the pod mask is read for the two pod notices only. -/
def ntcAckNotice (kind mask : Byte) (s : State) : State :=
  if kind = 1 then if 16 ≤ mask.toNat then s.refuse .badParam else ackPodFault mask s
  else if kind = 2 then if 16 ≤ mask.toNat then s.refuse .badParam else ackPodChange mask s
  else if kind = 3 then ackPanelLost s
  else if kind = 4 then ackStoreFull s
  else if kind = 5 then ackCellsFull s
  else s.refuse .badParam

/-- The state that an acknowledged watch goes to (R143). -/
def Watch.acknowledged (w : Watch) (now : Sample) : Watch :=
  { w with
    state := if w.condition.isChange then .idle else if w.condition.holds now then .held else .idle
    sample := now }

/-- NTC_ACK of a watch (R143). A level condition that reads false gives IDLE, and a later report may trip the watch again (R131), where R145 says that it goes to HELD and stays (DESIGN CHOICE, log entry 33). -/
def ntcAckWatch (watch : Byte) (s : State) : State :=
  match index? 32 watch with
  | none => s.refuse .badParam
  | some i =>
    let w := s.watch.watches[i]
    if w.state ≠ .tripped then s.refuse .nothing
    else (s.putWatch i (w.acknowledged (s.subjectSample w.subject))).ok

/-- NTC_LEVELS (R144). -/
def ntcLevels (attention freeze : Byte) (s : State) : State :=
  if 16 < attention.toNat ∨ 15 < freeze.toNat then s.refuse .badParam
  else (State.derive { s with watch := { s.watch with attention, freezeLevel := freeze } }).ok

/-- HOLD (R151). -/
def hold (on : Byte) (s : State) : State :=
  match yesNo? on with
  | none => s.refuse .badParam
  | some b => if s.watch.hold = b then s.ok else (State.derive { s with watch := { s.watch with hold := b } }).ok

/-! ### The meanings -/

/-- The row WCH_SET. -/
def execWchSet (watch : Byte) (sub : SubjectBytes) (cond : ConditionBytes) (level actions : Byte) (s : State) : Result :=
  .next (s.take (.wchSet watch sub cond level actions) (wchSet watch sub cond level actions))
/-- The row WCH_CLEAR. -/
def execWchClear (watch : Byte) (s : State) : Result := .next (s.take (.wchClear watch) (wchClear watch))
/-- The row WCH_READ. -/
def execWchRead (watch : Byte) (s : State) : Result := .next (s.take (.wchRead watch) (wchRead watch))
/-- The row NTC_READ. -/
def execNtcRead (s : State) : Result := .next (s.take .ntcRead ntcRead)
/-- The row NTC_ACK_NOTICE. -/
def execNtcAckNotice (kind mask : Byte) (s : State) : Result :=
  .next (s.take (.ntcAckNotice kind mask) (ntcAckNotice kind mask))
/-- The row NTC_ACK_WATCH. -/
def execNtcAckWatch (watch : Byte) (s : State) : Result := .next (s.take (.ntcAckWatch watch) (ntcAckWatch watch))
/-- The row NTC_LEVELS. -/
def execNtcLevels (attention freeze : Byte) (s : State) : Result :=
  .next (s.take (.ntcLevels attention freeze) (ntcLevels attention freeze))
/-- The row HOLD. -/
def execHold (on : Byte) (s : State) : Result := .next (s.take (.hold on) (hold on))

end Sys2Proof.Machine
end

