-- ==== Sys2Proof/Machine/Display.lean ====
section
/-! DEFINITION. The Pane Compositor (chapter 8): writing cells into the grid, the refresh tick, and the PANE_ and DISP_INTERVAL requests. -/

namespace Sys2Proof.Machine

/-! ### Writing cells (R158) -/

/-- The rectangle covers a grid cell. -/
def Rect.covers (r : Rect) (row col : Nat) : Bool :=
  decide (r.row ≤ row) && decide (row < r.row + r.height) && decide (r.col ≤ col) && decide (col < r.col + r.width)

/-- The grid with the cells of a rectangle written (R158). -/
def writeRect (r : Rect) (cells : Nat → Nat → GridCell) (grid : Vector GridRow 16) : Vector GridRow 16 :=
  tab fun i : Fin 16 => tab fun j : Fin 40 =>
    if r.covers i j then cells (i - r.row) (j - r.col) else grid[i][j]

/-- The rows in which two grids differ. -/
def changedRows (old new : Vector GridRow 16) : BitVec 16 := maskOf fun i => old[i] != new[i]

/-- Cells are written into the grid, and every row in which a cell changed is marked dirty (R158). -/
def State.write (r : Rect) (cells : Nat → Nat → GridCell) (s : State) : State :=
  let grid := writeRect r cells s.display.grid
  ({ s with display := { s.display with grid } }).markRows (changedRows s.display.grid grid)

/-- A rectangle is blanked (R158). -/
def State.blank (r : Rect) (s : State) : State := s.write r fun _ _ => GridCell.blank

/-! ### The refresh tick (R168, R169) -/

/-- The pane waits to be rendered (R169). -/
def Pane.waits (p : Pane) : Bool := p.stale && p.state != .free

/-- A pane is replaced. -/
def State.setPane (i : Fin 16) (p : Pane) (s : State) : State := s.withPanes (s.display.panes.set i p)

/-- A waiting pane is rendered (R169). -/
def State.renderPane (s : State) (i : Fin 16) : State :=
  let p := s.display.panes[i]
  if p.waits then (s.write p.rect (p.cellAt (s.content p))).setPane i { p with stale := false } else s

/-- The highlights are derived and the waiting panes rendered in increasing index (R169). -/
def State.render (s : State) : State := (List.finRange 16).foldl State.renderPane s.deriveHighlights

/-- The count has reached the next-tick value: the value is not ahead of it (R168). -/
def State.tickDue (s : State) : Bool := decide ((s.clock.ms - s.display.nextTick).toNat < 2 ^ 31)

/-- A restart is on its way to the Compositor (R178). -/
def State.restarting (s : State) : Bool := s.port.state == .executing && s.port.request == some .devRestart

/-- The next tick is one interval later (R168). -/
def State.nextInterval (s : State) : State :=
  { s with display := { s.display with nextTick := s.display.nextTick + s.display.interval.setWidth 32 } }

/-- REFRESH_TICK (R169): not taken before it is due (R168) or ahead of a restart (R178). -/
def refreshTick (lbusy : Bool) (s : State) : State :=
  if s.tickDue && !s.restarting then (s.render.nextInterval).panelTest lbusy else s

/-! ### Requests (section 8.3) -/

/-- Two rectangles share a cell. -/
def Rect.meets (a b : Rect) : Bool :=
  decide (a.row < b.row + b.height) && decide (b.row < a.row + a.height) &&
    decide (a.col < b.col + b.width) && decide (b.col < a.col + a.width)

/-- Another pane that is not FREE shares a cell with the rectangle (R161, check 3). -/
def State.overlaps (s : State) (i : Fin 16) (r : Rect) : Bool :=
  (List.finRange 16).any fun j => j != i && s.display.panes[j].state != .free && s.display.panes[j].rect.meets r

/-- The handle of a TARGET subject. -/
def PaneSubject.handle? : PaneSubject → Option Handle
  | .target h _ _ => some h
  | .none | .meter _ _ | .pod _ | .watch _ | .decoder _ | .device => .none

/-- The handle that the pane holds a reference of (R159). -/
def Pane.holds (p : Pane) : Option Handle := if p.state = .live then p.subject.handle? else none

/-- The cells of a pane that is not FREE are blanked (R162, R163). -/
def State.vacateRect (p : Pane) (s : State) : State := if p.state = .free then s else s.blank p.rect

/-- The pane that PANE_SET makes (R162). -/
def Pane.of (r : Rect) (sub : PaneSubject) (f : Format) (label : List Byte) (highlight : Bool) : Pane :=
  { state := .live, rect := r, subject := sub, format := f, label, highlight, stale := true }

/-- PANE_SET (R161, R162). -/
def paneSet (pane row col width height kind : Byte) (names : NameBytes) (format : Byte) (label : List Byte)
    (lbusy : Bool) (s : State) : State :=
  match index? 16 pane with
  | none => s.refuse .badParam
  | some i => match paneSetting? kind names format label with
      | none => s.refuse .badParam
      | some (sub, f) => match rect? row col width height with
          | none => s.refuse .badRect
          | some r =>
            if s.overlaps i r then s.refuse .overlap
            else if s.bindable sub.handle? = false then s.refuse .staleHandle
            else
              let old := s.display.panes[i]
              let s1 := ((s.bind? sub.handle?).unbind? old.holds).vacateRect old
              ((s1.setPane i (Pane.of r sub f label (s1.watch.highlighted sub))).panelTest lbusy).ok

/-- PANE_CLEAR (R163). -/
def paneClear (pane : Byte) (lbusy : Bool) (s : State) : State :=
  match index? 16 pane with
  | none => s.refuse .badParam
  | some i =>
    let old := s.display.panes[i]
    ((((s.unbind? old.holds).vacateRect old).setPane i Pane.reset).panelTest lbusy).ok

/-- The PANE_READ payload (R217). -/
def Pane.bytes (p : Pane) : List Byte :=
  [p.state.code, byte p.rect.row, byte p.rect.col, byte p.rect.width, byte p.rect.height] ++ p.subject.bytes
    ++ [p.format.code, flags [p.highlight, p.stale], byte p.label.length] ++ p.label

/-- PANE_READ (R164). -/
def paneRead (pane : Byte) (s : State) : State :=
  match index? 16 pane with
  | none => s.refuse .badParam
  | some i => s.answered .ok s.display.panes[i].bytes

/-- DISP_INTERVAL (R168). -/
def dispInterval (interval : Half) (s : State) : State :=
  if interval.toNat < 10 ∨ 1000 < interval.toNat ∨ interval.toNat % 10 ≠ 0 then s.refuse .badParam
  else
    ({ s with display := { s.display with interval, nextTick := s.clock.ms + interval.setWidth 32 } }).ok

/-! ### The meanings -/

/-- The row PANE_SET. -/
def execPaneSet (pane row col width height kind : Byte) (names : NameBytes) (format : Byte) (label : List Byte)
    (lbusy : Bool) (s : State) : Result :=
  .next (s.take (.paneSet pane row col width height kind names format label lbusy) (paneSet pane row col width height kind names format label lbusy))
/-- The row PANE_CLEAR. -/
def execPaneClear (pane : Byte) (lbusy : Bool) (s : State) : Result :=
  .next (s.take (.paneClear pane lbusy) (paneClear pane lbusy))
/-- The row PANE_READ. -/
def execPaneRead (pane : Byte) (s : State) : Result := .next (s.take (.paneRead pane) (paneRead pane))
/-- The row DISP_INTERVAL. -/
def execDispInterval (interval : Half) (s : State) : Result :=
  .next (s.take (.dispInterval interval) (dispInterval interval))
/-- The row REFRESH_TICK. -/
def execRefreshTick (lbusy : Bool) (s : State) : Result := .next (s.take (.refreshTick lbusy) (refreshTick lbusy))

end Sys2Proof.Machine
end

