-- ==== Sys2Proof/Machine/Frames.lean ====
section
/-! DEFINITION. The Command Port (chapter 10): the check byte, the judging of request frames with the layouts of R213, the port states, read frames; and the frame that carries a request. -/

namespace Sys2Proof.Machine

/-! ### The check byte (R193) -/

/-- One bit of the division by x^8 + x^2 + x + 1. -/
def crcBit (c : Byte) : Byte := if c.msb then (c <<< 1) ^^^ 0x07 else c <<< 1

/-- One byte of the division. -/
def crcByte (c b : Byte) : Byte := crcBit (crcBit (crcBit (crcBit (crcBit (crcBit (crcBit (crcBit (c ^^^ b))))))))

/-- The CRC-8 of some bytes (R193). -/
def crc8 (bytes : List Byte) : Byte := bytes.foldl crcByte 0

/-! ### Parameter layouts (R213) -/

/-- A layout with no parameters. -/
def plainLayout (i : Instr) : List Byte → Option Instr
  | [] => some i
  | _ => none

/-- A layout of one byte. -/
def byteLayout (f : Byte → Instr) : List Byte → Option Instr
  | [a] => some (f a)
  | _ => none

/-- A layout of two bytes. -/
def pairLayout (f : Byte → Byte → Instr) : List Byte → Option Instr
  | [a, b] => some (f a b)
  | _ => none

/-- A layout of three bytes. -/
def tripleLayout (f : Byte → Byte → Byte → Instr) : List Byte → Option Instr
  | [a, b, c] => some (f a b c)
  | _ => none

/-- POD_SET. -/
def podSetLayout : List Byte → Option Instr
  | [p, r, c, w0, w1, w2, w3, w4, w5, w6, w7] => some (.podSet p r c #v[w0, w1, w2, w3, w4, w5, w6, w7])
  | _ => none

/-- TGT_READ. -/
def tgtReadLayout : List Byte → Option Instr
  | [g, s, first, max, clear] => some (.tgtRead { gen := g, slot := s } first max clear)
  | _ => none

/-- TGT_SETCELL. -/
def tgtSetCellLayout : List Byte → Option Instr
  | [g, s, reg, value] => some (.tgtSetCell { gen := g, slot := s } reg value)
  | _ => none

/-- TGT_EXPECT. -/
def tgtExpectLayout : List Byte → Option Instr
  | [g, s, reg, op, value, mask] => some (.tgtExpect { gen := g, slot := s } reg op value mask)
  | _ => none

/-- The first `n` role and channel pairs of some bytes. -/
def pairs : Nat → List Byte → List (Byte × Byte)
  | n + 1, a :: b :: rest => (a, b) :: pairs n rest
  | _, _ => []

/-- DEC_CONFIG: n is 4 + 2b + p. -/
def decConfigLayout : List Byte → Option Instr
  | d :: profile :: learn :: b :: rest =>
    if rest.length = 2 * b.toNat + profileParamCount profile then
      some (.decConfig d profile learn (pairs b.toNat rest) (rest.drop (2 * b.toNat)))
    else none
  | _ => none

/-- MTR_CONFIG. -/
def mtrConfigLayout : List Byte → Option Instr
  | [m, mode, a, b, startEdge, stopEdge, source, dec, addr1, addr0, gate, w3, w2, w1, w0, single] =>
    some (.mtrConfig m { mode, channelA := a, channelB := b, startEdge, stopEdge, startSource := source
                         sourceDecoder := dec, sourceAddress := ofBe16 addr1 addr0, gate
                         window := ofBe32 w3 w2 w1 w0, singleShot := single })
  | _ => none

/-- WCH_SET. -/
def wchSetLayout : List Byte → Option Instr
  | [w, kind, n1, n0, field, code, a3, a2, a1, a0, b3, b2, b1, b0, level, actions] =>
    some (.wchSet w { kind, number := ofBe16 n1 n0, field }
      { code, first := ofBe32 a3 a2 a1 a0, second := ofBe32 b3 b2 b1 b0 } level actions)
  | _ => none

/-- NTC_ACK: kind 6 is the row NTC_ACK_WATCH. -/
def ntcAckLayout : List Byte → Option Instr
  | [kind, detail] => some (if kind = 6 then .ntcAckWatch detail else .ntcAckNotice kind detail)
  | _ => none

/-- PANE_SET: n is 12 + L. -/
def paneSetLayout : List Byte → Option Instr
  | pane :: row :: col :: width :: height :: kind :: n0 :: n1 :: n2 :: n3 :: format :: len :: label =>
    if label.length = len.toNat then
      some (.paneSet pane row col width height kind { n0, n1, n2, n3 } format label false)
    else none
  | _ => none

/-- DISP_INTERVAL. -/
def dispIntervalLayout : List Byte → Option Instr
  | [a, b] => some (.dispInterval (ofBe16 a b))
  | _ => none

/-- BKL_SET. -/
def bklSetLayout : List Byte → Option Instr
  | [a, b, c, d] => some (.bklSet (ofBe16 a b) (ofBe16 c d))
  | _ => none

/-- The layout of each request code; `none` for a code that names no request (R201, R213). -/
def layout? (code : Byte) : Option (List Byte → Option Instr) :=
  match code.toNat with
  | 0x01 => some (plainLayout .devIdent)
  | 0x02 => some (plainLayout (.devStatus []))
  | 0x03 => some (plainLayout .devRestart)
  | 0x10 => some podSetLayout
  | 0x11 => some (byteLayout .podGo)
  | 0x12 => some (byteLayout .podRead)
  | 0x20 => some (pairLayout .tgtFind)
  | 0x21 => some (tripleLayout .tgtList)
  | 0x22 => some tgtReadLayout
  | 0x23 => some (tripleLayout .tgtDeclare)
  | 0x24 => some tgtSetCellLayout
  | 0x25 => some tgtExpectLayout
  | 0x26 => some (tripleLayout fun g s reg => .tgtDropCell { gen := g, slot := s } reg)
  | 0x27 => some (tripleLayout fun g s on => .tgtPin { gen := g, slot := s } on)
  | 0x28 => some (tripleLayout fun g s force => .tgtRetire { gen := g, slot := s } force)
  | 0x30 => some decConfigLayout
  | 0x31 => some (byteLayout .decStart)
  | 0x32 => some (byteLayout .decStop)
  | 0x33 => some (byteLayout .decRead)
  | 0x40 => some mtrConfigLayout
  | 0x41 => some (byteLayout .mtrStart)
  | 0x42 => some (byteLayout .mtrStop)
  | 0x43 => some (byteLayout .mtrRead)
  | 0x44 => some (byteLayout .mtrClear)
  | 0x50 => some wchSetLayout
  | 0x51 => some (byteLayout .wchClear)
  | 0x52 => some (byteLayout .wchRead)
  | 0x53 => some (plainLayout .ntcRead)
  | 0x54 => some ntcAckLayout
  | 0x55 => some (pairLayout .ntcLevels)
  | 0x56 => some (byteLayout .hold)
  | 0x60 => some paneSetLayout
  | 0x61 => some (byteLayout fun pane => .paneClear pane false)
  | 0x62 => some (byteLayout .paneRead)
  | 0x63 => some dispIntervalLayout
  | 0x64 => some (plainLayout (.dispRepaint false))
  | 0x70 => some (pairLayout fun on rate => .pnlEnable on rate false)
  | 0x71 => some (plainLayout (.pnlRestart false))
  | 0x72 => some bklSetLayout
  | _ => none

/-! ### Judging (R194) -/

/-- What the port judges of a request frame: a bad frame with the status of its first failed check, or a good request. -/
inductive Judgment where
  | bad (st : Status)
  | good (i : Instr)
deriving DecidableEq, Repr

/-- Checks 3 and 4: the code and the parameter length. -/
def judgeRequest (code : Byte) (params : List Byte) : Judgment :=
  match layout? code with
  | none => .bad .unknownRequest
  | some f => match f params with
      | none => .bad .badParam
      | some i => .good i

/-- A request frame judged in the order of R194: its length with the bits of a partial byte, its check byte, its code, its parameter length. -/
def judgeFrame (bytes : List Byte) (extraBits : Nat) : Judgment :=
  match bytes with
  | code :: n :: rest =>
    if 250 < n.toNat ∨ rest.length ≠ n.toNat + 1 ∨ extraBits ≠ 0 then .bad .badFrame
    else if crc8 bytes ≠ 0 then .bad .badCheck
    else judgeRequest code (rest.take n.toNat)
  | _ => .bad .badFrame

/-! ### The frame of a request (R212, R213) -/

/-- The bytes of role and channel pairs. -/
def pairBytes (bindings : List (Byte × Byte)) : List Byte := bindings.flatMap fun b => [b.1, b.2]

/-- The 15 configuration bytes of MTR_CONFIG as sent (R217). -/
def meterBytes (c : MeterBytes) : List Byte :=
  [c.mode, c.channelA, c.channelB, c.startEdge, c.stopEdge, c.startSource, c.sourceDecoder]
    ++ be16 c.sourceAddress ++ [c.gate] ++ be32 c.window ++ [c.singleShot]

/-- The code and the parameters of a request; `none` for a command that no request frame carries. -/
def requestOf : Instr → Option (Byte × List Byte)
  | .devIdent => some (0x01, [])
  | .devStatus _ => some (0x02, [])
  | .devRestart => some (0x03, [])
  | .podSet p r c w => some (0x10, [p, r, c] ++ w.toList)
  | .podGo mask => some (0x11, [mask])
  | .podRead p => some (0x12, [p])
  | .tgtFind d a => some (0x20, [d, a])
  | .tgtList start filter max => some (0x21, [start, filter, max])
  | .tgtRead h first max clear => some (0x22, handleBytes h ++ [first, max, clear])
  | .tgtDeclare d a pinned => some (0x23, [d, a, pinned])
  | .tgtSetCell h reg value => some (0x24, handleBytes h ++ [reg, value])
  | .tgtExpect h reg op value mask => some (0x25, handleBytes h ++ [reg, op, value, mask])
  | .tgtDropCell h reg => some (0x26, handleBytes h ++ [reg])
  | .tgtPin h on => some (0x27, handleBytes h ++ [on])
  | .tgtRetire h force => some (0x28, handleBytes h ++ [force])
  | .decConfig d profile learn bindings params =>
      some (0x30, [d, profile, learn, byte bindings.length] ++ pairBytes bindings ++ params)
  | .decStart d => some (0x31, [d])
  | .decStop d => some (0x32, [d])
  | .decRead d => some (0x33, [d])
  | .mtrConfig m c => some (0x40, m :: meterBytes c)
  | .mtrStart m => some (0x41, [m])
  | .mtrStop m => some (0x42, [m])
  | .mtrRead m => some (0x43, [m])
  | .mtrClear m => some (0x44, [m])
  | .wchSet w sub cond level actions =>
      some (0x50, [w, sub.kind] ++ be16 sub.number ++ [sub.field, cond.code] ++ be32 cond.first ++ be32 cond.second
        ++ [level, actions])
  | .wchClear w => some (0x51, [w])
  | .wchRead w => some (0x52, [w])
  | .ntcRead => some (0x53, [])
  | .ntcAckNotice kind mask => some (0x54, [kind, mask])
  | .ntcAckWatch w => some (0x54, [6, w])
  | .ntcLevels attention freeze => some (0x55, [attention, freeze])
  | .hold on => some (0x56, [on])
  | .paneSet pane row col width height kind n format label _ =>
      some (0x60, [pane, row, col, width, height, kind, n.n0, n.n1, n.n2, n.n3, format, byte label.length] ++ label)
  | .paneClear pane _ => some (0x61, [pane])
  | .paneRead pane => some (0x62, [pane])
  | .dispInterval interval => some (0x63, be16 interval)
  | .dispRepaint _ => some (0x64, [])
  | .pnlEnable on rate _ => some (0x70, [on, rate])
  | .pnlRestart _ => some (0x71, [])
  | .bklSet high low => some (0x72, be16 high ++ be16 low)
  | .fullReset _ | .requestFrame _ | .readFrame _ | .answer | .insertionTimerStart _ | .insertionTimerStop _
  | .insertion _ | .removal _ | .overcurrent _ | .rampingExpiry _ | .settlingExpiry _ _ | .stoppingExpiry _
  | .acceptedEdge _ _ _ _ | .filterCandidate _ _ _ | .twoWireIdleExpiry _ _ _ | .asyncIdleExpiry _ _ | .asyncSamplePoint _ _
  | .characterJudged _ _ | .breakTimeout _ _ | .idleGapExpiry _ | .overrange _ | .windowExpiry _ _ | .refreshTick _
  | .lbusyLow | .burstEnd _ | .waitExpiry | .backlightPhaseExpiry | .millisecondTick => none

/-- Bytes with their check byte after them (R193). -/
def checked (bytes : List Byte) : List Byte := bytes ++ [crc8 bytes]

/-- The request frame of a code and parameters (R212). -/
def frameOf (r : Byte × List Byte) : List Byte := checked (r.1 :: byte r.2.length :: r.2)

/-! ### The port (R195 to R200) -/

/-- READY (R195). -/
def Port.ready (p : Port) : Bool := p.state == .answered

/-- The port after taking a judged frame in IDLE or ANSWERED: a waiting response is discarded, a good request is on its way, a bad frame has the port's own answer on its way (R194, R195). -/
def Port.takeFrame (p : Port) (j : Judgment) : Port :=
  match j with
  | .bad st => { p with state := .executing, buffer := none, request := none, answer := some { status := st, payload := [] }, gathered := [] }
  | .good i => { p with state := .executing, buffer := none, request := some i, answer := none, gathered := [] }

/-- The response as its bytes: status, flags, length, payload, check byte (R212, R200). -/
def responseBytes (u : WatchUnit) (st : Status) (overrun : Bool) (payload : List Byte) : List Byte :=
  checked (st.code :: flags [u.freeze, u.attn, overrun] :: byte payload.length :: payload)

/-- A selection in which SDO sends 0xFF and then these bytes (R192). -/
def Port.sends (p : Port) (wave : List SerialLines) (bytes : List Byte) : Port := { p with sdo := sdoLevels (0xFF :: bytes) wave }

/-- A read frame, taken when its first byte completes (R198). -/
def State.takeRead (wave : List SerialLines) (s : State) : State :=
  match s.port.state, s.port.buffer with
  | .answered, some r =>
    { s with port := { s.port.sends wave (responseBytes s.watch r.status r.overrun r.payload) with
        state := .idle
        buffer := none } }
  | _, _ => { s with port := s.port.sends wave (responseBytes s.watch .noResponse s.port.overrun []) }

/-- A request frame in the port's state (R195): ignored with the overrun mark set while EXECUTING, else judged and taken. -/
def Port.takeRequest (p : Port) (bytes : List Byte) (extraBits : Nat) : Port :=
  if p.state = .executing then { p with overrun := true } else p.takeFrame (judgeFrame bytes extraBits)

/-- The lines of one selection (R191, R192, R195): no whole byte is no frame, a first byte of 0x00 makes a read frame, and any other a request frame, which is lost when RESET went low in it. -/
def State.takeSelection (wave : List SerialLines) (s : State) : State :=
  let sent := { s with port := s.port.sends wave [] }
  match clockedBytes wave with
  | [] => sent
  | b :: rest =>
    if b = 0 then s.takeRead wave
    else if cutByReset wave then sent
    else { s with port := sent.port.takeRequest (b :: rest) (partialBits wave) }

/-- REQUEST_FRAME (R195). -/
def requestFrame (wave : List SerialLines) (s : State) : State := s.takeSelection wave

/-- READ_FRAME (R198). -/
def readFrame (wave : List SerialLines) (s : State) : State := s.takeSelection wave

/-- ANSWER (R196, R197): the owner's answer fills the buffer and takes the overrun mark. -/
def answer (s : State) : State :=
  match s.port.state, s.port.answer with
  | .executing, some a =>
    { s with port := { s.port with
        state := .answered
        buffer := some { status := a.status, overrun := s.port.overrun, payload := a.payload }
        overrun := false
        request := none
        answer := none } }
  | _, _ => s

/-! ### The meanings -/

/-- The row REQUEST_FRAME. -/
def execRequestFrame (wave : List SerialLines) (s : State) : Result :=
  .next (s.take (.requestFrame wave) (requestFrame wave))
/-- The row READ_FRAME. -/
def execReadFrame (wave : List SerialLines) (s : State) : Result := .next (s.take (.readFrame wave) (readFrame wave))
/-- The row ANSWER. -/
def execAnswer (s : State) : Result := .next (s.take .answer answer)

end Sys2Proof.Machine
end

