-- ==== Sys2Proof/Machine/Dispatch.lean ====
section
/-! DEFINITION. The dispatch: one arm per command, one direct call of its meaning. -/

namespace Sys2Proof.Machine

/-- The effect of a command on everything but the queue. -/
def exec (i : Instr) (s : State) : Host.Outcome State Fault Refusal :=
  match i with
  | .fullReset sense => Sys2Proof.Machine.execFullReset sense s
  | .requestFrame wave => Sys2Proof.Machine.execRequestFrame wave s
  | .readFrame wave => Sys2Proof.Machine.execReadFrame wave s
  | .answer => Sys2Proof.Machine.execAnswer s
  | .devIdent => Sys2Proof.Machine.execDevIdent s
  | .devStatus later => Sys2Proof.Machine.execDevStatus later s
  | .devRestart => Sys2Proof.Machine.execDevRestart s
  | .podSet pod requested code widths => Sys2Proof.Machine.execPodSet pod requested code widths s
  | .podGo mask => Sys2Proof.Machine.execPodGo mask s
  | .podRead pod => Sys2Proof.Machine.execPodRead pod s
  | .insertionTimerStart pod => Sys2Proof.Machine.execInsertionTimerStart pod s
  | .insertionTimerStop pod => Sys2Proof.Machine.execInsertionTimerStop pod s
  | .insertion pod => Sys2Proof.Machine.execInsertion pod s
  | .removal pod => Sys2Proof.Machine.execRemoval pod s
  | .overcurrent pod => Sys2Proof.Machine.execOvercurrent pod s
  | .rampingExpiry pod => Sys2Proof.Machine.execRampingExpiry pod s
  | .settlingExpiry pod levels => Sys2Proof.Machine.execSettlingExpiry pod levels s
  | .stoppingExpiry pod => Sys2Proof.Machine.execStoppingExpiry pod s
  | .acceptedEdge channel also stamp order => Sys2Proof.Machine.execAcceptedEdge channel also stamp order s
  | .twoWireIdleExpiry d clock data => Sys2Proof.Machine.execTwoWireIdleExpiry d clock data s
  | .asyncIdleExpiry d line => Sys2Proof.Machine.execAsyncIdleExpiry d line s
  | .characterJudged d line => Sys2Proof.Machine.execCharacterJudged d line s
  | .breakTimeout d line => Sys2Proof.Machine.execBreakTimeout d line s
  | .idleGapExpiry d => Sys2Proof.Machine.execIdleGapExpiry d s
  | .tgtFind decoder address => Sys2Proof.Machine.execTgtFind decoder address s
  | .tgtList start filter max => Sys2Proof.Machine.execTgtList start filter max s
  | .tgtRead handle first max clear => Sys2Proof.Machine.execTgtRead handle first max clear s
  | .tgtDeclare decoder address pinned => Sys2Proof.Machine.execTgtDeclare decoder address pinned s
  | .tgtSetCell handle register value => Sys2Proof.Machine.execTgtSetCell handle register value s
  | .tgtExpect handle register operation value mask => Sys2Proof.Machine.execTgtExpect handle register operation value mask s
  | .tgtDropCell handle register => Sys2Proof.Machine.execTgtDropCell handle register s
  | .tgtPin handle on => Sys2Proof.Machine.execTgtPin handle on s
  | .tgtRetire handle force => Sys2Proof.Machine.execTgtRetire handle force s
  | .decConfig decoder profile learn bindings params => Sys2Proof.Machine.execDecConfig decoder profile learn bindings params s
  | .decStart decoder => Sys2Proof.Machine.execDecStart decoder s
  | .decStop decoder => Sys2Proof.Machine.execDecStop decoder s
  | .decRead decoder => Sys2Proof.Machine.execDecRead decoder s
  | .mtrConfig meter config => Sys2Proof.Machine.execMtrConfig meter config s
  | .mtrStart meter => Sys2Proof.Machine.execMtrStart meter s
  | .mtrStop meter => Sys2Proof.Machine.execMtrStop meter s
  | .mtrRead meter => Sys2Proof.Machine.execMtrRead meter s
  | .mtrClear meter => Sys2Proof.Machine.execMtrClear meter s
  | .overrange m => Sys2Proof.Machine.execOverrange m s
  | .windowExpiry m order => Sys2Proof.Machine.execWindowExpiry m order s
  | .wchSet watch subject condition level actions => Sys2Proof.Machine.execWchSet watch subject condition level actions s
  | .wchClear watch => Sys2Proof.Machine.execWchClear watch s
  | .wchRead watch => Sys2Proof.Machine.execWchRead watch s
  | .ntcRead => Sys2Proof.Machine.execNtcRead s
  | .ntcAckNotice kind mask => Sys2Proof.Machine.execNtcAckNotice kind mask s
  | .ntcAckWatch watch => Sys2Proof.Machine.execNtcAckWatch watch s
  | .ntcLevels attention freeze => Sys2Proof.Machine.execNtcLevels attention freeze s
  | .hold on => Sys2Proof.Machine.execHold on s
  | .paneSet pane row column width height kind names format label lbusy => Sys2Proof.Machine.execPaneSet pane row column width height kind names format label lbusy s
  | .paneClear pane lbusy => Sys2Proof.Machine.execPaneClear pane lbusy s
  | .paneRead pane => Sys2Proof.Machine.execPaneRead pane s
  | .dispInterval interval => Sys2Proof.Machine.execDispInterval interval s
  | .refreshTick lbusy => Sys2Proof.Machine.execRefreshTick lbusy s
  | .dispRepaint lbusy => Sys2Proof.Machine.execDispRepaint lbusy s
  | .pnlEnable on rate lbusy => Sys2Proof.Machine.execPnlEnable on rate lbusy s
  | .pnlRestart lbusy => Sys2Proof.Machine.execPnlRestart lbusy s
  | .bklSet high low => Sys2Proof.Machine.execBklSet high low s
  | .lbusyLow => Sys2Proof.Machine.execLbusyLow s
  | .burstEnd lbusy => Sys2Proof.Machine.execBurstEnd lbusy s
  | .waitExpiry => Sys2Proof.Machine.execWaitExpiry s
  | .backlightPhaseExpiry => Sys2Proof.Machine.execBacklightPhaseExpiry s
  | .millisecondTick => Sys2Proof.Machine.execMillisecondTick s
  | .asyncSamplePoint d line => Sys2Proof.Machine.execAsyncSamplePoint d line s
  | .filterCandidate channel level stamp => Sys2Proof.Machine.execFilterCandidate channel level stamp s

end Sys2Proof.Machine
end

