-- ==== Sys2Proof/Machine/Idle.lean ====
section
/-! DEFINITION. What the part does when no command waits: the command that is due, or one more sample period (log entry 3). -/

namespace Sys2Proof.Machine

/-- The moment has come. -/
def State.reached (s : State) (t : Nat) : Bool := decide (t ≤ s.clock.now)

/-- The command, when its moment has come. -/
def State.when (s : State) (t : Nat) (i : Instr) : Option Instr := if s.reached t then some i else none

/-- The command of a running transition's stage. -/
def Stage.expiry (st : Stage) (p : Fin 4) (levels : BitVec 8) : Instr :=
  match st with
  | .ramping => .rampingExpiry p
  | .settling => .settlingExpiry p levels
  | .stopping => .stoppingExpiry p

/-- The comparator outputs of a pod as the pins show them. -/
def State.podLevels (s : State) (p : Fin 4) : BitVec 8 := maskOf fun i => s.pins.level (channelAt p i)

/-- What is due at a pod: its insertion timer, or the stage of its transition. -/
def State.podDue (s : State) (p : Fin 4) : Option Instr :=
  match s.pods[p].insertion, s.pods[p].transition with
  | some t, _ => s.when t (.insertion p)
  | none, some tr => s.when tr.endsAt (tr.stage.expiry p (s.podLevels p))
  | none, none => none

/-- The command of an ASYNC decoder's timer in BUSY (R98, R99, R102), the line at this level. -/
def AsyncParams.expiry (p : AsyncParams) (d : Fin 6) (line : Bool) (st : Staging) : Instr :=
  match st.receiver with
  | none => .idleGapExpiry d
  | some _ =>
    if st.awaitsBreak p then .breakTimeout d line
    else if st.bits.length + 2 < p.positions then .asyncSamplePoint d line
    else .characterJudged d line

/-- The command of a decoder's profile timer: every edge up to this moment has been delivered, so the line view gives the levels (R77). -/
def Decoder.expiry (dec : Decoder) (d : Fin 6) : Option Instr :=
  match dec.params, dec.state, dec.staging with
  | .twoWire, .syncing, _ => some (.twoWireIdleExpiry d (dec.level .clock) (dec.level .data))
  | .async _, .syncing, _ => some (.asyncIdleExpiry d (dec.level .line))
  | .async p, .busy, some st => some (p.expiry d (dec.level .line) st)
  | _, _, _ => none

/-- What is due at a decoder. -/
def State.decoderDue (s : State) (d : Fin 6) : Option Instr :=
  match s.decoders[d].timer, s.decoders[d].expiry d with
  | some t, some i => s.when t i
  | _, _ => none

/-- What is due at a meter: its overrange, or the end of its window. -/
def State.meterDue (s : State) (m : Fin 8) : Option Instr :=
  match s.meters[m].state with
  | .timing start => s.when (start + Config.overrangeTime) (.overrange m)
  | .windowOpen openAt => s.when (openAt + s.meters[m].config.windowLength) (.windowExpiry m [])
  | .off | .armed _ | .counting _ _ _ => none

/-- What is due at the Panel Link. -/
def State.panelDue (s : State) : Option Instr :=
  match s.panel.link, s.panel.burst, s.panel.wait with
  | .sending, some b, _ => s.when b.endsAt (.burstEnd s.pins.lbusy)
  | .waiting, _, some t => s.when t .waitExpiry
  | _, _, _ => none

/-- What is due at the backlight. -/
def State.backlightDue (s : State) : Option Instr :=
  match s.backlight.endsAt with
  | some t => s.when t .backlightPhaseExpiry
  | none => none

/-- What is under way at the port (R196): the request goes to its owner, or the answer comes back to the port. -/
def State.portDue (s : State) : Option Instr :=
  if s.port.state = .executing then
    match s.port.request, s.port.answer with
    | some i, _ => some (i.atLevel s.pins.lbusy)
    | none, some _ => some .answer
    | none, none => none
  else none

/-- The first command that is due: the time-driven ones in a fixed order of blocks, then the port (log entry 3). While RESET is held low nothing is (R21, R209). -/
def State.due (s : State) : Option Instr :=
  if s.pins.resetLow then none else
  (s.when s.clock.nextMsAt .millisecondTick)
    <|> (if s.tickDue && !s.restarting then some (.refreshTick s.pins.lbusy) else none)
    <|> (List.finRange 4).findSome? s.podDue
    <|> (List.finRange 6).findSome? s.decoderDue
    <|> (List.finRange 8).findSome? s.meterDue
    <|> s.panelDue
    <|> s.backlightDue
    <|> s.portDue

/-- One more sample period passes, and every filter of a LIVE pod takes its sample (R17); sample periods count from the end of the full reset, so none passes while RESET is held low. -/
def State.samplePeriod (s : State) : State :=
  if s.pins.resetLow then s else (s.advance (s.clock.now + 1)).sampleAll

end Sys2Proof.Machine
end

