-- ==== Sys2Proof/Machine/Step.lean ====
section
/-! DEFINITION. One step: the command at the front of the queue, or on an empty queue what time brings. -/

namespace Sys2Proof.Machine

/-- The command at the front of the queue with the rest of the queue; on an empty queue the command that is due, else one sample period (DESIGN CHOICE, log entry 3). -/
def step (s : State) : Host.Outcome State Fault Refusal :=
  match s.pending with
  | c :: rest => exec c { s with pending := rest }
  | [] => match s.due with
    | some c => exec c s
    | none => .next s.samplePeriod

/-- The state with the command that a word of the table's bits spells at the front of the queue; the table gives no row any bits, so no word spells one (log entry 18). -/
def State.withFetchWord (s : State) (nbits w : Nat) : State :=
  match decodeTableWord nbits w with
  | some c => { s with pending := c :: s.pending }
  | none => s

end Sys2Proof.Machine
end

