-- ==== Sys2Proof/Safety.lean ====
section
/-! DEFINITION. What the statements speak of: the agreement of two states up to reports, and the invariants of the part. A run is safe when its states keep them; no step faults or refuses. -/

namespace Sys2Proof.Machine

/-! ### What a command makes -/

/-- Where the part takes the command (`State.takes`), it makes the state `t`. -/
def Makes (c : Instr) (s t : State) : Prop := s.takes c = true → exec c s = .next t

/-- Where the part takes the command (`State.takes`), it makes a state of which `P` holds. -/
def MakesSome (c : Instr) (s : State) (P : State → Prop) : Prop := s.takes c = true → ∃ t, exec c s = .next t ∧ P t

/-! ### Agreement up to reports -/

/-- Two watches of one setting: what an evaluation never changes (R130 to R132). -/
structure Watch.SameSetting (a b : Watch) : Prop where
  subject   : b.subject = a.subject
  condition : b.condition = a.condition
  level     : b.level = a.level
  freezes   : b.freezes = a.freezes
  marks     : b.marks = a.marks

/-- Two panes of one setting: what a report never changes (R166, R167). -/
structure Pane.SameSetting (a b : Pane) : Prop where
  state   : b.state = a.state
  rect    : b.rect = a.rect
  subject : b.subject = a.subject
  format  : b.format = a.format
  label   : b.label = a.label

/-- `t` is `s` but for what reports do: active watches may move and count, LIVE panes may become stale and change their highlight, and the Watch Unit's derived values follow. -/
structure UpToReports (s t : State) : Prop where
  clock      : t.clock = s.clock
  pins       : t.pins = s.pins
  pods       : t.pods = s.pods
  channels   : t.channels = s.channels
  decoders   : t.decoders = s.decoders
  store      : t.store = s.store
  meters     : t.meters = s.meters
  panel      : t.panel = s.panel
  backlight  : t.backlight = s.backlight
  port       : t.port = s.port
  pending    : t.pending = s.pending
  grid       : t.display.grid = s.display.grid
  interval   : t.display.interval = s.display.interval
  nextTick   : t.display.nextTick = s.display.nextTick
  panes      : ∀ i : Fin 16, s.display.panes[i].SameSetting t.display.panes[i]
  quietPanes : ∀ i : Fin 16, s.display.panes[i].state ≠ .live → t.display.panes[i] = s.display.panes[i]
  watches    : ∀ i : Fin 32, s.watch.watches[i].SameSetting t.watch.watches[i]
  quiet      : ∀ i : Fin 32, s.watch.watches[i].state.active = false → t.watch.watches[i] = s.watch.watches[i]
  podFault   : t.watch.podFault = s.watch.podFault
  podChange  : t.watch.podChange = s.watch.podChange
  panelLost  : t.watch.panelLost = s.watch.panelLost
  storeFull  : t.watch.storeFull = s.watch.storeFull
  cellsFull  : t.watch.cellsFull = s.watch.cellsFull
  attention  : t.watch.attention = s.watch.attention
  level      : t.watch.freezeLevel = s.watch.freezeLevel
  hold       : t.watch.hold = s.watch.hold

/-! ### What the rules make of one item -/

/-- A channel's filter after one sample (R17): a candidate's held count is the samples after its first, and the change is accepted when the count reaches the width. -/
def Channel.afterSample (c : Channel) (level : Bool) : Channel :=
  if level = c.accepted then { c with candidate := none }
  else
    let next := match c.candidate with | none => { level, held := 0 } | some k => { k with held := k.held + 1 }
    if c.width.val ≤ next.held then { c with accepted := level, candidate := none } else { c with candidate := some next }

/-- A decoder after a pod down (R57): BUSY aborts, and a running decoder bound to the pod is SUSPENDED. -/
def Decoder.afterPodDown (p : Fin 4) (cause : DownCause) (d : Decoder) : Decoder :=
  if d.usesPod p = false then d
  else match d.state with
    | .stopped | .suspended => d
    | .syncing | .idle => { d with state := .suspended, staging := none, timer := none }
    | .busy => { d with
        state := .suspended
        staging := none
        timer := none
        aborted := satInc d.aborted
        lastAbort := if cause = .settle then .settle else .pod }

/-- A meter after a pod down (R115): a measurement on the pod is discarded and counted as disturbed. -/
def Meter.afterPodDown (p : Fin 4) (m : Meter) : Meter :=
  match m.state with
  | .timing _ | .counting _ _ _ =>
    if m.config.usesPod p then { m with state := .armed none, record := { m.record with disturbed := satInc m.record.disturbed } }
    else m
  | .off | .armed _ | .windowOpen _ => m

/-- A meter record after a VALID result (R105). -/
def MeterRecord.afterValue (frozen : Bool) (v : Word) (r : MeterRecord) : MeterRecord :=
  if frozen then { r with withheld := satInc r.withheld }
  else { r with
    status := .valid
    last := v
    min := if r.count = 0 ∨ v < r.min then v else r.min
    max := if r.count = 0 ∨ r.max < v then v else r.max
    count := satInc r.count }

/-- A meter record after an OVERRANGE result (R105). -/
def MeterRecord.afterOverrange (frozen : Bool) (r : MeterRecord) : MeterRecord :=
  if frozen then { r with withheld := satInc r.withheld } else { r with status := .overrange }

/-- A meter whose measurement ended with this record: it goes to `next`, or to OFF when it is single-shot (R116). -/
def Meter.ended (record : MeterRecord) (next : MeterState) (m : Meter) : Meter :=
  { m with record, state := if m.config.singleShot then .off else next }

/-- The channel of a COUNT meter is on a LIVE pod (R104, R113). -/
def State.countReady (s : State) (m : Fin 8) : Bool := s.podLive (podOf s.meters[m].config.channelA)

/-- The follower's state in the window that opens at a stamp: an edge held at that stamp counts (R113). -/
def counting (stamp : Nat) (held : Option Nat) : MeterState := .counting stamp (if held = some stamp then 1 else 0) none

/-- The store after an error report (R38): lost under the freeze and without a record of that key. -/
def Store.afterError (frozen : Bool) (d : Fin 6) (address : Option Byte) (unanswered : Bool) (st : Store) : Store :=
  match address with
  | none => st
  | some a =>
    if frozen then st
    else match st.find d a with
      | none => st
      | some i => match st.slots[i].record with
        | none => st
        | some r => st.setRecord i
            (if unanswered then { r with unanswered := satInc r.unanswered } else { r with errors := satInc r.errors })

/-- A freeze read inside an event that may start it but not end it (R148). -/
structure FreezeWithin (s u : State) (frozen : Bool) : Prop where
  before : s.watch.freeze = true → frozen = true
  after  : frozen = true → u.watch.freeze = true

/-- The stage and the time of the path from a state to a requested state (section 1.4, R7). -/
def podPath : PodState → PodTarget → Option (Stage × Nat)
  | .off, .isolated => some (.ramping, 500000)
  | .off, .live => some (.ramping, 500000)
  | .isolated, .live => some (.settling, 50000)
  | .live, .isolated => some (.stopping, 2500)
  | .live, .off => some (.stopping, 250000)
  | .isolated, .off => some (.stopping, 250000)
  | _, _ => none

/-- The state of a stage (R8). -/
def Stage.state : Stage → PodState
  | .ramping => .ramping
  | .settling => .settling
  | .stopping => .stopping

/-- A pod after POD_GO names it (R6, R7). -/
def Pod.afterGo (p : Pod) (now : Nat) : Pod :=
  match podPath p.state p.requested with
  | none => p
  | some (stage, time) => { p with
      state := stage.state
      supply := if stage = .ramping then true else p.supply
      loaded := if stage = .settling then p.code else p.loaded
      transition := some { dest := p.requested, stage, endsAt := now + time } }

/-- A pod after POD_SET (R4, R5). -/
def Pod.afterSet (p : Pod) (t : PodTarget) (code : Byte) (now : Nat) : Pod :=
  if code = p.code then { p with requested := t }
  else match p.state with
    | .live => { p with
        requested := t, code, loaded := code, state := .settling
        transition := some { dest := .live, stage := .settling, endsAt := now + 50000 } }
    | .settling => { p with
        requested := t, code, loaded := code
        transition := p.transition.map fun tr => { tr with stage := .settling, endsAt := now + 50000 } }
    | .absent | .off | .ramping | .isolated | .stopping => { p with requested := t, code }

/-- The state with what a pod's leaving LIVE does elsewhere, when it left: candidates dropped, decoders and meters told (R13, R16). -/
def State.withPodDown (s : State) (p : Fin 4) (cause : DownCause) (left : Bool) : State :=
  if left then
    { s with
      channels := tab fun c => if podOf c = p then { s.channels[c] with candidate := none } else s.channels[c]
      decoders := tab fun d => s.decoders[d].afterPodDown p cause
      meters := tab fun m => s.meters[m].afterPodDown p }
  else s

/-- A pod is replaced and its fault mark copied into the POD_FAULT mask (R139). -/
def State.withPod (s : State) (p : Fin 4) (new : Pod) : State :=
  { s with
    pods := s.pods.set p new
    watch := { s.watch with podFault := maskOf fun q => if q = p then new.faultMark else s.watch.podFault.getLsbD q } }

/-- The POD_CHANGE mask with a pod's bit added (R2, R3). -/
def State.withPodChange (s : State) (p : Fin 4) : State :=
  { s with watch := { s.watch with podChange := s.watch.podChange ||| BitVec.twoPow 4 p } }

/-! ### Invariants -/

/-- The Watch Unit's derived values are those of its sources (R140, R148, R149). -/
structure WatchUnit.Derived (u : WatchUnit) : Prop where
  cause   : u.cause = u.causeOf
  freeze  : u.freeze = u.freezeOf
  current : u.current = u.currentOf
  attn    : u.attn = u.attnOf

/-- The notices and the freeze are derived, and the POD_FAULT mask is a copy of the fault marks (R139, R140, R148). -/
structure NoticesOk (s : State) : Prop where
  derived : s.watch.Derived
  marks   : ∀ p : Fin 4, s.watch.podFault.getLsbD p = s.pods[p].faultMark

/-- A transition has the stage its pod is in, and a destination that the stage can lead to (section 1.4). -/
def Transition.Fits (t : Transition) (state : PodState) : Prop :=
  (t.stage = .ramping ∧ state = .ramping ∧ t.dest ≠ .off) ∨ (t.stage = .settling ∧ state = .settling ∧ t.dest = .live) ∨
    (t.stage = .stopping ∧ state = .stopping ∧ t.dest ≠ .live)

/-- A pod as the rules leave it: a transition exactly in a transitional state (R8), the supply that its state gives (R1), presence, the insertion timer of an ABSENT pod (R2), the loaded threshold (R1), a fault mark only in OFF or ABSENT (R11). -/
structure Pod.Ok (p : Pod) : Prop where
  moving    : p.transition.isSome = p.state.moving
  fits      : ∀ t, p.transition = some t → t.Fits p.state
  supply    : p.supply = p.state.powered
  present   : p.present = (p.state != .absent)
  insertion : p.insertion.isSome = true → p.state = .absent
  loaded    : p.state = .live ∨ p.state = .settling → p.loaded = p.code
  code      : p.code.toNat ≤ Config.maxThreshold
  faulted   : p.faultMark = true → p.state = .off ∨ p.state = .absent

/-- A filter as R16 leaves it: a candidate only while its pod is LIVE, at the other level, held at most 7 samples. -/
structure Channel.Ok (live : Bool) (c : Channel) : Prop where
  live  : c.candidate.isSome = true → live = true
  level : ∀ k, c.candidate = some k → k.level = !c.accepted
  held  : ∀ k, c.candidate = some k → k.held ≤ 7

/-- Every pod and every filter is as the rules leave it. -/
structure PodsOk (s : State) : Prop where
  pods     : ∀ p : Fin 4, s.pods[p].Ok
  channels : ∀ c : Fin 32, (s.channels[c]).Ok (s.podLive (podOf c))

/-- The cells a slot holds. -/
def Slot.cellCount (x : Slot) : Nat := match x.record with
  | some r => r.cells.length
  | none => 0

/-- The cells of all records. -/
def Store.cellsHeld (st : Store) : Nat := ((List.finRange 64).map fun i => (st.slots[i]).cellCount).sum

/-- A record's cells: at most 32, in increasing register order (R26). -/
structure Record.CellsOk (r : Record) : Prop where
  few    : r.cells.length ≤ Config.recordCells
  sorted : r.cells.Pairwise fun a b => a.register < b.register

/-- The store as R25 and R26 leave it: every record's cells in order, each cell of the pool in one record or free, no key twice. -/
structure StoreOk (s : State) : Prop where
  cells : ∀ (i : Fin 64) (r : Record), s.store.slots[i].record = some r → r.CellsOk
  pool  : s.store.free + s.store.cellsHeld = Config.poolCells
  keys  : ∀ (i j : Fin 64) (a b : Record), s.store.slots[i].record = some a → s.store.slots[j].record = some b →
            a.decoder = b.decoder → a.address = b.address → i = j

/-- The Panel Link as the table of section 9.1 gives it: a burst in flight exactly in SENDING, the wait timer running exactly in WAITING, no row waiting in IDLE; and it waits only for an LBUSY last read high, with rows to send (R181). -/
structure PanelOk (s : State) : Prop where
  burst   : s.panel.burst.isSome = (s.panel.link == .sending)
  wait    : s.panel.wait.isSome = (s.panel.link == .waiting)
  idle    : s.panel.link = .idle → s.panel.dirty = 0
  waiting : s.panel.link = .waiting → s.pins.lbusy = true ∧ s.panel.dirty ≠ 0

/-- The port as the table of section 10.5 gives it: a response exactly in ANSWERED, and the overrun mark and a request on its way only in EXECUTING, where either a request is on its way to its owner or its one answer is on its way back (R196), and items gathered only for a DEV_STATUS on its way (R205). -/
structure PortOk (s : State) : Prop where
  buffer  : s.port.buffer.isSome = (s.port.state == .answered)
  overrun : s.port.overrun = true → s.port.state = .executing
  request : s.port.request.isSome = true → s.port.state = .executing
  one     : s.port.state = .executing → s.port.request.isSome = !s.port.answer.isSome
  sent    : ∀ i, s.port.request = some i → i.isRequest = true ∧ i.sent = i
  gathers : s.port.gathered ≠ [] → s.port.request = some (.devStatus [])

/-- While RESET is held low every block is at its full reset values, no pod sensed (R21, R209). -/
def HeldOk (s : State) : Prop := s.pins.resetLow = true → s = { State.resetWith s.pins with pending := s.pending }

/-- The profile timer runs in SYNCING while the lines are idle (R80, R97) and in BUSY of ASYNC (R98, R102), and never for CLOCKED (R89). -/
def Decoder.timerMayRun (d : Decoder) : Bool :=
  match d.params, d.state with
  | .twoWire, .syncing => d.bothHigh
  | .async p, .syncing => d.logical p
  | .async _, .busy => true
  | _, _ => false

/-- A decoder holds staging exactly while BUSY (section 3.4), of at most 32 values and at most 65,535 observed (R63), and a profile unless it is STOPPED (R69); its timer runs only where its profile uses it. -/
structure Decoder.Ok (d : Decoder) : Prop where
  staging  : d.staging.isSome = (d.state == .busy)
  values   : ∀ st, d.staging = some st → st.values.length ≤ Config.stagedValues ∧ st.values.length ≤ st.observed ∧
               st.observed ≤ Config.observedLimit
  profile  : d.params = .none → d.state = .stopped
  timer    : d.timer.isSome = true → d.timerMayRun = true

/-- Every decoder is as the rules leave it. -/
def DecodersOk (s : State) : Prop := ∀ d : Fin 6, (s.decoders[d]).Ok

/-- A meter record as R105 leaves it: nothing is counted in status NONE, something in VALID, and the last value lies from the least to the greatest. -/
structure MeterRecord.Ok (r : MeterRecord) : Prop where
  none  : r.status = .none → r.count = 0
  valid : r.status = .valid → r.count ≠ 0
  least : r.count ≠ 0 → r.min ≤ r.last ∧ r.last ≤ r.max

/-- A meter's state against its mode, its pods and its gate: each mode has its own states (section 5.2), a measurement runs only while every used pod is LIVE (R104, R115), and a follower names a gate meter of lower index whose window it counts in (R113). -/
structure Meter.Ok (s : State) (m : Fin 8) : Prop where
  record  : (s.meters[m]).record.Ok
  window  : 1 ≤ s.meters[m].config.window ∧ s.meters[m].config.window ≤ 1000000
  held    : ∀ h, s.meters[m].state = .armed (some h) → s.meters[m].config.mode = .count ∨ s.meters[m].config.mode = .delay
  armed   : ∀ h, s.meters[m].state = .armed h → s.meters[m].config.mode ≠ .gate
  timing  : ∀ t, s.meters[m].state = .timing t → s.meters[m].config.mode ≠ .gate ∧ s.meters[m].config.mode ≠ .count
  isOpen  : ∀ t, s.meters[m].state = .windowOpen t → s.meters[m].config.mode = .gate
  counts  : ∀ t n h, s.meters[m].state = .counting t n h →
              s.meters[m].config.mode = .count ∧ s.meters[s.meters[m].config.gate].state = .windowOpen t
  live    : (∃ t, s.meters[m].state = .timing t) ∨ (∃ t n h, s.meters[m].state = .counting t n h) →
              s.usedPodsLive s.meters[m].config = true
  gate    : s.meters[m].config.mode = .count → s.meters[m].config.gate < m ∧
              (s.meters[m].state ≠ .off → s.meters[s.meters[m].config.gate].config.mode = .gate)

/-- Every meter is as the rules leave it. -/
def MetersOk (s : State) : Prop := ∀ m : Fin 8, Meter.Ok s m

/-- A watch as the rules leave it: while it is active its sample is what its subject reads now, so every change has reached it (R129, R130); a level condition holds in HELD and not in IDLE (R131, R136, R143); DORMANT has no sample (R133), and OFF the reset fields (R137). -/
structure Watch.Ok (s : State) (w : Watch) : Prop where
  fresh   : w.state.active = true → w.sample = s.subjectSample w.subject
  idle    : w.state = .idle → w.condition ≠ .change → w.condition.holds w.sample = false
  held    : w.state = .held → w.condition ≠ .change ∧ w.condition.holds w.sample = true
  dormant : w.state = .dormant → w.sample = Sample.absent
  off     : w.state = .off → w = Watch.reset

/-- Every watch is as the rules leave it. -/
def WatchesOk (s : State) : Prop := ∀ i : Fin 32, Watch.Ok s s.watch.watches[i]

/-- The grid shows every pane that is not stale as it would be rendered now: every change of what a pane shows has marked it (R166, R169). -/
def PictureOk (s : State) : Prop :=
  ∀ (i : Fin 16) (r : Fin 16) (c : Fin 40),
    let p := s.display.panes[i]
    p.state ≠ .free → p.stale = false → p.rect.covers r c = true →
      s.display.grid[r][c] = p.cellAt (s.content p) (r - p.rect.row) (c - p.rect.col)

/-- A rectangle lies in the grid (section 8.2). -/
structure Rect.InGrid (r : Rect) : Prop where
  width  : 1 ≤ r.width
  height : 1 ≤ r.height
  right  : r.col + r.width ≤ 40
  bottom : r.row + r.height ≤ 16

/-- The panes and the grid: rectangles in the grid, no cell in two of them (R159), and every cell outside them blank (R158). -/
structure DisplayOk (s : State) : Prop where
  inGrid : ∀ i : Fin 16, s.display.panes[i].rect.InGrid
  apart  : ∀ i j : Fin 16, i ≠ j → s.display.panes[i].state ≠ .free → s.display.panes[j].state ≠ .free →
             s.display.panes[i].rect.meets s.display.panes[j].rect = false
  blank  : ∀ (row : Fin 16) (col : Fin 40),
             (∀ i : Fin 16, s.display.panes[i].state ≠ .free → s.display.panes[i].rect.covers row col = false) →
             s.display.grid[row][col] = GridCell.blank

/-- The panes and watches that hold a reference of a handle (R39). -/
def State.holders (s : State) (h : Handle) : Nat :=
  ((List.finRange 32).countP fun i => s.watch.watches[i].holds == some h)
    + (List.finRange 16).countP fun i => s.display.panes[i].holds == some h

/-- References as R39 gives them: each record counts its holders, and whoever holds one names a record by a current handle. -/
structure ReferencesOk (s : State) : Prop where
  count   : ∀ (i : Fin 64) (r : Record), s.store.slots[i].record = some r → r.references = s.holders (s.store.handle i)
  watches : ∀ (i : Fin 32) (h : Handle), s.watch.watches[i].holds = some h → (s.store.reach h).isSome = true
  panes   : ∀ (i : Fin 16) (h : Handle), s.display.panes[i].holds = some h → (s.store.reach h).isSome = true

/-- Everything that is kept. -/
structure AllOk (s : State) : Prop where
  notices  : NoticesOk s
  pods     : PodsOk s
  store    : StoreOk s
  refs     : ReferencesOk s
  panel    : PanelOk s
  port     : PortOk s
  decoders : DecodersOk s
  display  : DisplayOk s
  held     : HeldOk s
  meters   : MetersOk s
  watches  : WatchesOk s
  picture  : PictureOk s

end Sys2Proof.Machine
end

