-- ==== Sys2Proof/Certificates/Slice0/Obligations.lean ====
section
/-! DEFINITION. The statements for the provers. A refusal is `s.refuse status`: the state with nothing but the answer to the port changed (R202). `Makes` and `MakesSome` say what a command makes wherever the part takes it (`State.takes`, pinned by `TakenCommands`); `UpToReports` is agreement but for what reports do. -/

section Statements

open Sys2Proof Sys2Proof.Machine

/-! ### The queue and time -/

/-- A step runs the command at the front of the queue on the rest of the state. -/
def Obligations.StepRunsFront : Prop :=
  ∀ (c : Instr) (rest : List Instr) (s : State), s.pending = c :: rest → step s = exec c { s with pending := rest }

/-- MILLISECOND_TICK: the count rises by one, modulo 2^32, at each 250,000 sample periods, and nothing else changes. FILTER_CANDIDATE takes one sample of a channel of a LIVE pod as R17 gives when it accepts no change; a sample that accepts a change is an ACCEPTED_EDGE's, and the filter of another pod takes none (the model's choice, log entry 10). On an empty queue the step runs the first command that is due: each timer's at the sample at which it expires, with the levels of its lines as they then stand, then what is under way at the port. A REFRESH_TICK is due when the count has reached the next tick, modulo 2^32 and within half the range (the model's choice, log entry 9), and no restart is on its way (R178). When none is due, one sample period passes: every filter of a LIVE pod takes the sample of its pin, and the changes that the filters accept at it are one ACCEPTED_EDGE; when they accept none, nothing else changes (the order of the blocks and the passing of sample periods are the model's choice, log entry 3; the filter is R17). While RESET is held low no time passes (log entry 22). -/
def Obligations.TimePasses : Prop :=
  (∀ s : State, Makes .millisecondTick s { s with
    clock := { now := max s.clock.now s.clock.nextMsAt, ms := s.clock.ms + 1, nextMsAt := s.clock.nextMsAt + 250000 } }) ∧
  (∀ (c : Fin 32) (level : Bool) (stamp : Nat) (s : State),
    let next := s.channels[c].afterSample level
    (s.podLive (podOf c) = true → next.accepted = s.channels[c].accepted →
      Makes (.filterCandidate c level stamp) s { s.advance stamp with
        channels := s.channels.set c next
        pins := { s.pins with levels := maskOf fun i => if i = c then level else s.pins.levels.getLsbD i } }) ∧
    (s.podLive (podOf c) = false ∨ next.accepted ≠ s.channels[c].accepted →
      exec (.filterCandidate c level stamp) s = .next s)) ∧
  ∀ s : State,
    let at' := fun (moment : Nat) (c : Instr) => if moment ≤ s.clock.now then [c] else []
    let pod := fun p : Fin 4 => match s.pods[p].insertion, s.pods[p].transition with
      | some t, _ => at' t (.insertion p)
      | none, some tr => at' tr.endsAt (match tr.stage with
          | .ramping => .rampingExpiry p
          | .settling => .settlingExpiry p (maskOf fun i : Fin 8 => s.pins.levels.getLsbD (8 * p.val + i.val))
          | .stopping => .stoppingExpiry p)
      | none, none => []
    let decoder := fun d : Fin 6 =>
      let dec := s.decoders[d]
      match dec.timer, dec.params, dec.state, dec.staging with
      | some t, .twoWire, .syncing, _ => at' t (.twoWireIdleExpiry d dec.view[0] dec.view[1])
      | some t, .async _, .syncing, _ => at' t (.asyncIdleExpiry d dec.view[8])
      | some t, .async p, .busy, some st =>
        let n := 9 + (if p.addressBit then 1 else 0) + (if p.parity = .none then 0 else 1) + (if p.twoStops then 2 else 1)
        at' t (if st.receiver = none then .idleGapExpiry d
          else if n ≤ st.bits.length + 1 then .breakTimeout d dec.view[8]
          else if st.bits.length + 2 < n then .asyncSamplePoint d dec.view[8]
          else .characterJudged d dec.view[8])
      | _, _, _, _ => []
    let meter := fun m : Fin 8 => match s.meters[m].state with
      | .timing start => at' (start + 4294967296) (.overrange m)
      | .windowOpen openAt => at' (openAt + s.meters[m].config.window * 250) (.windowExpiry m [])
      | .off | .armed _ | .counting _ _ _ => []
    let tick := (s.clock.ms - s.display.nextTick).toNat < 2147483648 ∧
      ¬ (s.port.state = .executing ∧ s.port.request = some .devRestart)
    let link := match s.panel.link, s.panel.burst, s.panel.wait with
      | .sending, some b, _ => at' b.endsAt (.burstEnd s.pins.lbusy)
      | .waiting, _, some t => at' t .waitExpiry
      | _, _, _ => []
    let backlight := match s.backlight.endsAt with
      | some t => at' t .backlightPhaseExpiry
      | none => []
    let dues := at' s.clock.nextMsAt .millisecondTick ++ (if tick then [.refreshTick s.pins.lbusy] else [])
      ++ (pod 0 ++ pod 1 ++ pod 2 ++ pod 3)
      ++ (decoder 0 ++ decoder 1 ++ decoder 2 ++ decoder 3 ++ decoder 4 ++ decoder 5)
      ++ (meter 0 ++ meter 1 ++ meter 2 ++ meter 3 ++ meter 4 ++ meter 5 ++ meter 6 ++ meter 7)
      ++ link ++ backlight ++ s.portDue.toList
    let shows := fun c : Fin 32 => s.podLive (podOf c) && (s.channels[c].afterSample (s.pins.level c)).accepted != s.channels[c].accepted
    let accepted := (List.finRange 32).filter shows
    let passed : State := { s with
      clock := { s.clock with now := s.clock.now + 1 }
      channels := tab fun c =>
        if s.podLive (podOf c) && !shows c then s.channels[c].afterSample (s.pins.level c) else s.channels[c] }
    s.due = (if s.pins.resetLow then none else dues.head?) ∧
    (s.pending = [] →
      (∀ c, s.due = some c → step s = exec c s) ∧
      (s.pins.resetLow = true → step s = .next s) ∧
      (s.pins.resetLow = false → s.due = none →
        (accepted = [] → step s = .next passed) ∧
        (∀ c cs, accepted = c :: cs → step s = exec (.acceptedEdge c cs (s.clock.now + 1) []) passed)))

/-- Every command answers a next state, in every state. Which commands the part takes (`State.takes`): while RESET is held low only FULL_RESET (R21, R191, R209), and while the port is EXECUTING no request but the one on its way to its owner (R196); a command that is not taken changes nothing. A taken request gives exactly one answer: it is no longer on its way, its answer is, and the port is otherwise as it was; a DEV_STATUS whose owners give their items at several moments gives it with the last, and until then changes only what the port has gathered (R205). On an empty queue the request on its way goes to its owner, and the answer back to the port, once no time-driven command is due. A request row outside EXECUTING, which no frame brought, acts as well, and the order on the empty queue is fixed (the model's choices, log entries 1 and 3). -/
def Obligations.TakenCommands : Prop :=
  (∀ (c : Instr) (s : State), ∃ t, exec c s = .next t) ∧
  (∀ c : Instr, c.isRequest = true ↔ requestOf c ≠ none) ∧
  (∀ c d : Instr, c.wf = true → d.wf = true → requestOf c = requestOf d → c.isRequest = true → c.sent = d.sent) ∧
  (∀ c : Instr, requestOf c.sent = requestOf c) ∧
  (∀ (c : Instr) (s : State),
    let reset := ∃ sense, c = .fullReset sense
    let held := s.pins.resetLow = true ∧ ¬ reset
    let elsewhere := c.isRequest = true ∧ s.port.state = .executing ∧ s.port.request ≠ some c.sent
    (s.takes c = true ↔ ¬ held ∧ ¬ elsewhere) ∧ (held ∨ elsewhere → exec c s = .next s) ∧
    (c.isRequest = true → c.sent ≠ .devStatus [] →
      MakesSome c s fun t => ∃ a, t.port = { s.port with request := none, answer := some a }) ∧
    (c.sent = .devStatus [] → MakesSome c s fun t =>
      (∃ a, t.port = { s.port with request := none, answer := some a, gathered := [] }) ∨
        (c ≠ .devStatus [] ∧ ∃ items, t = { s with port := { s.port with gathered := items } }))) ∧
  ∀ s : State,
    (s.port.state = .executing → ∀ i, s.port.request = some i →
      ∃ lbusy, s.portDue = some (i.atLevel lbusy) ∧ (i.atLevel lbusy).sent = i.sent) ∧
    (s.port.state = .executing → s.port.request = none → s.port.answer ≠ none → s.portDue = some .answer) ∧
    (s.due = none → s.pins.resetLow = true ∨ s.portDue = none)

/-! ### Resets -/

/-- FULL_RESET with sense lines: the pods as sensed, every channel, decoder, meter, slot, watch, pane, the grid, the link, the backlight and the port at the reset values (a loaded code of 54 and an empty SDO are the model's choice, log entry 7; that the comparator outputs and LBUSY are kept, log entry 6). Without them RESET is held low (the model's choice, log entry 22): the same, but no pod is sensed, every supply is off, READY is low and ATTN high. -/
def Obligations.FullReset : Prop :=
  ∀ (sense : Option (BitVec 4)) (s : State), ∃ t, exec (.fullReset sense) s = .next t ∧
    (∀ p : Fin 4,
      let present := match sense with | some b => b.getLsbD p | none => false
      t.pods[p] =
        { present, state := if present then .off else .absent, requested := .off
          code := 54, loaded := 54, supply := false, faultMark := false, transition := none, insertion := none }) ∧
    (∀ c : Fin 32, t.channels[c] = { width := 0, accepted := false, candidate := none }) ∧
    (∀ d : Fin 6, t.decoders[d] =
      { params := .none, learn := .auto, bindings := [], state := .stopped, view := Vector.replicate 9 false
        timer := none, staging := none, applied := 0, aborted := 0, unknown := 0, withheld := 0, ragged := 0
        lastAbort := .none }) ∧
    (∀ i : Fin 64, t.store.slots[i] = { gen := 0, record := none }) ∧ t.store.free = 1024 ∧
    (∀ m : Fin 8, t.meters[m] =
      { config := { mode := .period, channelA := 0, channelB := 0, startEdge := .rising, stopEdge := .rising
                    startSource := .channelA, sourceDecoder := 0, sourceAddress := none, gate := 0, window := 1000
                    singleShot := false }
        state := .off
        record := { status := .none, last := 0, min := 0, max := 0, count := 0, disturbed := 0, withheld := 0 } }) ∧
    (∀ i : Fin 32, t.watch.watches[i] =
      { state := .off, subject := .none, condition := .none, level := 15, freezes := false, marks := false, hits := 0
        lastTrip := none, sample := { value := none, expected := none } }) ∧
    t.watch.podFault = 0 ∧ t.watch.podChange = 0 ∧ t.watch.panelLost = false ∧ t.watch.storeFull = false ∧
    t.watch.cellsFull = false ∧ t.watch.attention = 16 ∧ t.watch.freezeLevel = 0 ∧ t.watch.hold = false ∧
    t.watch.cause = 0 ∧ t.watch.freeze = false ∧ t.watch.current = .none ∧ t.watch.attn = false ∧
    (∀ i : Fin 16, t.display.panes[i] =
      { state := .free, rect := { row := 0, col := 0, width := 1, height := 1 }, subject := .none, format := .hex
        label := [], highlight := false, stale := false }) ∧
    (∀ (r : Fin 16) (c : Fin 40), t.display.grid[r][c] = { code := 0x20, attr := .normal }) ∧
    t.display.interval = 100 ∧ t.display.nextTick = 100 ∧
    t.panel = { link := .off, rate := .mhz4, dirty := 0, wait := none, burst := none } ∧
    t.backlight = { high := 0, low := 0, phaseHigh := false, endsAt := none } ∧
    t.port = { state := .idle, buffer := none, overrun := false, request := none, answer := none, gathered := [], sdo := [] } ∧
    t.clock = { now := 0, ms := 0, nextMsAt := 250000 } ∧
    t.port.ready = false ∧ t.pending = s.pending ∧
    t.pins = (match sense with
      | some b => { s.pins with sense := b, resetLow := false }
      | none => { s.pins with resetLow := true })

/-- DEV_RESTART: decoders and meters as after a full reset, every record retired, the watches OFF with the pod masks kept and the notice, ATTN and freeze derived afresh, panes FREE and the grid blank, the link OFF and the backlight dark; the pods, channels, pins and time unchanged. That both stages of a restart are one step is the model's choice, log entry 15. -/
def Obligations.DevRestart : Prop :=
  ∀ s : State, MakesSome .devRestart s fun t =>
    t.pods = s.pods ∧ t.channels = s.channels ∧ t.clock = s.clock ∧ t.pins = s.pins ∧ t.pending = s.pending ∧
    (∀ d : Fin 6, t.decoders[d] = Decoder.reset) ∧ (∀ m : Fin 8, t.meters[m] = Meter.reset) ∧
    (∀ i : Fin 64, t.store.slots[i] =
      { gen := if (s.store.slots[i].record).isSome then s.store.slots[i].gen + 1 else s.store.slots[i].gen
        record := none }) ∧ t.store.free = 1024 ∧
    (∀ i : Fin 32, t.watch.watches[i] = Watch.reset) ∧
    t.watch.podFault = s.watch.podFault ∧ t.watch.podChange = s.watch.podChange ∧ t.watch.panelLost = false ∧
    t.watch.storeFull = false ∧ t.watch.cellsFull = false ∧ t.watch.attention = 16 ∧ t.watch.freezeLevel = 0 ∧
    t.watch.hold = false ∧ t.watch.cause = 0 ∧ t.watch.freeze = (s.watch.podFault != 0) ∧
    t.watch.current = (if s.watch.podFault ≠ 0 then .podFault else if s.watch.podChange ≠ 0 then .podChange else .none) ∧
    t.watch.attn = (s.watch.podFault != 0 || s.watch.podChange != 0) ∧
    (∀ i : Fin 16, t.display.panes[i] = Pane.reset) ∧
    (∀ (r : Fin 16) (c : Fin 40), t.display.grid[r][c] = GridCell.blank) ∧
    t.display.interval = 100 ∧ t.display.nextTick = s.clock.ms + 100 ∧
    t.panel = Panel.reset ∧ t.backlight = Backlight.reset ∧
    t.port = { s.port with request := none, answer := some { status := .ok, payload := [] } }

/-- The reset state has every invariant that the steps keep. -/
def Obligations.ResetOk : Prop := AllOk State.reset

/-! ### The command port -/

/-- The check byte of R193: bytes with their check byte give 0, and the check bytes of the rule's table. The serial lines of R191: SDI is taken at each rising edge of SCK while SEL is active and RESET high, most significant bit first, eight to a byte; SDO stands at the first bit when SEL goes active, goes to the next at each falling edge of SCK, sends 0xFF after the bytes given, and is not driven while SEL is inactive or RESET is low. On any wave, at a moment of the selection SDO stands at the bit whose number is that of the falling edges of SCK since SEL went active. Of a selection that begins while RESET is low nothing is heard (for a read frame the model's choice, log entry 34). -/
def Obligations.SerialBits : Prop :=
  ((∀ bytes : List Byte, crc8 (bytes ++ [crc8 bytes]) = 0) ∧
    crc8 [0x01, 0x00] = 0x15 ∧ crc8 [0x02, 0x00] = 0x2A ∧ crc8 [0x03, 0x00] = 0x3F ∧ crc8 [0x00, 0x00, 0x00] = 0x00) ∧
  (∀ b7 b6 b5 b4 b3 b2 b1 b0 : Bool, let b := byteMsb [b7, b6, b5, b4, b3, b2, b1, b0]
    (b.getLsbD 7 = b7 ∧ b.getLsbD 6 = b6 ∧ b.getLsbD 5 = b5 ∧ b.getLsbD 4 = b4) ∧
    (b.getLsbD 3 = b3 ∧ b.getLsbD 2 = b2 ∧ b.getLsbD 1 = b1 ∧ b.getLsbD 0 = b0)) ∧
  (∀ (bytes : List Byte) (extra : List Bool), extra.length < 8 →
    clockedBytes (clockingBits (bitsOf bytes ++ extra)) = bytes ∧
    partialBits (clockingBits (bitsOf bytes ++ extra)) = extra.length ∧
    cutByReset (clockingBits (bitsOf bytes ++ extra)) = false) ∧
  (∀ (a b : SerialLines) (rest : List SerialLines),
    sampledBits [] = [] ∧ sampledBits [a] = [] ∧
    (a.sck = false → b.sck = true → sampledBits (a :: b :: rest) = b.sdi :: sampledBits (b :: rest)) ∧
    (a.sck = true ∨ b.sck = false → sampledBits (a :: b :: rest) = sampledBits (b :: rest))) ∧
  (∀ lead sel tail : List SerialLines, (∀ l ∈ lead, l.sel = false) → (∀ l ∈ sel, l.sel = true) →
    (∀ l ∈ tail.head?, l.sel = false) → sel ≠ [] →
    (cutByReset (lead ++ sel ++ tail) = true ↔ ∃ l ∈ sel, l.reset = true) ∧
    (∀ a b, sel = a ++ b → (∀ l ∈ a, l.reset = false) → (∀ l ∈ b.head?, l.reset = true) →
      heard (lead ++ sel ++ tail) = a)) ∧
  ∀ (bytes : List Byte) (wave : List SerialLines),
    (sdoLevels bytes wave).length = wave.length ∧
    (∀ (i : Nat) (l : SerialLines), wave[i]? = some l → l.sel = false ∨ l.reset = true →
      oneSelection wave = true → (sdoLevels bytes wave)[i]? = some none) ∧
    (∀ lead sel tail : List SerialLines, wave = lead ++ sel ++ tail → (∀ l ∈ lead, l.sel = false) →
      (∀ l ∈ sel, l.sel = true ∧ l.reset = false) → ∀ j : Nat, j < sel.length →
      let n := ((sel.zip sel.tail).take j).countP fun e => e.1.sck && !e.2.sck
      (sdoLevels bytes wave)[lead.length + j]? =
        some (some (match bytes[n / 8]? with | some b => b.getLsbD (7 - n % 8) | none => true))) ∧
    ∀ (bits : List Bool) (k : Nat), k < bits.length →
      let bit := match bytes[k / 8]? with | some b => b.getLsbD (7 - k % 8) | none => true
      (clockingBits bits)[2 * k + 2]?.map SerialLines.sck = some false ∧
      (clockingBits bits)[2 * k + 3]?.map SerialLines.sck = some true ∧
      (sdoLevels bytes (clockingBits bits))[2 * k + 2]? = some (some bit) ∧
      (sdoLevels bytes (clockingBits bits))[2 * k + 3]? = some (some bit)

/-- The request frame of every well-formed request, taken outside EXECUTING, puts exactly that request on its way: the buffer empties, the port is EXECUTING, and 0xFF was sent for every byte. The level of LBUSY is no part of a request, nor are the moments at which the owners of DEV_STATUS give their items (`Instr.sent`). -/
def Obligations.FrameRoutesItsRequest : Prop :=
  ∀ (i : Instr) (r : Byte × List Byte) (wave : List SerialLines) (s : State), i.wf = true → requestOf i = some r →
    clockedBytes wave = frameOf r → partialBits wave = 0 → cutByReset wave = false → s.port.state ≠ .executing →
    Makes (.requestFrame wave) s { s with port := { s.port with
      state := .executing, buffer := none, request := some i.sent, answer := none, gathered := [], sdo := sdoLevels [] wave } }

/-- A frame that is judged good is the frame of the request it is judged to be, and that request is well-formed. -/
def Obligations.GoodFrameIsItsRequest : Prop :=
  ∀ (bytes : List Byte) (bits : Nat) (i : Instr), judgeFrame bytes bits = .good i →
    bits = 0 ∧ i.wf = true ∧ i.sent = i ∧ ∃ r, requestOf i = some r ∧ bytes = frameOf r

/-- A request frame taken while EXECUTING is ignored and sets the overrun mark (R195). Outside EXECUTING a bad frame is answered by the port with the status of the first failed check (R194); BAD_PARAM means that no well-formed request has this code and these parameters. No whole byte is no frame (R192), and a request frame in which RESET went low is lost (R191). 0xFF is sent throughout. -/
def Obligations.BadFrameAnswered : Prop :=
  ∀ (wave : List SerialLines) (s : State),
    let heard : State := { s with port := { s.port with sdo := sdoLevels [] wave } }
    let refused := fun st : Status => { heard with port := { heard.port with
      state := .executing, buffer := none, request := none, answer := some { status := st, payload := [] }, gathered := [] } }
    let frame := Instr.requestFrame wave
    (clockedBytes wave = [] → Makes frame s heard) ∧
    ∀ (code : Byte) (rest : List Byte), clockedBytes wave = code :: rest → code ≠ 0 →
    (cutByReset wave = true → Makes frame s heard) ∧
    (cutByReset wave = false →
    (s.port.state = .executing → Makes frame s { heard with port := { heard.port with overrun := true } }) ∧
    (s.port.state ≠ .executing → rest = [] → Makes frame s (refused .badFrame)) ∧
    (s.port.state ≠ .executing → ∀ (n : Byte) (tail : List Byte), rest = n :: tail →
      (250 < n.toNat ∨ tail.length ≠ n.toNat + 1 ∨ partialBits wave ≠ 0 → Makes frame s (refused .badFrame)) ∧
      (n.toNat ≤ 250 → tail.length = n.toNat + 1 → partialBits wave = 0 →
        (crc8 (code :: rest) ≠ 0 → Makes frame s (refused .badCheck)) ∧
        (crc8 (code :: rest) = 0 →
          ((∀ i r, requestOf i = some r → r.1 ≠ code) → Makes frame s (refused .unknownRequest)) ∧
          ((∃ i r, requestOf i = some r ∧ r.1 = code) →
            (∀ i, i.wf = true → requestOf i ≠ some (code, tail.take n.toNat)) → Makes frame s (refused .badParam))))))

/-- READ_FRAME in ANSWERED sends 0xFF, the response with the FROZEN and ATTN flags of this moment and its check byte, then 0xFF, as far as the host clocks, and consumes the response; in IDLE and EXECUTING it sends NO_RESPONSE with the overrun mark and changes nothing else. A frame is of the kind that its first byte gives (R192). ANSWER: the owner's answer fills the buffer, takes the overrun mark, and makes the port ANSWERED; with no answer on its way, or outside EXECUTING, nothing changes (the model's choice, log entry 10). -/
def Obligations.ReadFrameAndAnswer : Prop :=
  (∀ (wave : List SerialLines) (rest : List Byte) (s : State), clockedBytes wave = 0 :: rest →
    let sent := fun (st : Byte) (overrun : Bool) (payload : List Byte) =>
      let body := [st, boolByte s.watch.freeze + 2 * boolByte s.watch.attn + 4 * boolByte overrun, byte payload.length] ++ payload
      sdoLevels (0xFF :: body ++ [crc8 body]) wave
    (∀ r, s.port.state = .answered → s.port.buffer = some r →
      Makes (.readFrame wave) s { s with port := { s.port with
        state := .idle, buffer := none, sdo := sent r.status.code r.overrun r.payload } }) ∧
    (s.port.state ≠ .answered →
      Makes (.readFrame wave) s { s with port := { s.port with sdo := sent 0x01 s.port.overrun [] } })) ∧
  (∀ (wave : List SerialLines) (s : State), exec (.readFrame wave) s = exec (.requestFrame wave) s) ∧
  ∀ s : State,
    (∀ a, s.port.state = .executing → s.port.answer = some a → Makes .answer s { s with port := { s.port with
      state := .answered, buffer := some { status := a.status, overrun := s.port.overrun, payload := a.payload }
      overrun := false, request := none, answer := none } }) ∧
    (s.port.state ≠ .executing ∨ s.port.answer = none → exec .answer s = .next s)

/-- The codes that responses carry (R202, R211, R214, R216, R217). DEV_IDENT answers the items of R204 in every state and changes nothing else; a DEV_IDENT frame with parameters is refused with BAD_PARAM. DEV_STATUS: each of the seven owners gives its items in one operation, as they then stand, in the layout of section 11.7; those that the command names give them at a later moment of the same request, and once all have given the answer is complete; nothing else changes (R205). A DEV_STATUS that no frame brought reads every owner at one moment (the model's choice, log entry 15). -/
def Obligations.DeviceReads : Prop :=
  ((∀ c : Status × Byte, c ∈ [(.ok, 0x00), (.noResponse, 0x01), (.badCheck, 0x02), (.badFrame, 0x03), (.unknownRequest, 0x04),
      (.badParam, 0x05), (.notFound, 0x10), (.staleHandle, 0x11), (.exists, 0x12), (.storeFull, 0x13), (.cellsFull, 0x14),
      (.inUse, 0x15), (.podBusy, 0x20), (.podFaulted, 0x21), (.decoderRunning, 0x30), (.badBinding, 0x31), (.notConfigured, 0x32),
      (.meterRunning, 0x40), (.badGate, 0x41), (.gateInUse, 0x42), (.overlap, 0x50), (.badRect, 0x51), (.nothing, 0x60)] →
      c.1.code = c.2) ∧
    [PodState.absent, .off, .ramping, .settling, .isolated, .live, .stopping].map PodState.number = [0, 1, 2, 3, 4, 5, 6] ∧
    [PodTarget.off, .isolated, .live].map PodTarget.number = [1, 4, 5] ∧
    [DecState.stopped, .suspended, .syncing, .idle, .busy].map DecState.code = [0, 1, 2, 3, 4] ∧
    [AbortReason.none, .unanswered, .protocol, .framing, .parity, .break, .settle, .pod, .stop].map AbortReason.code
      = [0, 1, 2, 3, 4, 5, 6, 7, 8] ∧
    [Role.clock, .data, .out, .inp, .select0, .select1, .select2, .select3, .line].map Role.code = [0, 1, 2, 3, 4, 5, 6, 7, 8] ∧
    [MeterMode.period, .high, .low, .delay, .gate, .count].map MeterMode.code = [0, 1, 2, 3, 4, 5] ∧
    [EdgeSelect.rising, .falling, .either].map EdgeSelect.code = [0, 1, 2] ∧
    [StartSource.channelA, .decoder].map StartSource.code = [0, 1] ∧
    (∀ (h : Option Nat) (t n : Nat),
      [MeterState.off, .armed h, .timing t, .windowOpen t, .counting t n h].map MeterState.code = [0, 1, 2, 3, 4]) ∧
    [MeterStatus.none, .valid, .overrange].map MeterStatus.code = [0, 1, 2] ∧
    [WatchState.off, .idle, .tripped, .held, .dormant].map WatchState.code = [0, 1, 2, 3, 4] ∧
    [PaneState.free, .live, .orphaned].map PaneState.code = [0, 1, 2] ∧
    [Format.hex, .dec, .bin, .time].map Format.code = [0, 1, 2, 3] ∧
    [LinkState.off, .idle, .waiting, .sending, .lost].map LinkState.code = [0, 1, 2, 3, 4] ∧
    [Attr.normal, .inverse, .dim].map Attr.code = [0, 1, 2] ∧
    [CellOrigin.written, .read, .host].map CellOrigin.code = [0, 1, 2] ∧
    (∀ v : Half, be16 v = [v.extractLsb' 8 8, v.extractLsb' 0 8]) ∧
    ∀ v : Word, be32 v = [v.extractLsb' 24 8, v.extractLsb' 16 8, v.extractLsb' 8 8, v.extractLsb' 0 8]) ∧
  ((∀ s : State, Makes .devIdent s { s with port := { s.port with
      request := none
      answer := some { status := .ok
                       payload := [0x48, 0x19, 0x14, 1, 4, 32, 6, 8, 32, 16, 64, 0x04, 0x00, 32, 40, 16] } } }) ∧
    ∀ params : List Byte, params ≠ [] → judgeRequest 0x01 params = .bad .badParam) ∧
  ∀ s : State, ∃ notice : List Byte,
    (s.watch.current = .none → notice = [0, 0, 0]) ∧
    (s.watch.current = .podFault → notice = [1, s.watch.podFault.setWidth 8, 0]) ∧
    (s.watch.current = .podChange → notice = [2, s.watch.podChange.setWidth 8, 0]) ∧
    (s.watch.current = .panelLost → notice = [3, 0, 0]) ∧
    (s.watch.current = .storeFull → notice = [4, 0, 0]) ∧
    (s.watch.current = .cellsFull → notice = [5, 0, 0]) ∧
    (∀ i : Fin 32, s.watch.current = .watch i → notice = [6, byte i, s.watch.watches[i].level]) ∧
    let now := fun o : StatusOwner => match o with
      | .timeBase => be32 s.clock.ms
      | .watchUnit =>
        [boolByte s.watch.freeze + 2 * boolByte s.watch.hold, s.watch.podFault.setWidth 8] ++ be32 s.watch.cause ++ notice
      | .podController => [s.pods[0].state.number, s.pods[1].state.number, s.pods[2].state.number, s.pods[3].state.number]
      | .decoderBank => [s.decoders[0].state.code, s.decoders[1].state.code, s.decoders[2].state.code,
          s.decoders[3].state.code, s.decoders[4].state.code, s.decoders[5].state.code]
      | .meterArray => [s.meters[0].state.code, s.meters[1].state.code, s.meters[2].state.code, s.meters[3].state.code,
          s.meters[4].state.code, s.meters[5].state.code, s.meters[6].state.code, s.meters[7].state.code]
      | .panelLink => [s.panel.link.code]
      | .targetStore => be16 (BitVec.ofNat 16 s.store.free)
          ++ [byte ((List.finRange 64).countP fun i => (s.store.slots[i].record).isSome)]
    let items := fun o : StatusOwner => (s.port.gathered.lookup o).getD (now o)
    let owners : List StatusOwner :=
      [.timeBase, .watchUnit, .podController, .decoderBank, .meterArray, .panelLink, .targetStore]
    let underWay := s.port.state = .executing ∧ s.port.request = some (.devStatus [])
    ∀ later : List StatusOwner,
      let open' := owners.filter fun o => decide (o ∈ later ∧ s.port.gathered.lookup o = none)
      (¬ underWay ∨ open' = [] → Makes (.devStatus later) s { s with port := { s.port with
        request := none, answer := some { status := .ok, payload := owners.flatMap items }, gathered := [] } }) ∧
      (underWay → open' ≠ [] → Makes (.devStatus later) s { s with port := { s.port with
        gathered := (owners.filter fun o => decide (o ∉ open')).map fun o => (o, items o) } })

/-! ### Pods -/

/-- The refusals of the pod requests: POD_SET with BAD_PARAM for a pod above 3, a state that is none of the three, a code above 132 or a width above 7; POD_GO with BAD_PARAM for a mask that names a pod above 3, then with POD_BUSY for a named pod in a transition, then with POD_FAULTED for a named pod with its fault mark set; POD_READ with BAD_PARAM for a pod above 3. POD_READ answers the items of R15 in the layout of R213, the remaining time in µs rounded up and over the stages still to follow, and changes nothing else. -/
def Obligations.PodRefusalsAndRead : Prop :=
  ((∀ (pod requested code : Byte) (w : Vector Byte 8) (s : State),
    (4 ≤ pod.toNat ∨ (requested ≠ 1 ∧ requested ≠ 4 ∧ requested ≠ 5) ∨ 132 < code.toNat ∨ ∃ i : Fin 8, 7 < (w[i]).toNat) →
    Makes (.podSet pod requested code w) s (s.refuse .badParam)) ∧
  ∀ (mask : Byte) (s : State),
    (16 ≤ mask.toNat → Makes (.podGo mask) s (s.refuse .badParam)) ∧
    (mask.toNat < 16 → (∃ p : Fin 4, mask.getLsbD p = true ∧ s.pods[p].state.moving = true) →
      Makes (.podGo mask) s (s.refuse .podBusy)) ∧
    (mask.toNat < 16 → (∀ p : Fin 4, mask.getLsbD p = true → s.pods[p].state.moving = false) →
      (∃ p : Fin 4, mask.getLsbD p = true ∧ s.pods[p].faultMark = true) →
      Makes (.podGo mask) s (s.refuse .podFaulted)) ∧
    (4 ≤ mask.toNat → Makes (.podRead mask) s (s.refuse .badParam))) ∧
  ∀ (pod : Byte) (p : Fin 4) (s : State), pod.toNat = p → ∃ left : Nat,
    (s.pods[p].transition = none → left = 0) ∧
    (∀ t, s.pods[p].transition = some t → left = (t.endsAt - s.clock.now) +
      (if t.stage = .ramping ∧ t.dest = .live then 50000 else 0)) ∧
    Makes (.podRead pod) s (s.answered .ok
      ([boolByte s.pods[p].present + 2 * boolByte s.pods[p].faultMark, s.pods[p].state.number,
        s.pods[p].requested.number, s.pods[p].code]
        ++ (List.finRange 8).map (fun i : Fin 8 => byte (s.channels[(⟨8 * p + i, by omega⟩ : Fin 32)].width))
        ++ be16 (BitVec.ofNat 16 ((left + 249) / 250))))

/-- POD_SET stores the requested state, the code with the effect of R5 and the widths, in every pod state; a threshold change in LIVE is a pod down of cause SETTLE. Everything else is as before, but for reports. -/
def Obligations.PodSetStores : Prop :=
  ∀ (p : Fin 4) (pod requested code : Byte) (t : PodTarget) (w : Vector Byte 8) (s : State), NoticesOk s →
    pod.toNat = p → (requested = 1 ∧ t = .off ∨ requested = 4 ∧ t = .isolated ∨ requested = 5 ∧ t = .live) →
    code.toNat ≤ 132 → (∀ i : Fin 8, (w[i]).toNat ≤ 7) →
    let widened : State := { s with
      channels := tab fun c =>
        if podOf c = p then { s.channels[c] with width := Fin.ofNat 8 (w[inputOf c]).toNat } else s.channels[c] }
    let leaves := s.pods[p].state == PodState.live && code != s.pods[p].code
    MakesSome (.podSet pod requested code w) s fun u =>
      UpToReports (((widened.withPod p (s.pods[p].afterSet t code s.clock.now)).withPodDown p .settle leaves).answered .ok []) u

/-- POD_GO with both checks passed: each named pod starts the path from its state to its requested state, an ABSENT or already placed pod is left alone, and the answer carries the absent mask; a pod that leaves LIVE is a pod down of cause STOP. Everything else is as before, but for reports. -/
def Obligations.PodGoStarts : Prop :=
  ∀ (mask : Byte) (s : State), mask.toNat < 16 → NoticesOk s →
    (∀ p : Fin 4, mask.getLsbD p = true → s.pods[p].state.moving = false ∧ s.pods[p].faultMark = false) →
    let leaves := fun p : Fin 4 => mask.getLsbD p && s.pods[p].state == PodState.live && s.pods[p].requested != PodTarget.live
    let absent : Byte := (maskOf fun p : Fin 4 => mask.getLsbD p && s.pods[p].state == PodState.absent).setWidth 8
    MakesSome (.podGo mask) s fun u =>
      UpToReports
        (State.answered .ok [absent]
          { ((List.finRange 4).foldl (fun x p => x.withPodDown p .stop (leaves p)) s) with
            pods := tab fun p => if mask.getLsbD p then s.pods[p].afterGo s.clock.now else s.pods[p] }) u

/-- The insertion timer starts from 0 when an ABSENT pod's sense line goes present, and stops when the line goes absent before 10 ms. When it reaches 10 ms the pod is present and OFF, everything else of it kept, and POD_CHANGE is raised with its bit. Where an event cannot arise it changes nothing (the model's choice, log entry 10). REMOVAL: a pod that is not ABSENT goes to ABSENT with its supply off and its transition lost, its requested state, code and fault mark kept; leaving LIVE is a pod down of cause REMOVAL; POD_CHANGE is raised. On an ABSENT pod nothing changes (the model's choice, log entry 10). -/
def Obligations.PodPresence : Prop :=
  (∀ (p : Fin 4) (s : State), NoticesOk s →
     (s.pods[p].state = .absent → s.pods[p].insertion = none → Makes (.insertionTimerStart p) s { s with
       pins := { s.pins with sense := maskOf fun q => if q = p then true else s.pins.sense.getLsbD q }
       pods := s.pods.set p { s.pods[p] with insertion := some (s.clock.now + 2500000) } }) ∧
     (s.pods[p].state ≠ .absent ∨ s.pods[p].insertion.isSome = true → exec (.insertionTimerStart p) s = .next s) ∧
     (s.pods[p].insertion.isSome = true → Makes (.insertionTimerStop p) s { s with
       pins := { s.pins with sense := maskOf fun q => if q = p then false else s.pins.sense.getLsbD q }
       pods := s.pods.set p { s.pods[p] with insertion := none } }) ∧
     (∀ t, s.pods[p].insertion = some t → MakesSome (.insertion p) s fun u =>
       UpToReports (((s.advance t).withPod p
         { s.pods[p] with present := true, state := .off, insertion := none }).withPodChange p) u ∧ u.watch.Derived) ∧
     (s.pods[p].insertion = none → exec (.insertionTimerStop p) s = .next s ∧ exec (.insertion p) s = .next s)) ∧
  ∀ (p : Fin 4) (s : State), NoticesOk s →
    let unplugged : State := { s with
      pins := { s.pins with sense := maskOf fun q => if q = p then false else s.pins.sense.getLsbD q } }
    let gone : Pod := { s.pods[p] with present := false, state := .absent, supply := false, transition := none }
    (s.pods[p].state ≠ .absent → MakesSome (.removal p) s fun u =>
      UpToReports (((unplugged.withPod p gone).withPodDown p .removal (s.pods[p].state == PodState.live)).withPodChange p) u ∧
      u.watch.Derived) ∧
    (s.pods[p].state = .absent → exec (.removal p) s = .next s)

/-- FAULT: on a supply that is on, the pod goes to OFF at once with its supply off, its transition abandoned and its fault mark set; leaving LIVE is a pod down of cause FAULT; the freeze is in effect and POD_FAULT is the current notice. With the supply off there is no fault and nothing changes. -/
def Obligations.Fault : Prop :=
  ∀ (p : Fin 4) (s : State), NoticesOk s →
    let faulted : Pod := { s.pods[p] with supply := false, state := .off, transition := none, faultMark := true }
    (s.pods[p].state ≠ .off → s.pods[p].state ≠ .absent → MakesSome (.overcurrent p) s fun u =>
      UpToReports ((s.withPod p faulted).withPodDown p .fault (s.pods[p].state == PodState.live)) u ∧
      u.watch.freeze = true ∧ u.watch.current = .podFault) ∧
    (s.pods[p].state = .off ∨ s.pods[p].state = .absent → exec (.overcurrent p) s = .next s)

/-- RAMPING_EXPIRY: towards ISOLATED the pod enters ISOLATED; towards LIVE it enters SETTLING for 200 µs with its code loaded. STOPPING_EXPIRY: towards ISOLATED the pod enters ISOLATED with its supply on; towards OFF its supply goes off and it enters OFF. With no such stage in flight nothing changes (the model's choice, log entry 10). SETTLING_EXPIRY: the pod enters LIVE; its channels take the comparator outputs with no candidate, and a SUSPENDED decoder of the pod whose bound pods are now all LIVE loads its line view and enters SYNCING; every other channel and decoder is as before. With no SETTLING in flight nothing changes (the model's choice, log entry 10). -/
def Obligations.PodExpiries : Prop :=
  (∀ (p : Fin 4) (s : State), NoticesOk s →
     (∀ t, s.pods[p].transition = some t → t.stage = .ramping →
       let now := max s.clock.now t.endsAt
       let settling : Pod := { s.pods[p] with
         state := .settling, loaded := s.pods[p].code
         transition := some { dest := .live, stage := .settling, endsAt := now + 50000 } }
       let isolated : Pod := { s.pods[p] with state := .isolated, transition := none }
       MakesSome (.rampingExpiry p) s fun u =>
         UpToReports ((s.advance t.endsAt).withPod p (if t.dest = .live then settling else isolated)) u) ∧
     ((∀ t, s.pods[p].transition = some t → t.stage ≠ .ramping) → exec (.rampingExpiry p) s = .next s) ∧
     (∀ t, s.pods[p].transition = some t → t.stage = .stopping →
       let isolated : Pod := { s.pods[p] with state := .isolated, transition := none }
       let off : Pod := { s.pods[p] with state := .off, supply := false, transition := none }
       MakesSome (.stoppingExpiry p) s fun u =>
         UpToReports ((s.advance t.endsAt).withPod p (if t.dest = .isolated then isolated else off)) u) ∧
     ((∀ t, s.pods[p].transition = some t → t.stage ≠ .stopping) → exec (.stoppingExpiry p) s = .next s)) ∧
  ∀ (p : Fin 4) (levels : BitVec 8) (s : State), NoticesOk s →
    (∀ t, s.pods[p].transition = some t → t.stage = .settling →
      let live : Pod := { s.pods[p] with state := .live, transition := none }
      let up : State := (s.advance t.endsAt).withPod p live
      MakesSome (.settlingExpiry p levels) s fun u =>
        (∀ c : Fin 32, u.channels[c] =
          if podOf c = p then { s.channels[c] with accepted := levels.getLsbD (inputOf c), candidate := none }
          else s.channels[c]) ∧
        (∀ c : Fin 32, u.pins.levels.getLsbD c =
          if podOf c = p then levels.getLsbD (inputOf c) else s.pins.levels.getLsbD c) ∧
        (∀ d : Fin 6,
          (s.decoders[d].usesPod p = true → s.decoders[d].state = .suspended → up.boundPodsLive s.decoders[d] = true →
            ∃ view : Vector Bool 9, u.decoders[d] = Decoder.enterSyncing { s.decoders[d] with view } up.clock.now ∧
              ∀ (r : Role) (c : Fin 32), s.decoders[d].bindings.filter (fun b => b.role == r) = [{ role := r, channel := c }] →
                view[r.code] = u.channels[c].accepted) ∧
          (s.decoders[d].usesPod p = false ∨ s.decoders[d].state ≠ .suspended ∨ up.boundPodsLive s.decoders[d] = false →
            u.decoders[d] = s.decoders[d])) ∧
        UpToReports { up with
          channels := u.channels, decoders := u.decoders, pins := { s.pins with levels := u.pins.levels } } u) ∧
    ((∀ t, s.pods[p].transition = some t → t.stage ≠ .settling) → exec (.settlingExpiry p levels) s = .next s)

/-! ### Edges -/

/-- ACCEPTED_EDGE: each channel named whose filter accepts a change at its next sample of the other level takes it, and every other is as before. The edges then reach every taker once, those that the command names first (log entry 5): at a decoder the edges of its bound roles in the order of its profile (R79, R90 to R92), at a meter one edge after another. An edge changes nothing at a decoder that is STOPPED or SUSPENDED, nor one whose level the line view has, which was taken with an expiry of its stamp (R77, the model's choice, log entry 4). With no acceptable change nothing changes (log entry 10). -/
def Obligations.AcceptedEdge : Prop :=
  (∀ (channel : Fin 32) (also : List (Fin 32)) (stamp : Nat) (order : List Taker) (s : State), (channel :: also).Nodup →
    let accepts := fun c : Fin 32 => decide (c ∈ channel :: also) && s.podLive (podOf c) &&
      decide ((s.channels[c].afterSample (!s.channels[c].accepted)).accepted = !s.channels[c].accepted)
    let accepted := (channel :: also).filter accepts
    let changed : State := { s.advance stamp with
      channels := tab fun c =>
        if accepts c then { s.channels[c] with accepted := !s.channels[c].accepted, candidate := none } else s.channels[c]
      pins := { s.pins with levels := maskOf fun c => if accepts c then !s.channels[c].accepted else s.pins.levels.getLsbD c } }
    let takers : List Taker := [.decoder 0, .decoder 1, .decoder 2, .decoder 3, .decoder 4, .decoder 5,
      .meter 0, .meter 1, .meter 2, .meter 3, .meter 4, .meter 5, .meter 6, .meter 7]
    (accepted = [] → exec (.acceptedEdge channel also stamp order) s = .next s) ∧
    (accepted ≠ [] → Makes (.acceptedEdge channel also stamp order) s
      ((order ++ takers.filter fun t => decide (t ∉ order)).foldl (fun x t => match t with
        | .decoder d => x.decoderEdges accepted stamp d
        | .meter m => accepted.foldl (fun y c => y.meterEdge m c y.channels[c].accepted stamp) x) changed))) ∧
  (∀ (cs : List (Fin 32)) (stamp : Nat) (d : Fin 6) (s : State),
    let dec := s.decoders[d]
    let edge := fun r : Role => match dec.bindings.find? fun b => b.role == r with
      | some b => if b.channel ∈ cs then [(r, s.channels[b.channel].accepted)] else []
      | none => []
    let takes := fun (x : State) (es : List (Role × Bool)) => es.foldl (State.roleEdge d stamp) x
    (dec.params = .none → s.decoderEdges cs stamp d = s) ∧
    (dec.params = .twoWire → s.decoderEdges cs stamp d = takes s (edge .clock ++ edge .data)) ∧
    (∀ p, dec.params = .async p → s.decoderEdges cs stamp d = takes s (edge .line)) ∧
    (∀ p, dec.params = .clocked p →
      let selects := ((List.finRange 4).filter fun k => k.val < p.selectCount).flatMap fun k => edge (selectRole k)
      let up := selects.filter fun e => e.2 == p.activeHigh
      let down := selects.filter fun e => e.2 != p.activeHigh
      let lines := edge .out ++ edge .inp
      (down = [] → s.decoderEdges cs stamp d = takes s (up ++ edge .clock ++ lines)) ∧
      (down ≠ [] → s.decoderEdges cs stamp d = takes s (edge .clock ++ down ++ up ++ lines)))) ∧
  ∀ (d : Fin 6) (stamp : Nat) (r : Role) (level : Bool) (s : State),
    s.decoders[d].state = .stopped ∨ s.decoders[d].state = .suspended ∨ s.decoders[d].view[r.code] = level →
    s.roleEdge d stamp (r, level) = s

/-- An edge of a TWO_WIRE role at a decoder in IDLE or BUSY, with the line view following it (R78, R81 to R87). In IDLE a start condition begins a transaction. In BUSY a CLOCK rising edge takes a bit with the DATA level of the line view: slots 1 to 8 build the byte, slot 8 of the first byte sets the address and the direction, slot 9 takes the acknowledge, which ends a refused address with UNANSWERED and otherwise makes the byte the pointer-set, a value or nothing. A start or stop condition at a byte boundary ends the transaction clean, or discards it without an address; inside a byte it aborts with PROTOCOL; a start begins the next transaction. Every other edge changes the line view alone. -/
def Obligations.TwoWireEdges : Prop :=
  ∀ (d : Fin 6) (stamp : Nat) (r : Role) (level : Bool) (s : State), NoticesOk s →
    let dec := s.decoders[d]
    let seen : Decoder := { dec with view := dec.view.set r.code level }
    let after := fun x : Decoder => { s with decoders := s.decoders.set d x }
    let u := s.roleEdge d stamp (r, level)
    let aborted := fun (reason : AbortReason) (x : Decoder) (a : Option Byte) => ∃ frozen, FreezeWithin s u frozen ∧
      UpToReports { after { x with aborted := satInc dec.aborted, lastAbort := reason } with
        store := s.store.afterError frozen d a (reason == .unanswered) } u
    let valued := fun (x : Staging) (v : Byte) => if x.observed < 65535 then { x with
      observed := x.observed + 1, values := if x.values.length < 32 then x.values ++ [v] else x.values } else x
    let fresh : Staging :=
      { address := none, direction := none, pointerSet := none, values := [], observed := 0, bits := [], inBits := [], slot := 0
        addressByte := true, taking := true, receiver := none }
    let idle : Decoder := { seen with state := .idle, staging := none, timer := none }
    let clock := seen.view[0]
    let data := seen.view[1]
    let start := r = .data ∧ level = false ∧ clock = true
    let stop := r = .data ∧ level = true ∧ clock = true
    let rises := r = .clock ∧ level = true
    dec.params = .twoWire → r = .clock ∨ r = .data → dec.view[r.code] ≠ level →
    (dec.state = .idle →
      (start → UpToReports (after { seen with state := .busy, staging := some fresh, timer := none }) u) ∧
      (¬ start → u = after seen)) ∧
    ∀ st, dec.state = .busy → dec.staging = some st →
      let slot := if 9 ≤ st.slot then 1 else st.slot + 1
      let staged := fun x : Staging => after { seen with staging := some x }
      let bits := st.bits ++ [data]
      let done : Staging := { st with slot := 9, bits := [], addressByte := false }
      let next : Decoder := if level then idle else { seen with state := .busy, staging := some fresh, timer := none }
      (¬ rises → ¬ start → ¬ stop → u = after seen) ∧
      (rises → slot < 8 ∨ (slot = 8 ∧ st.addressByte = false) → u = staged { st with slot, bits }) ∧
      (rises → slot = 8 → st.addressByte = true → u = staged { st with
        slot, bits, address := some (byteMsb bits >>> 1), direction := some (if data then .read else .write) }) ∧
      (rises → slot = 9 → st.addressByte = true → data = true → aborted .unanswered idle st.address) ∧
      (rises → slot = 9 → st.addressByte = true → data = false → u = staged done) ∧
      (rises → slot = 9 → st.addressByte = false →
        let value := byteMsb st.bits
        (st.direction = some .read → u = staged (valued done value)) ∧
        (st.direction ≠ some .read → st.taking = false → u = staged done) ∧
        (st.direction ≠ some .read → st.taking = true → data = true → u = staged { done with taking := false }) ∧
        (st.direction ≠ some .read → st.taking = true → data = false →
          (st.pointerSet = none → u = staged { done with pointerSet := some value }) ∧
          (st.pointerSet ≠ none → u = staged (valued done value)))) ∧
      (start ∨ stop → st.slot ≤ 1 → st.address = none → UpToReports (after next) u) ∧
      (start ∨ stop → st.slot ≤ 1 → st.address ≠ none → u = (after seen).cleanEnd d stamp next.state next.staging) ∧
      (start ∨ stop → 2 ≤ st.slot → aborted .protocol next st.address)

/-- An edge of a CLOCKED role at a decoder in IDLE or BUSY, with the line view following it (R90 to R94). In IDLE a select becoming active begins a transaction with its index as the address. In BUSY each sampling CLOCK edge takes one bit from OUT and one from IN; eight make the command, which gives the direction and the pointer-set, or a value of the line that the direction names. The transaction's select going inactive ends it clean, or discards it without a direction, and a partial byte is counted ragged; another select becoming active aborts it with PROTOCOL, to SYNCING. Every other edge changes the line view alone. -/
def Obligations.ClockedEdges : Prop :=
  ∀ (d : Fin 6) (stamp : Nat) (r : Role) (level : Bool) (s : State) (p : ClockedParams), NoticesOk s →
    let dec := s.decoders[d]
    let seen : Decoder := { dec with view := dec.view.set r.code level }
    let after := fun x : Decoder => { s with decoders := s.decoders.set d x }
    let u := s.roleEdge d stamp (r, level)
    let aborted := fun (reason : AbortReason) (x : Decoder) (a : Option Byte) => ∃ frozen, FreezeWithin s u frozen ∧
      UpToReports { after { x with aborted := satInc dec.aborted, lastAbort := reason } with
        store := s.store.afterError frozen d a (reason == .unanswered) } u
    let valued := fun (x : Staging) (v : Byte) => if x.observed < 65535 then { x with
      observed := x.observed + 1, values := if x.values.length < 32 then x.values ++ [v] else x.values } else x
    let fresh : Staging :=
      { address := none, direction := none, pointerSet := none, values := [], observed := 0, bits := [], inBits := [], slot := 0
        addressByte := true, taking := true, receiver := none }
    let idle : Decoder := { seen with state := .idle, staging := none, timer := none }
    let active := level = p.activeHigh
    let samples := r = .clock ∧ (level ≠ p.idleHigh ↔ p.sampleSecond = false)
    dec.params = .clocked p → dec.view[r.code] ≠ level →
    (dec.state = .idle →
      (∀ k : Fin 4, r = selectRole k → active → UpToReports (after { seen with
        state := .busy, staging := some { fresh with address := some (byte k) }, timer := none }) u) ∧
      ((∀ k : Fin 4, r ≠ selectRole k) ∨ ¬ active → u = after seen)) ∧
    ∀ st, dec.state = .busy → dec.staging = some st →
      let staged := fun x : Staging => after { seen with staging := some x }
      let bits := st.bits ++ [seen.view[2]]
      let inBits := st.inBits ++ [seen.view[3]]
      let value := fun bs : List Bool => byteMsb (if p.lsbFirst then bs.reverse else bs)
      let done : Staging := { st with bits := [], inBits := [] }
      let ragged := if st.bits = [] then dec.ragged else satInc dec.ragged
      (samples → bits.length < 8 → u = staged { st with bits, inBits }) ∧
      (samples → 8 ≤ bits.length →
        (st.direction = none → u = staged { done with
          direction := some (if (value bits).getLsbD 7 = p.readZero then .write else .read)
          pointerSet := some (value bits &&& 0x7F) }) ∧
        (st.direction = some .write → u = staged (valued done (value bits))) ∧
        (st.direction = some .read → u = staged (valued done (value inBits)))) ∧
      ((∀ k : Fin 4, r ≠ selectRole k) → ¬ samples → u = after seen) ∧
      ∀ k : Fin 4, r = selectRole k →
        (st.address = some (byte k) → active → u = after seen) ∧
        (st.address = some (byte k) → ¬ active → st.direction ≠ none →
          u = (after { seen with ragged }).cleanEnd d stamp .idle none) ∧
        (st.address = some (byte k) → ¬ active → st.direction = none → UpToReports (after { idle with ragged }) u) ∧
        (st.address ≠ some (byte k) → active → aborted .protocol (seen.enterSyncing stamp) st.address) ∧
        (st.address ≠ some (byte k) → ¬ active → u = after seen)

/-- An edge of LINE at an ASYNC decoder in IDLE or BUSY, with the line view following it (R98, R99, R102). A start edge in IDLE begins a transaction and its first character, sampled first at 1.5 bit times; with the address bit off its address is the fixed one (R101). While a character is received an edge is noted, and one to the idle level ends a wait for the break test with the judgment. While the receiver waits a start edge begins the next character, and one at the end of the idle gap or later comes after the clean end (R77, R102). Every other edge changes the line view alone. -/
def Obligations.AsyncEdges : Prop :=
  ∀ (d : Fin 6) (stamp : Nat) (level : Bool) (s : State) (p : AsyncParams), NoticesOk s →
    let r := Role.line
    let dec := s.decoders[d]
    let seen : Decoder := { dec with view := dec.view.set r.code level }
    let after := fun x : Decoder => { s with decoders := s.decoders.set d x }
    let u := s.roleEdge d stamp (r, level)
    let fresh : Staging :=
      { address := none, direction := none, pointerSet := none, values := [], observed := 0, bits := [], inBits := [], slot := 0
        addressByte := true, taking := true, receiver := none }
    let high := level != p.inverted
    let n := 9 + (if p.addressBit then 1 else 0) + (if p.parity = .none then 0 else 1) + (if p.twoStops then 2 else 1)
    let receiver : Receiver := { start := stamp, edgeSeen := false }
    let first : Staging := { fresh with
      address := if p.addressBit then none else some p.fixedAddress
      direction := if p.addressBit then none else some .write
      receiver := some receiver }
    let timer := some (stamp + 3 * p.bitTime / 2)
    dec.params = .async p → dec.view[r.code] ≠ level →
    (dec.state = .idle →
      (high = false → UpToReports (after { seen with state := .busy, staging := some first, timer }) u) ∧
      (high = true → u = after seen)) ∧
    ∀ st, dec.state = .busy → dec.staging = some st →
      (∀ rc, st.receiver = some rc →
        (n ≤ st.bits.length + 1 → high = true → u = (after seen).judge d p rc.start st) ∧
        (st.bits.length + 1 < n ∨ high = false → u = after { seen with
          staging := some { st with receiver := some { rc with edgeSeen := true } } })) ∧
      (st.receiver = none →
        (high = true → u = after seen) ∧
        (high = false → (∀ t, dec.timer = some t → stamp < t) → u = after { seen with
          staging := some { st with receiver := some receiver }, timer }) ∧
        (high = false → ∀ t, dec.timer = some t → t ≤ stamp →
          let ended := (after seen).cleanEnd d t .idle none
          UpToReports { ended with decoders := ended.decoders.set d { ended.decoders[d] with
            state := .busy, staging := some first, timer } } u))

/-- An accepted edge at a meter, by its state and mode. In ARMED the selected edge of PERIOD, a rising edge of HIGH, a falling edge of LOW and a selected start edge of DELAY with its pods LIVE begin a measurement (R108 to R110, R104), but no start of the stop edge's own stamp does (R107, the model's choice, log entry 27); a COUNT follower holds its selected edge (R113). In COUNTING a selected edge counts inside the window and is held at its expiry stamp (R113). An edge that carries the overrange stamp or a later one is taken after the overrange (R111; for a later stamp, and for a clean-end event of the stamp, the model's choice, log entry 30). An edge of a stamp after the window's expiry changes nothing at a COUNTING follower (the model's reading, log entry 25). Edges of other channels, and edges in OFF and OPEN, change nothing. Two edges of one stamp on two channels, and an edge and a clean-end event of one stamp, give the same outcome in either order (R107; at the overrange stamp, log entry 30). -/
def Obligations.MeterEdges : Prop :=
  (∀ (m : Fin 8) (ch : Fin 32) (rising : Bool) (stamp : Nat) (s : State),
    let mt := s.meters[m]
    let c := mt.config
    let becomes := fun st : MeterState => { s with meters := s.meters.set m { mt with state := st } }
    let selected := fun e : EdgeSelect => e = .either ∨ (e = .rising ∧ rising = true) ∨ (e = .falling ∧ rising = false)
    let used := (c.mode ≠ .gate ∧ c.mode ≠ .delay ∧ ch = c.channelA) ∨ (c.mode = .delay ∧ ch = c.channelB) ∨
      (c.mode = .delay ∧ c.startSource = .channelA ∧ ch = c.channelA)
    let live := s.podLive (podOf c.channelA) = true ∧ s.podLive (podOf c.channelB) = true
    let counted := c.mode = .count ∧ ch = c.channelA ∧ selected c.startEdge
    (¬ used ∨ mt.state = .off ∨ (∃ t, mt.state = .windowOpen t) → s.meterEdge m ch rising stamp = s) ∧
    (∀ held, mt.state = .armed held →
      let starts := (c.mode = .period ∧ ch = c.channelA ∧ selected c.startEdge) ∨
        (c.mode = .high ∧ ch = c.channelA ∧ rising = true) ∨ (c.mode = .low ∧ ch = c.channelA ∧ rising = false) ∨
        (c.mode = .delay ∧ c.startSource = .channelA ∧ ch = c.channelA ∧ selected c.startEdge ∧ live ∧
          ∀ stop, held = some stop → stop < stamp)
      (starts → s.meterEdge m ch rising stamp = becomes (.timing stamp)) ∧
      (counted → s.meterEdge m ch rising stamp = becomes (.armed (some stamp))) ∧
      (¬ starts → ¬ counted → s.meterEdge m ch rising stamp = s)) ∧
    (∀ openAt edges held, mt.state = .counting openAt edges held → c.mode = .count →
      let expiry := openAt + s.meters[c.gate].config.window * 250
      (counted → openAt ≤ stamp → stamp < expiry →
        s.meterEdge m ch rising stamp = becomes (.counting openAt (edges + 1) held)) ∧
      (counted → stamp = expiry → openAt < expiry →
        s.meterEdge m ch rising stamp = becomes (.counting openAt edges (some stamp))) ∧
      (¬ counted ∨ stamp < openAt ∨ expiry < stamp → s.meterEdge m ch rising stamp = s)) ∧
    (∀ start, mt.state = .timing start → start + 4294967296 ≤ stamp → used → ∃ ended : State,
      UpToReports { s with meters := s.meters.set m (mt.ended (mt.record.afterOverrange s.watch.freeze) (.armed none)) } ended ∧
      s.meterEdge m ch rising stamp = ended.meterEdge m ch rising stamp)) ∧
  (∀ (m : Fin 8) (a b : Fin 32) (x y : Bool) (stamp : Nat) (s : State), a ≠ b →
    (s.meterEdge m a x stamp).meterEdge m b y stamp = (s.meterEdge m b y stamp).meterEdge m a x stamp) ∧
  ∀ (m : Fin 8) (ch : Fin 32) (rising : Bool) (d : Fin 6) (address : Byte) (stamp : Nat) (s : State),
    (s.meterEdge m ch rising stamp).meterCleanEnd d address stamp m =
      (s.meterCleanEnd d address stamp m).meterEdge m ch rising stamp

/-- A measurement in TIMING ends at the edge its mode gives, later than its start: the record takes the elapsed time, or is counted withheld under the freeze, and the meter goes on as its mode gives, or to OFF when it is single-shot; a DELAY meter in ARMED keeps the stamp of its stop edge (the model's choice, log entry 27). An edge that does not end it changes nothing. -/
def Obligations.MeasurementEnds : Prop :=
  ∀ (m : Fin 8) (ch : Fin 32) (rising : Bool) (stamp start : Nat) (s : State), s.meters[m].state = .timing start →
    let mt := s.meters[m]
    let selected := fun e : EdgeSelect => e = .either ∨ (e = .rising ∧ rising = true) ∨ (e = .falling ∧ rising = false)
    let ends := match mt.config.mode with
      | .period => ch = mt.config.channelA ∧ selected mt.config.startEdge
      | .high => ch = mt.config.channelA ∧ rising = false
      | .low => ch = mt.config.channelA ∧ rising = true
      | .delay => ch = mt.config.channelB ∧ selected mt.config.stopEdge
      | .gate | .count => False
    let next := match mt.config.mode with
      | .period => MeterState.timing stamp | .delay => .armed (some stamp) | .high | .low | .gate | .count => .armed none
    (start < stamp → stamp < start + 4294967296 → ends →
      UpToReports { s with
        meters := s.meters.set m
          (mt.ended (mt.record.afterValue s.watch.freeze (BitVec.ofNat 32 (stamp - start))) next) }
        (s.meterEdge m ch rising stamp)) ∧
    (stamp < start + 4294967296 → stamp ≤ start ∨ ¬ ends → s.meterEdge m ch rising stamp = s)

/-! ### Decoders -/

/-- The tables of the profiles, their parameters, the learn mode, the roles and the bindings (R54, R55, R88, R95, R216). DEC_CONFIG: the refusals in the order of R67, then the whole configuration replaced with the decoder STOPPED and its counts, line view, timer and staging at their reset values; bindings are good when they name every role of the profile once and no other, and no channel twice. -/
def Obligations.DecConfig : Prop :=
  (∀ (p : Params) (bs : List Binding), goodBindings p bs = true ↔
    (∀ r : Role, r ∈ p.roles ↔ ∃ b ∈ bs, b.role = r) ∧ (bs.map (·.role)).Nodup ∧ (bs.map (·.channel)).Nodup) ∧
  (∀ (p : ClockedParams) (q : AsyncParams), Params.none.roles = [] ∧ Params.twoWire.roles = [.clock, .data] ∧
    (Params.async q).roles = [.line] ∧ (p.selectCount ≤ 4 → (Params.clocked p).roles =
      [.clock, .out, .inp] ++ [Role.select0, .select1, .select2, .select3].take p.selectCount)) ∧
  (∀ (profile learn : Byte) (bytes : List Byte) (named : List (Byte × Byte)) (p : Params) (l : Learn) (bs : List Binding),
    let role : Role → Byte := fun
      | .clock => 0 | .data => 1 | .out => 2 | .inp => 3 | .select0 => 4 | .select1 => 5 | .select2 => 6 | .select3 => 7 | .line => 8
    (params? profile bytes = some p ↔ (profile = 0 ∧ p = .none) ∨ (profile = 1 ∧ p = .twoWire) ∨
      (profile = 2 ∧ ∃ idle edge order polarity count sense : Byte, bytes = [idle, edge, order, polarity, count, sense] ∧
        idle.toNat ≤ 2 ∧ edge.toNat ≤ 2 ∧ order.toNat ≤ 2 ∧ polarity.toNat ≤ 2 ∧ sense.toNat ≤ 2 ∧
        1 ≤ count.toNat ∧ count.toNat ≤ 4 ∧ p = .clocked
          { idleHigh := idle == 2, sampleSecond := edge == 2, lsbFirst := order == 2, activeHigh := polarity == 2
            selectCount := count.toNat, readZero := sense == 2 }) ∨
      (profile = 3 ∧ ∃ b1 b0 addressBit parity stops gap polarity fixed : Byte,
        bytes = [b1, b0, addressBit, parity, stops, gap, polarity, fixed] ∧ addressBit.toNat ≤ 2 ∧ parity.toNat ≤ 3 ∧
        stops.toNat ≤ 2 ∧ polarity.toNat ≤ 2 ∧ 8 ≤ b1.toNat * 256 + b0.toNat ∧ 1 ≤ gap.toNat ∧ p = .async
          { bitTime := b1.toNat * 256 + b0.toNat, addressBit := addressBit == 2
            parity := if parity = 2 then .even else if parity = 3 then .odd else .none
            twoStops := stops == 2, idleGap := gap.toNat, inverted := polarity == 2, fixedAddress := fixed })) ∧
    (learn? learn = some l ↔ (learn = 0 ∧ l = .auto) ∨ (learn = 1 ∧ l = .fixed)) ∧
    (bindings? named = some bs ↔ named = bs.map fun b => (role b.role, byte b.channel))) ∧
  ∀ (decoder profile learn : Byte) (named : List (Byte × Byte)) (bytes : List Byte) (s : State),
    (6 ≤ decoder.toNat → Makes (.decConfig decoder profile learn named bytes) s (s.refuse .badParam)) ∧
    ∀ d : Fin 6, decoder.toNat = d →
      (s.decoders[d].state ≠ .stopped →
        Makes (.decConfig decoder profile learn named bytes) s (s.refuse .decoderRunning)) ∧
      (s.decoders[d].state = .stopped →
        params? profile bytes = none ∨ learn? learn = none ∨ bindings? named = none →
        Makes (.decConfig decoder profile learn named bytes) s (s.refuse .badParam)) ∧
      (s.decoders[d].state = .stopped → ∀ p l bs, params? profile bytes = some p → learn? learn = some l →
        bindings? named = some bs →
        (goodBindings p bs = false →
          Makes (.decConfig decoder profile learn named bytes) s (s.refuse .badBinding)) ∧
        (goodBindings p bs = true →
          let dec : Decoder :=
            { params := p, learn := l, bindings := bs, state := .stopped, view := Vector.replicate 9 false, timer := none
              staging := none, applied := 0, aborted := 0, unknown := 0, withheld := 0, ragged := 0, lastAbort := .none }
          MakesSome (.decConfig decoder profile learn named bytes) s fun u =>
            UpToReports (State.ok { s with decoders := s.decoders.set d dec }) u))

/-- DEC_START: BAD_PARAM above 5, NOT_CONFIGURED without a profile, nothing when it runs; else SUSPENDED when a bound pod is not LIVE, and otherwise SYNCING with the line view loaded from the accepted levels. DEC_STOP: BAD_PARAM above 5; a STOPPED decoder stays as it is, a BUSY one aborts with STOP, and each goes to STOPPED with its timer stopped. DEC_READ answers the decoder in the layout of R216 and changes nothing else. -/
def Obligations.DecStartStopRead : Prop :=
  (∀ (decoder : Byte) (s : State),
     (6 ≤ decoder.toNat → Makes (.decStart decoder) s (s.refuse .badParam)) ∧
     ∀ d : Fin 6, decoder.toNat = d →
       let dec := s.decoders[d]
       let suspended : Decoder := { dec with state := .suspended, staging := none, timer := none }
       (dec.params = .none → Makes (.decStart decoder) s (s.refuse .notConfigured)) ∧
       (dec.params ≠ .none → dec.state ≠ .stopped → Makes (.decStart decoder) s s.ok) ∧
       (dec.params ≠ .none → dec.state = .stopped → (∃ b ∈ dec.bindings, s.pods[podOf b.channel].state ≠ .live) →
         MakesSome (.decStart decoder) s fun u =>
           UpToReports (State.ok { s with decoders := s.decoders.set d suspended }) u) ∧
       (dec.params ≠ .none → dec.state = .stopped → (∀ b ∈ dec.bindings, s.pods[podOf b.channel].state = .live) →
         MakesSome (.decStart decoder) s fun u => ∃ view : Vector Bool 9,
           (∀ (r : Role) (c : Fin 32), dec.bindings.filter (fun b => b.role == r) = [{ role := r, channel := c }] →
             view[r.code] = s.channels[c].accepted) ∧
           UpToReports (State.ok { s with
             decoders := s.decoders.set d (Decoder.enterSyncing { dec with view } s.clock.now) }) u)) ∧
  ∀ (decoder : Byte) (s : State),
    (6 ≤ decoder.toNat → Makes (.decStop decoder) s (s.refuse .badParam) ∧
      Makes (.decRead decoder) s (s.refuse .badParam)) ∧
    ∀ d : Fin 6, decoder.toNat = d →
      let dec := s.decoders[d]
      let choice := fun b : Bool => if b then (2 : Byte) else 1
      let stopped : Decoder := { dec with state := .stopped, staging := none, timer := none }
      (dec.state = .stopped → Makes (.decStop decoder) s s.ok) ∧
      (dec.state = .busy → MakesSome (.decStop decoder) s fun u =>
        UpToReports (State.ok { s with
          decoders := s.decoders.set d { stopped with aborted := satInc dec.aborted, lastAbort := .stop } }) u) ∧
      (dec.state ≠ .stopped → dec.state ≠ .busy → MakesSome (.decStop decoder) s fun u =>
        UpToReports (State.ok { s with decoders := s.decoders.set d stopped }) u) ∧
      Makes (.decRead decoder) s (s.answered .ok
        ([(match dec.params with | .none => 0 | .twoWire => 1 | .clocked _ => 2 | .async _ => 3),
           (match dec.learn with | .auto => 0 | .fixed => 1), byte dec.params.roles.length]
          ++ dec.params.roles.flatMap (fun r => match dec.bindings.find? fun b => b.role == r with
              | some b => [byte r.code, byte b.channel] | none => [])
          ++ (match dec.params with
            | .none | .twoWire => []
            | .clocked p => [choice p.idleHigh, choice p.sampleSecond, choice p.lsbFirst, choice p.activeHigh,
                byte p.selectCount, choice p.readZero]
            | .async p => be16 (BitVec.ofNat 16 p.bitTime) ++ [choice p.addressBit,
                match p.parity with | .none => 1 | .even => 2 | .odd => 3, choice p.twoStops, byte p.idleGap,
                choice p.inverted, p.fixedAddress])
          ++ [dec.state.code] ++ be32 dec.applied ++ be16 dec.aborted ++ be16 dec.unknown
          ++ be16 dec.withheld ++ be16 dec.ragged ++ [dec.lastAbort.code]))

/-- The entry to SYNCING and its end (R80, R89, R97). TWO_WIRE waits for both lines high for 50 µs or a stop condition, CLOCKED for every select inactive, which is tested at once and after each select edge, and ASYNC for one character time of idle line. An edge in SYNCING starts the timer again or stops it. At the timer's expiry the decoder goes to IDLE, unless an edge of the expiry's own stamp has ended the wait, in whichever order the two come (R77; that the expiry brings the levels is the model's choice, log entry 4). An expiry that cannot arise changes nothing (log entry 10). -/
def Obligations.SyncingEnds : Prop :=
  (∀ (dec : Decoder) (now : Nat),
    let e := dec.enterSyncing now
    e = { dec with state := e.state, timer := e.timer, staging := none } ∧
    (dec.params = .twoWire → e.state = .syncing ∧
      e.timer = if dec.view[0] && dec.view[1] then some (now + 12500) else none) ∧
    (∀ p, dec.params = .clocked p → e.timer = none ∧
      ((∀ k : Fin 4, k < p.selectCount → dec.view[(selectRole k).code] = !p.activeHigh) → e.state = .idle) ∧
      ((∃ k : Fin 4, k < p.selectCount ∧ dec.view[(selectRole k).code] = p.activeHigh) → e.state = .syncing)) ∧
    (∀ p, dec.params = .async p → e.state = .syncing ∧
      e.timer = if dec.view[8] != p.inverted then some (now + p.bitTime * p.positions) else none)) ∧
  (∀ (d : Fin 6) (stamp : Nat) (r : Role) (level : Bool) (s : State),
    let dec := s.decoders[d]
    let seen : Decoder := { dec with view := dec.view.set r.code level }
    let after := fun x : Decoder => { s with decoders := s.decoders.set d x }
    let idle := after { seen with state := .idle, staging := none, timer := none }
    let u := s.roleEdge d stamp (r, level)
    dec.state = .syncing → dec.view[r.code] ≠ level →
    (dec.params = .twoWire →
      (r = .data → level = true → seen.view[0] = true → UpToReports idle u) ∧
      (r ≠ .data ∨ level = false ∨ seen.view[0] = false →
        u = after { seen with timer := if seen.view[0] && seen.view[1] then some (stamp + 12500) else none })) ∧
    (∀ p, dec.params = .clocked p →
      let inactive := ∀ k : Fin 4, k < p.selectCount → seen.view[(selectRole k).code] = !p.activeHigh
      ((∃ k : Fin 4, r = selectRole k) → inactive → UpToReports idle u) ∧
      ((∀ k : Fin 4, r ≠ selectRole k) ∨ ¬ inactive → u = after seen)) ∧
    (∀ p, dec.params = .async p → r = .line →
      u = after { seen with timer := if level != p.inverted then some (stamp + p.bitTime * p.positions) else none })) ∧
  ∀ (d : Fin 6) (clock data line : Bool) (s : State), DecodersOk s →
    let dec := s.decoders[d]
    let idle := fun t : Nat => { s.advance t with
      decoders := s.decoders.set d { dec with state := .idle, staging := none, timer := none } }
    (∀ t, dec.params = .twoWire → dec.state = .syncing → dec.timer = some t →
      (clock = true → data = true → MakesSome (.twoWireIdleExpiry d clock data) s fun u => UpToReports (idle t) u) ∧
      (clock = false ∨ data = false → Makes (.twoWireIdleExpiry d clock data) s { s.advance t with
        decoders := s.decoders.set d { dec with view := (dec.view.set 0 clock).set 1 data, timer := none } })) ∧
    (dec.params ≠ .twoWire ∨ dec.state ≠ .syncing ∨ dec.timer = none → exec (.twoWireIdleExpiry d clock data) s = .next s) ∧
    (∀ t p, dec.params = .async p → dec.state = .syncing → dec.timer = some t →
      (line ≠ p.inverted → MakesSome (.asyncIdleExpiry d line) s fun u => UpToReports (idle t) u) ∧
      (line = p.inverted → Makes (.asyncIdleExpiry d line) s { s.advance t with
        decoders := s.decoders.set d { dec with view := dec.view.set 8 line, timer := none } })) ∧
    ((∀ p, dec.params ≠ .async p) ∨ dec.state ≠ .syncing ∨ dec.timer = none →
      exec (.asyncIdleExpiry d line) s = .next s)

/-- The ASYNC receiver (R98 to R101). Each sample point takes the logical level, every edge of its stamp applied (R77), as a bit and sets the timer to the next position at ⌊(2j + 1) × bit time / 2⌋. At the last one a character with an edge since its start is judged; one without waits for the break test one character time after its start, where a line still at the start level aborts with BREAK to SYNCING and an edge of that stamp to the idle level has it judged. The judgment: a parity mismatch aborts with PARITY, else a low stop bit with FRAMING, each to IDLE with an error report for a known address. A good address character gives the address, or ends the transaction clean and begins the next; a good data character gives the pointer-set and then values, each setting the idle gap from the start edge; a data character without an address is discarded and counted as unknown. An event that cannot arise changes nothing, be it out of its turn in the character or at a decoder that is not ASYNC, not BUSY, whose receiver waits or whose timer is stopped (the model's choice, log entry 10). -/
def Obligations.Characters : Prop :=
  (∀ (d : Fin 6) (line : Bool) (s : State) (p : AsyncParams) (st : Staging) (rc : Receiver) (t : Nat),
    let dec := s.decoders[d]
    let n := 9 + (if p.addressBit then 1 else 0) + (if p.parity = .none then 0 else 1) + (if p.twoStops then 2 else 1)
    let edgeSeen := rc.edgeSeen || (line != dec.view[8])
    let taken : Staging := { st with
      bits := st.bits ++ [line != p.inverted], receiver := some { rc with edgeSeen } }
    let seen : Decoder := { dec with view := dec.view.set 8 line }
    let after := fun x : Decoder => { s.advance t with decoders := s.decoders.set d x }
    let low := dec.view[8] = p.inverted
    dec.params = .async p → dec.state = .busy → dec.staging = some st → st.receiver = some rc → dec.timer = some t →
    NoticesOk s →
    (st.bits.length + 2 < n → Makes (.asyncSamplePoint d line) s (after { seen with
      staging := some taken, timer := some (rc.start + (2 * (st.bits.length + 2) + 1) * p.bitTime / 2) })) ∧
    (n ≤ st.bits.length + 2 → exec (.asyncSamplePoint d line) s = .next s) ∧
    (st.bits.length + 2 = n →
      (edgeSeen = false → Makes (.characterJudged d line) s (after { seen with
        staging := some taken, timer := some (rc.start + p.bitTime * n) })) ∧
      (edgeSeen = true → Makes (.characterJudged d line) s
        ((after { seen with staging := some taken, timer := none }).judge d p rc.start taken))) ∧
    (st.bits.length + 2 ≠ n → exec (.characterJudged d line) s = .next s) ∧
    (n ≤ st.bits.length + 1 → low →
      (line = p.inverted → MakesSome (.breakTimeout d line) s fun u => ∃ frozen, FreezeWithin s u frozen ∧
        UpToReports { after { dec with
          state := .syncing, staging := none, timer := none, aborted := satInc dec.aborted, lastAbort := .break } with
          store := s.store.afterError frozen d st.address false } u) ∧
      (line ≠ p.inverted → Makes (.breakTimeout d line) s ((after seen).judge d p rc.start st))) ∧
    (st.bits.length + 1 < n ∨ ¬ low → exec (.breakTimeout d line) s = .next s)) ∧
  (∀ (d : Fin 6) (line : Bool) (s : State),
    let dec := s.decoders[d]
    (∀ p, dec.params ≠ .async p) ∨ dec.state ≠ .busy ∨ dec.timer = none ∨ dec.staging = none ∨
      (∃ st, dec.staging = some st ∧ st.receiver = none) →
    exec (.asyncSamplePoint d line) s = .next s ∧ exec (.characterJudged d line) s = .next s ∧
      exec (.breakTimeout d line) s = .next s) ∧
  ∀ (d : Fin 6) (s : State) (p : AsyncParams) (start : Nat) (st : Staging), NoticesOk s →
    let dec := s.decoders[d]
    let u := s.judge d p start st
    let n := 9 + (if p.addressBit then 1 else 0) + (if p.parity = .none then 0 else 1) + (if p.twoStops then 2 else 1)
    let value := byteMsb (st.bits.take 8).reverse
    let parityOk := p.parity = .none ∨
      (((st.bits.take (if p.addressBit then 10 else 9)).count true % 2 = 0) ↔ p.parity = .even)
    let stopsOk := ∀ b ∈ st.bits.drop (n - 1 - (if p.twoStops then 2 else 1)), b = true
    let isAddress := p.addressBit = true ∧ st.bits[8]? = some true
    let after := fun x : Decoder => { s with decoders := s.decoders.set d x }
    let gap := some (start + p.bitTime * n + p.idleGap * (p.bitTime * n))
    let waiting : Staging := { st with bits := [], receiver := none }
    let failed := fun (reason : AbortReason) => ∃ frozen, FreezeWithin s u frozen ∧ UpToReports { after { dec with
      state := .idle, staging := none, timer := none, aborted := satInc dec.aborted, lastAbort := reason } with
      store := s.store.afterError frozen d st.address false } u
    let staged := fun x : Staging => after { dec with staging := some x, timer := gap }
    dec.params = .async p → dec.state = .busy → dec.staging = some st →
    (¬ parityOk → failed .parity) ∧
    (parityOk → ¬ stopsOk → failed .framing) ∧
    (parityOk → stopsOk → isAddress →
      (st.address = none → u = staged { waiting with address := some value, direction := some .write }) ∧
      (∀ a, st.address = some a →
        let next : Staging :=
          { address := some value, direction := some .write, pointerSet := none, values := [], observed := 0, bits := []
            inBits := [], slot := 0, addressByte := true, taking := true, receiver := none }
        let ended := s.cleanEnd d (start + (2 * (n - 1) + 1) * p.bitTime / 2) .busy (some next)
        u = { ended with decoders := ended.decoders.set d { ended.decoders[d] with timer := gap } })) ∧
    (parityOk → stopsOk → ¬ isAddress →
      (st.address = none → UpToReports (after { dec with
        state := .idle, staging := none, timer := none, unknown := satInc dec.unknown }) u) ∧
      (∀ a, st.address = some a →
        (st.pointerSet = none → u = staged { waiting with pointerSet := some value }) ∧
        (∀ ptr, st.pointerSet = some ptr → u = staged (if st.observed < 65535 then { waiting with
            observed := st.observed + 1, values := if st.values.length < 32 then st.values ++ [value] else st.values }
          else waiting))))

/-- A clean end with its address and direction known: one application made from the staging, the applied, withheld and unknown counts by its outcome, and a clean-end event that starts the ARMED DELAY meters waiting for it, but for one whose measurement an edge of that stamp or a later one ended (R107, the model's choice, log entry 27). R61 gives the application and the event no order, and the overrange below reads a freeze within the clean end; that the application's reports come first is the model's choice, log entry 31. A meter in TIMING whose overrange stamp has come takes the overrange first (log entry 30); the meters have no order here (the model's is log entry 32). IDLE_GAP_EXPIRY is the clean end of its transaction, to IDLE; one that cannot arise changes nothing (log entry 10). -/
def Obligations.CleanEnd : Prop :=
  (∀ (d : Fin 6) (stamp : Nat) (next : DecState) (fresh : Option Staging) (s : State) (st : Staging) (a : Byte) (dir : Direction),
    let dec := s.decoders[d]
    dec.staging = some st → st.address = some a → st.direction = some dir →
    let wrap := match dec.params with | .clocked _ => 128 | .none | .twoWire | .async _ => 256
    let r := s.apply { decoder := d, address := a, direction := dir, pointerSet := st.pointerSet, values := st.values
                       observed := st.observed, wrap, learn := dec.learn }
    let u := s.cleanEnd d stamp next fresh
    (∀ m : Fin 8,
      let mt := s.meters[m]
      let c := mt.config
      let waits := c.mode = .delay ∧ c.startSource = .decoder ∧ c.sourceDecoder = d ∧
        (c.sourceAddress = none ∨ c.sourceAddress = some a)
      let live := s.podLive (podOf c.channelB) = true
      (¬ waits → u.meters[m] = mt) ∧
      (waits →
        (∀ held, mt.state = .armed held →
          let later := ∀ stop, held = some stop → stop < stamp
          (live → later → u.meters[m] = { mt with state := .timing stamp }) ∧ (¬ live ∨ ¬ later → u.meters[m] = mt)) ∧
        (∀ start, mt.state = .timing start → start + 4294967296 ≤ stamp → NoticesOk s → ∃ frozen, FreezeWithin s u frozen ∧
          u.meters[m] = mt.ended (mt.record.afterOverrange frozen)
            (if s.podLive (podOf c.channelB) then .timing stamp else .armed none)) ∧
        ((∀ held, mt.state ≠ .armed held) → (∀ start, mt.state = .timing start → stamp < start + 4294967296) →
          u.meters[m] = mt))) ∧
    UpToReports { s with
      decoders := s.decoders.set d { dec with
        state := next, staging := fresh, timer := none, applied := satInc dec.applied
        withheld := if r.2 = .withheld then satInc dec.withheld else dec.withheld
        unknown := if r.2 = .unknown then satInc dec.unknown else dec.unknown }
      store := r.1.store
      meters := u.meters
      watch := { s.watch with storeFull := r.1.watch.storeFull, cellsFull := r.1.watch.cellsFull } } u) ∧
  ∀ (d : Fin 6) (s : State) (p : AsyncParams),
    (∀ t st, s.decoders[d].params = .async p → s.decoders[d].state = .busy → s.decoders[d].staging = some st →
      s.decoders[d].timer = some t → st.receiver = none →
      Makes (.idleGapExpiry d) s (State.cleanEnd d t .idle none (s.advance t))) ∧
    ((∀ q, s.decoders[d].params ≠ .async q) ∨ s.decoders[d].state ≠ .busy ∨ s.decoders[d].timer = none ∨
      (∃ st, s.decoders[d].staging = some st ∧ st.receiver.isSome = true) → exec (.idleGapExpiry d) s = .next s)

/-! ### The target store -/

/-- What the store makes of an application, its outcome with it (R28, R29, R31, R32, R35, R36): withheld under the freeze; taken by the record of the key; lost when there is none and the decoder is FIXED, or no slot is free and no record can be evicted, which raises STORE_FULL; else taken by a new record in the lowest free slot, or in the victim's. -/
def Obligations.ApplicationOutcome : Prop :=
  ∀ (a : Application) (s : State), StoreOk s →
    let r := s.apply a
    let held := fun (i : Fin 64) (x : Record) =>
      s.store.slots[i].record = some x ∧ x.decoder = a.decoder ∧ x.address = a.address
    let fresh : Record :=
      { decoder := a.decoder, address := a.address, declared := false, pinned := false, pointer := none, cells := [], access := 0
        unanswered := 0, errors := 0, lastSeen := s.clock.ms, withheldMark := false, withheldCount := 0, truncated := false
        references := 0 }
    let taken := fun (x : Record) (cells : List TargetCell) (truncated : Bool) => { x with
      access := satInc x.access, lastSeen := s.clock.ms, withheldMark := false, cells, truncated
      pointer := (a.pointerSet.or x.pointer).map fun b => byte ((b.toNat + a.observed) % a.wrap) }
    let updates := fun (i : Fin 64) (x : Record) (before : Store) => r.2 = .applied ∧ ∃ (p : Placing) (full : Bool),
      p = a.placing x before.free ∧ full = p.poolEmpty ∧
      UpToReports { s with
        store := { before with
          slots := before.slots.set i { before.slots[i] with
            record := some (taken x p.cells (x.truncated || p.unplaced || decide (a.values.length < a.observed))) }
          free := p.free }
        watch := { s.watch with cellsFull := s.watch.cellsFull || full } } r.1
    (s.watch.freeze = true → r.2 = .withheld ∧
      (∀ i x, held i x → UpToReports { s with
        store := s.store.setRecord i { x with withheldMark := true, withheldCount := satInc x.withheldCount } } r.1) ∧
      ((∀ i x, ¬ held i x) → r.1 = s)) ∧
    (s.watch.freeze = false →
      (∀ i x, held i x → updates i x s.store) ∧
      ((∀ i x, ¬ held i x) →
        (a.learn = .fixed → r.2 = .unknown ∧ r.1 = s) ∧
        (a.learn = .auto →
          (∀ i : Fin 64, s.store.slots[i].record = none → (∀ j : Fin 64, j < i → s.store.slots[j].record ≠ none) →
            updates i fresh s.store) ∧
          ((∀ i : Fin 64, s.store.slots[i].record ≠ none) →
            (∀ i, s.store.victim s.clock.ms = some i → updates i fresh (s.store.vacate i)) ∧
            (s.store.victim s.clock.ms = none → r.2 = .unknown ∧ r.1.watch.Derived ∧
              UpToReports { s with watch := { s.watch with storeFull := true } } r.1)))))

/-- Placing: the base is the pointer-set of the application, else the record's pointer, else nothing is placed; value k goes to register (base + k) modulo the wrap (R33). An existing cell takes the value and the origin of the direction and is marked changed when the value differs, a cell that can be created is new and changed, and a value without one is not placed (R34, R35); the registers created or changed are gathered for the report (R37). The victim is an evictable record of the greatest age, the lowest slot on ties, when any record is evictable (R30). -/
def Obligations.PlacingAndVictim : Prop :=
  (∀ (a : Application) (r : Record) (free : Nat),
    let start : Placing := { cells := r.cells, free, touched := [], unplaced := false, poolEmpty := false }
    let places := fun b : Byte => a.placing r free =
      Placing.placeAll (if a.direction = .write then .written else .read) b.toNat a.wrap 0 start a.values
    (∀ b, a.pointerSet = some b → places b) ∧ (∀ b, a.pointerSet = none → r.pointer = some b → places b) ∧
    (a.pointerSet = none → r.pointer = none → a.placing r free = start)) ∧
  (∀ (o : CellOrigin) (p : Placing) (reg v : Byte),
    let q := p.place o reg v
    (∀ k, k ≠ reg → cellAt k q.cells = cellAt k p.cells) ∧
    (∀ c, cellAt reg p.cells = some c → q.free = p.free ∧ q.cells.length = p.cells.length ∧
      q.touched = (if c.value = some v then p.touched else p.touched ++ [reg]) ∧
      q.unplaced = p.unplaced ∧ q.poolEmpty = p.poolEmpty ∧
      cellAt reg q.cells = some { c with value := some v, origin := o, changed := c.changed || decide (c.value ≠ some v) }) ∧
    (cellAt reg p.cells = none → p.cells.length < 32 → 0 < p.free → q.free = p.free - 1 ∧
      q.cells.length = p.cells.length + 1 ∧ q.touched = p.touched ++ [reg] ∧
      q.unplaced = p.unplaced ∧ q.poolEmpty = p.poolEmpty ∧
      cellAt reg q.cells = some { register := reg, value := some v, origin := o, changed := true, expected := none }) ∧
    (cellAt reg p.cells = none → 32 ≤ p.cells.length ∨ p.free = 0 →
      q = { p with unplaced := true, poolEmpty := p.poolEmpty || decide (p.cells.length < 32) })) ∧
  (∀ (o : CellOrigin) (base wrap k : Nat) (p : Placing) (v : Byte) (vs : List Byte),
    Placing.placeAll o base wrap k p [] = p ∧
    Placing.placeAll o base wrap k p (v :: vs) =
      Placing.placeAll o base wrap (k + 1) (p.place o (byte ((base + k) % wrap)) v) vs) ∧
  ∀ (st : Store) (now : Word),
    let evictable := fun (i : Fin 64) (r : Record) =>
      st.slots[i].record = some r ∧ r.declared = false ∧ r.pinned = false ∧ r.references = 0
    (st.victim now = none ↔ ∀ i r, ¬ evictable i r) ∧
    ∀ i, st.victim now = some i → ∃ r, evictable i r ∧ ∀ j x, evictable j x →
      now - x.lastSeen < now - r.lastSeen ∨ (now - x.lastSeen = now - r.lastSeen ∧ i ≤ j)

/-- TGT_FIND: BAD_PARAM for a decoder above 5; the handle of the record that has the key; NOT_FOUND without one. It changes no state. TGT_LIST: BAD_PARAM for values out of range; else up to max entries of the LIVE slots at or above the start slot that match the filter, in slot order, and the next slot, the lowest matching one after those listed or 64. It changes no state. The requests that name a handle refuse a slot above 63 and a value out of range with BAD_PARAM, and after that a handle that is not current with STALE_HANDLE (R24). -/
def Obligations.TgtNames : Prop :=
  (∀ (decoder address : Byte) (s : State), StoreOk s →
     (6 ≤ decoder.toNat → Makes (.tgtFind decoder address) s (s.refuse .badParam)) ∧
     (decoder.toNat < 6 →
       (∀ (i : Fin 64) (r : Record), s.store.slots[i].record = some r → r.decoder.val = decoder.toNat → r.address = address →
         Makes (.tgtFind decoder address) s (s.answered .ok [s.store.slots[i].gen, byte i])) ∧
       ((∀ (i : Fin 64) (r : Record), s.store.slots[i].record = some r → r.decoder.val = decoder.toNat → r.address ≠ address) →
         Makes (.tgtFind decoder address) s (s.refuse .notFound)))) ∧
  (∀ (start filter max : Byte) (s : State),
     (64 < start.toNat ∨ (6 ≤ filter.toNat ∧ filter ≠ 0xFF) ∨ max.toNat < 1 ∨ 16 < max.toNat →
       Makes (.tgtList start filter max) s (s.refuse .badParam)) ∧
     (start.toNat ≤ 64 → filter.toNat < 6 ∨ filter = 0xFF → 1 ≤ max.toNat → max.toNat ≤ 16 →
       let found := (List.finRange 64).filter fun i => decide (start.toNat ≤ i.val) &&
         (s.store.slots[i].record).any fun r => filter == 0xFF || byte r.decoder == filter
       let entry := fun i : Fin 64 => match s.store.slots[i].record with
         | some r => [s.store.slots[i].gen, byte i, byte r.decoder, r.address, boolByte r.declared]
         | none => []
       let next := if found.length ≤ max.toNat then 64 else ((found.drop max.toNat).head?.map Fin.val).getD 64
       Makes (.tgtList start filter max) s (s.answered .ok
         ([byte next, byte (min max.toNat found.length)] ++ (found.take max.toNat).flatMap entry)))) ∧
  ∀ (h : Handle) (first max clear reg value mask op on : Byte) (s : State),
    let requests : List (Instr × Prop) :=
      [(.tgtRead h first max clear, (1 ≤ max.toNat ∧ max.toNat ≤ 32 ∧ clear.toNat ≤ 1)), (.tgtSetCell h reg value, True),
       (.tgtExpect h reg op value mask, op.toNat ≤ 1), (.tgtDropCell h reg, True), (.tgtPin h on, on.toNat ≤ 1),
       (.tgtRetire h on, on.toNat ≤ 1)]
    ∀ c ∈ requests,
      (64 ≤ h.slot.toNat ∨ ¬ c.2 → Makes c.1 s (s.refuse .badParam)) ∧
      (h.slot.toNat < 64 → c.2 →
        (∀ (i : Fin 64) (r : Record), h.slot = byte i → s.store.slots[i].record = some r → s.store.slots[i].gen ≠ h.gen) →
        Makes c.1 s (s.refuse .staleHandle))

/-- TGT_READ of a current handle: the record's header and up to max cells from the first register on, in the layout of R214; with clear, the changed marks of the returned cells and the record's withheld and truncated marks are cleared, and without it nothing changes. -/
def Obligations.TgtRead : Prop :=
  ∀ (h : Handle) (first max clear : Byte) (s : State) (i : Fin 64) (r : Record),
    h.slot = byte i → s.store.slots[i].record = some r → s.store.slots[i].gen = h.gen →
    1 ≤ max.toNat → max.toNat ≤ 32 → clear = 0 ∨ clear = 1 →
    let shown := (r.cells.filter fun c => decide (first.toNat ≤ c.register.toNat)).take max.toNat
    let header := [h.gen, h.slot, byte r.decoder, r.address,
        boolByte r.declared + 2 * boolByte r.pinned + 4 * boolByte r.pointer.isSome + 8 * boolByte r.withheldMark
          + 16 * boolByte r.truncated, r.pointer.getD 0]
      ++ be16 r.access ++ be16 r.unanswered ++ be16 r.errors ++ be32 r.lastSeen ++ be16 r.withheldCount
      ++ [byte r.references, byte r.cells.length, byte shown.length]
    let entry := fun c : TargetCell => [c.register, c.value.getD 0,
      boolByte c.value.isSome + 2 * c.origin.code + 8 * boolByte c.changed + 16 * boolByte c.expected.isSome,
      (c.expected.map (·.value)).getD 0, (c.expected.map (·.mask)).getD 0]
    let read := s.answered .ok (header ++ shown.flatMap entry)
    let cleared : Record := { r with
      cells := r.cells.map fun c => if shown.any (fun x => x.register == c.register) then { c with changed := false } else c
      withheldMark := false, truncated := false }
    (clear = 0 → Makes (.tgtRead h first max clear) s read) ∧
    (clear = 1 → MakesSome (.tgtRead h first max clear) s fun u =>
      UpToReports { read with store := s.store.setRecord i cleared } u)

/-- TGT_DECLARE: BAD_PARAM for a decoder above 5 or a pinned byte that is no yes or no; EXISTS with the handle of the record that has the key; STORE_FULL without a free slot; else a DECLARED record in the lowest free slot, its handle in the answer. TGT_PIN sets or clears the pinned flag of a current record. Nothing else changes. -/
def Obligations.TgtDeclarePin : Prop :=
  (∀ (decoder address pinned : Byte) (s : State), StoreOk s →
    (6 ≤ decoder.toNat ∨ 1 < pinned.toNat → Makes (.tgtDeclare decoder address pinned) s (s.refuse .badParam)) ∧
    (∀ d : Fin 6, decoder.toNat = d → pinned.toNat ≤ 1 →
      (∀ (i : Fin 64) (r : Record), s.store.slots[i].record = some r → r.decoder = d → r.address = address →
        Makes (.tgtDeclare decoder address pinned) s (s.answered .exists [s.store.slots[i].gen, byte i])) ∧
      ((∀ (i : Fin 64) (r : Record), s.store.slots[i].record = some r → r.decoder = d → r.address ≠ address) →
        ((∀ i : Fin 64, s.store.slots[i].record ≠ none) →
          Makes (.tgtDeclare decoder address pinned) s (s.refuse .storeFull)) ∧
        ∀ i : Fin 64, s.store.slots[i].record = none → (∀ j : Fin 64, j < i → s.store.slots[j].record ≠ none) →
          let fresh : Record :=
            { decoder := d, address, declared := true, pinned := pinned == 1, pointer := none, cells := [], access := 0
              unanswered := 0, errors := 0, lastSeen := s.clock.ms, withheldMark := false, withheldCount := 0
              truncated := false, references := 0 }
          Makes (.tgtDeclare decoder address pinned) s
            (State.answered .ok [s.store.slots[i].gen, byte i] { s with store := s.store.setRecord i fresh })))) ∧
  ∀ (h : Handle) (on : Byte) (s : State) (i : Fin 64) (r : Record),
    h.slot = byte i → s.store.slots[i].record = some r → s.store.slots[i].gen = h.gen → on = 0 ∨ on = 1 →
    Makes (.tgtPin h on) s (State.ok { s with store := s.store.setRecord i { r with pinned := on == 1 } })

/-- The requests on one cell of a current record (R45, R46, R47): each leaves every other cell of the record as it was; the pool gives a created cell and takes a removed one; what cannot be created is refused with CELLS_FULL, what is not there with NOTHING. Everything else is as before, but for reports. -/
def Obligations.TgtCells : Prop :=
  ∀ (h : Handle) (reg value mask : Byte) (s : State) (i : Fin 64) (r : Record), StoreOk s →
    h.slot = byte i → s.store.slots[i].record = some r → s.store.slots[i].gen = h.gen →
    let completes := fun (c : Instr) (cell : Option TargetCell) (free : Nat) => MakesSome c s fun u => ∃ cells : List TargetCell, Record.CellsOk { r with cells } ∧
      (∀ k, cellAt k cells = if k = reg then cell else cellAt k r.cells) ∧
      UpToReports (State.ok { s with store := { s.store.setRecord i { r with cells } with free } }) u
    let room := r.cells.length < 32 ∧ 0 < s.store.free
    let expected : Expected := { value, mask }
    let old := cellAt reg r.cells
    (∀ c, old = some c →
      completes (.tgtSetCell h reg value) (some { c with value := some value, origin := .host }) s.store.free ∧
      completes (.tgtExpect h reg 1 value mask) (some { c with expected := some expected }) s.store.free ∧
      completes (.tgtDropCell h reg) none (s.store.free + 1) ∧
      (c.expected = none → Makes (.tgtExpect h reg 0 value mask) s (s.refuse .nothing)) ∧
      (c.expected.isSome = true → c.value.isSome = true →
        completes (.tgtExpect h reg 0 value mask) (some { c with expected := none }) s.store.free) ∧
      (c.expected.isSome = true → c.value = none → completes (.tgtExpect h reg 0 value mask) none (s.store.free + 1))) ∧
    (old = none →
      (room →
        completes (.tgtSetCell h reg value)
          (some { register := reg, value := some value, origin := .host, changed := false, expected := none })
          (s.store.free - 1) ∧
        completes (.tgtExpect h reg 1 value mask)
          (some { register := reg, value := none, origin := .host, changed := false, expected := some expected })
          (s.store.free - 1)) ∧
      (¬ room → Makes (.tgtSetCell h reg value) s (s.refuse .cellsFull) ∧
        Makes (.tgtExpect h reg 1 value mask) s (s.refuse .cellsFull)) ∧
      Makes (.tgtExpect h reg 0 value mask) s (s.refuse .nothing) ∧
      Makes (.tgtDropCell h reg) s (s.refuse .nothing))

/-- TGT_RETIRE of a current record: IN_USE when it has references and force is clear; else its cells return to the pool, the slot is FREE with the next generation, the active watches that name it are DORMANT with an absent sample, and the LIVE panes bound to it are ORPHANED with their highlight off and stale. Everything else is as before, but for the reports of the watches: a pane that is not LIVE keeps its marks too. -/
def Obligations.TgtRetire : Prop :=
  ∀ (h : Handle) (force : Byte) (s : State) (i : Fin 64) (r : Record),
    h.slot = byte i → s.store.slots[i].record = some r → s.store.slots[i].gen = h.gen → force = 0 ∨ force = 1 →
    let names := fun w : Watch => (∃ reg, w.subject = .targetCell h reg) ∨ ∃ f, w.subject = .targetField h f
    let bound := fun p : Pane => p.state = .live ∧ ∃ first count, p.subject = .target h first count
    (0 < r.references → force = 0 → Makes (.tgtRetire h force) s (s.refuse .inUse)) ∧
    (r.references = 0 ∨ force = 1 → MakesSome (.tgtRetire h force) s fun u => u.watch.Derived ∧
      (∀ j : Fin 32,
        (s.watch.watches[j].state.active = true → names s.watch.watches[j] → u.watch.watches[j] =
          { s.watch.watches[j] with state := .dormant, sample := { value := none, expected := none } }) ∧
        (s.watch.watches[j].state.active = false ∨ ¬ names s.watch.watches[j] → u.watch.watches[j] = s.watch.watches[j])) ∧
      (∀ j : Fin 16,
        (bound s.display.panes[j] → u.display.panes[j] =
          { s.display.panes[j] with state := .orphaned, highlight := false, stale := true }) ∧
        (¬ bound s.display.panes[j] → s.display.panes[j].SameSetting u.display.panes[j]) ∧
        (s.display.panes[j].state ≠ .live → u.display.panes[j] = s.display.panes[j])) ∧
      u.port = s.ok.port ∧ u.clock = s.clock ∧ u.pins = s.pins ∧ u.pods = s.pods ∧ u.channels = s.channels ∧
      u.decoders = s.decoders ∧ u.meters = s.meters ∧ u.panel = s.panel ∧ u.backlight = s.backlight ∧ u.pending = s.pending ∧
      u.display.grid = s.display.grid ∧ u.display.nextTick = s.display.nextTick ∧ u.display.interval = s.display.interval ∧
      u.watch.podFault = s.watch.podFault ∧ u.watch.podChange = s.watch.podChange ∧ u.watch.panelLost = s.watch.panelLost ∧
      u.watch.storeFull = s.watch.storeFull ∧ u.watch.cellsFull = s.watch.cellsFull ∧ u.watch.attention = s.watch.attention ∧
      u.watch.freezeLevel = s.watch.freezeLevel ∧ u.watch.hold = s.watch.hold ∧
      u.store = { slots := s.store.slots.set i { gen := s.store.slots[i].gen + 1, record := none }
                  free := s.store.free + r.cells.length })

/-! ### Meters -/

/-- The table of the configuration bytes (R103, R118, R217). MTR_CONFIG: BAD_PARAM above 7, then the refusals in the order of R118; else the configuration is replaced and the record cleared, the meter OFF. -/
def Obligations.MtrConfig : Prop :=
  (∀ (b : MeterBytes) (c : MeterConfig),
    let edge := fun (x : Byte) (e : EdgeSelect) => (x = 0 ∧ e = .rising) ∨ (x = 1 ∧ e = .falling) ∨ (x = 2 ∧ e = .either)
    meterConfig? b = some c ↔
      ((b.mode = 0 ∧ c.mode = .period) ∨ (b.mode = 1 ∧ c.mode = .high) ∨ (b.mode = 2 ∧ c.mode = .low) ∨
        (b.mode = 3 ∧ c.mode = .delay) ∨ (b.mode = 4 ∧ c.mode = .gate) ∨ (b.mode = 5 ∧ c.mode = .count)) ∧
      b.channelA = byte c.channelA ∧ b.channelB = byte c.channelB ∧ edge b.startEdge c.startEdge ∧ edge b.stopEdge c.stopEdge ∧
      ((b.startSource = 0 ∧ c.startSource = .channelA) ∨ (b.startSource = 1 ∧ c.startSource = .decoder)) ∧
      b.sourceDecoder = byte c.sourceDecoder ∧
      ((b.sourceAddress = 0xFFFF ∧ c.sourceAddress = none) ∨
        ∃ a : Byte, b.sourceAddress = a.setWidth 16 ∧ c.sourceAddress = some a) ∧
      b.gate = byte c.gate ∧ b.window.toNat = c.window ∧ 1 ≤ c.window ∧ c.window ≤ 1000000 ∧
      b.singleShot = boolByte c.singleShot) ∧
  ∀ (meter : Byte) (b : MeterBytes) (s : State),
    (8 ≤ meter.toNat → Makes (.mtrConfig meter b) s (s.refuse .badParam)) ∧
    ∀ m : Fin 8, meter.toNat = m →
      (s.meters[m].state ≠ .off → Makes (.mtrConfig meter b) s (s.refuse .meterRunning)) ∧
      (s.meters[m].state = .off → meterConfig? b = none → Makes (.mtrConfig meter b) s (s.refuse .badParam)) ∧
      (s.meters[m].state = .off → ∀ c, meterConfig? b = some c →
        let gates := ∃ f : Fin 8, s.meters[f].config.mode = .count ∧ s.meters[f].config.gate = m ∧ s.meters[f].state ≠ .off
        (c.mode = .count → m ≤ c.gate → Makes (.mtrConfig meter b) s (s.refuse .badGate)) ∧
        (c.mode ≠ .count ∨ c.gate < m → c.mode ≠ .gate → gates →
          Makes (.mtrConfig meter b) s (s.refuse .gateInUse)) ∧
        (c.mode ≠ .count ∨ c.gate < m → c.mode = .gate ∨ ¬ gates →
          let set : Meter :=
            { config := c, state := .off
              record := { status := .none, last := 0, min := 0, max := 0, count := 0, disturbed := 0, withheld := 0 } }
          MakesSome (.mtrConfig meter b) s fun u =>
            UpToReports (State.ok { s with meters := s.meters.set m set }) u))

/-- MTR_START: BAD_PARAM above 7; a running meter stays as it is; a COUNT meter whose gate's mode is not GATE is refused with BAD_GATE; a GATE meter opens its window at this sample and its ARMED followers with a LIVE pod begin to count, the others holding no edge; any other meter is ARMED. MTR_STOP drops the measurement with no result and stops the meter, and the COUNTING followers of a gate are disturbed and ARMED; MTR_CLEAR clears the record alone; MTR_READ answers the configuration, the state and the record and changes nothing else. Each is refused with BAD_PARAM above 7. -/
def Obligations.MtrRequests : Prop :=
  (∀ (meter : Byte) (s : State),
    (8 ≤ meter.toNat → Makes (.mtrStart meter) s (s.refuse .badParam)) ∧
    ∀ m : Fin 8, meter.toNat = m →
      let mt := s.meters[m]
      let opened := fun f : Fin 8 =>
        if f = m then { mt with state := .windowOpen s.clock.now }
        else if s.follows m f then match s.meters[f].state with
          | .armed held => { s.meters[f] with state := if s.countReady f then counting s.clock.now held else .armed none }
          | _ => s.meters[f]
        else s.meters[f]
      (mt.state ≠ .off → Makes (.mtrStart meter) s s.ok) ∧
      (mt.state = .off → mt.config.mode = .count → s.meters[mt.config.gate].config.mode ≠ .gate →
        Makes (.mtrStart meter) s (s.refuse .badGate)) ∧
      (mt.state = .off → mt.config.mode = .gate →
        Makes (.mtrStart meter) s (State.ok { s with meters := tab opened })) ∧
      (mt.state = .off → mt.config.mode ≠ .gate → mt.config.mode ≠ .count ∨ s.meters[mt.config.gate].config.mode = .gate →
        Makes (.mtrStart meter) s (State.ok { s with meters := s.meters.set m { mt with state := .armed none } }))) ∧
  ∀ (meter : Byte) (s : State),
    (8 ≤ meter.toNat → Makes (.mtrStop meter) s (s.refuse .badParam) ∧
      Makes (.mtrClear meter) s (s.refuse .badParam) ∧ Makes (.mtrRead meter) s (s.refuse .badParam)) ∧
    ∀ m : Fin 8, meter.toNat = m →
      let mt := s.meters[m]
      let c := mt.config
      let cleared : MeterRecord := { status := .none, last := 0, min := 0, max := 0, count := 0, disturbed := 0, withheld := 0 }
      let stopped := fun f : Fin 8 =>
        if f = m then { mt with state := .off }
        else if mt.config.mode = .gate ∧ s.follows m f = true then match s.meters[f].state with
          | .counting _ _ _ => { s.meters[f] with
              state := .armed none
              record := { s.meters[f].record with disturbed := satInc s.meters[f].record.disturbed } }
          | _ => s.meters[f]
        else s.meters[f]
      (mt.state = .off → Makes (.mtrStop meter) s s.ok) ∧
      (mt.state ≠ .off → MakesSome (.mtrStop meter) s fun u =>
        UpToReports (State.ok { s with meters := tab stopped }) u) ∧
      (MakesSome (.mtrClear meter) s fun u =>
        UpToReports (State.ok { s with meters := s.meters.set m { mt with record := cleared } }) u) ∧
      Makes (.mtrRead meter) s (s.answered .ok
        ([c.mode.code, byte c.channelA, byte c.channelB, c.startEdge.code, c.stopEdge.code, c.startSource.code,
            byte c.sourceDecoder]
          ++ be16 (match c.sourceAddress with | none => 0xFFFF | some a => a.setWidth 16)
          ++ [byte c.gate] ++ be32 (BitVec.ofNat 32 c.window) ++ [boolByte c.singleShot, mt.state.code, mt.record.status.code]
          ++ be32 mt.record.last ++ be32 mt.record.min ++ be32 mt.record.max ++ be32 mt.record.count
          ++ be16 mt.record.disturbed ++ be16 mt.record.withheld))

/-- OVERRANGE ends a measurement in TIMING at 2^32 sample periods after its start. WINDOW_EXPIRY ends the window of an OPEN gate: the gate takes the window length as its result, each COUNTING follower its edge count, and the next window opens at the same stamp unless the gate is single-shot; a follower that no next window takes is ARMED with the edge it holds, which counts in a window that opens at that edge's stamp (R113). An event that cannot arise changes nothing (the model's choice, log entry 10). -/
def Obligations.MeterTimers : Prop :=
  ∀ (m : Fin 8) (order : List (Fin 8)) (s : State), NoticesOk s → order.Nodup →
    let mt := s.meters[m]
    (∀ start, mt.state = .timing start → MakesSome (.overrange m) s fun u =>
      UpToReports { s.advance (start + 4294967296) with
        meters := s.meters.set m (mt.ended (mt.record.afterOverrange s.watch.freeze) (.armed none)) } u) ∧
    ((∀ start, mt.state ≠ .timing start) → exec (.overrange m) s = .next s) ∧
    (∀ openAt, mt.state = .windowOpen openAt → mt.config.mode = .gate →
      let length := mt.config.window * 250
      let stamp := openAt + length
      let reopens := mt.config.singleShot = false
      MakesSome (.windowExpiry m order) s fun u =>
        u.meters[m] = mt.ended (mt.record.afterValue s.watch.freeze (BitVec.ofNat 32 length)) (.windowOpen stamp) ∧
        (∀ f : Fin 8, f ≠ m →
          (s.follows m f = true →
            (∀ at' edges held, s.meters[f].state = .counting at' edges held → ∃ frozen, FreezeWithin s u frozen ∧
              u.meters[f] = s.meters[f].ended (s.meters[f].record.afterValue frozen (BitVec.ofNat 32 edges))
                (if mt.config.singleShot then .armed held else counting stamp held)) ∧
            (∀ held, s.meters[f].state = .armed held →
              (reopens → u.meters[f] = { s.meters[f] with
                state := if s.countReady f then counting stamp held else .armed none }) ∧
              (¬ reopens → u.meters[f] = s.meters[f])) ∧
            ((∀ held, s.meters[f].state ≠ .armed held) → (∀ at' edges held, s.meters[f].state ≠ .counting at' edges held) →
              u.meters[f] = s.meters[f])) ∧
          (s.follows m f = false → u.meters[f] = s.meters[f])) ∧
        UpToReports { s.advance stamp with meters := u.meters } u) ∧
    ((∀ openAt, mt.state ≠ .windowOpen openAt) → exec (.windowExpiry m order) s = .next s)

/-! ### Reports, watches, notices and the freeze -/

/-- What the reports are (R14, R37, R38, R43, R45 to R47, R66, R106, R134, R166). A change of a pod's state, code or fault mark evaluates the watches of that pod and marks its LIVE panes stale. A change of a decoder's aborted or unknown count evaluates the watches of either count, and a change of its state, applied, aborted or unknown count marks its panes; a change of a meter record other than of its withheld field evaluates every watch of the meter and marks its panes: R66 and R106 speak of the watches of the changed fields, and R130 has every such report evaluate them all (log entry 28). The store reports a record to the watches of the named cells and fields and to its panes: after an application, the registers it created or changed and the access count unless it stood at 65,535; after an error report, the count that rose (log entry 20); after TGT_SETCELL that changes or creates a value, after TGT_EXPECT and after TGT_DROPCELL, the register. A withheld mark that is set by an application or cleared by TGT_READ is told to the panes alone. Where a watch's subject has changed by the end of a command, other than a request that sets or acknowledges a watch or a reset, an IDLE watch on it with condition CHANGE is TRIPPED. -/
def Obligations.EventReports : Prop :=
  (∀ (covers : PaneSubject → Bool) (s : State) (i : Fin 16),
    let p := s.display.panes[i]
    (s.markPanes covers).display.panes[i] = if p.state = .live ∧ covers p.subject = true then { p with stale := true } else p) ∧
  (∀ (p : Fin 4) (new : Pod) (s : State),
    let set : State := { s with pods := s.pods.set p new }
    let old := s.pods[p]
    let same := old.state = new.state ∧ old.code = new.code ∧ old.faultMark = new.faultMark
    (same → s.putPod p new = set) ∧
    (¬ same →
      let told := (set.evaluate fun sub => decide (sub = .pod p)).markPanes fun sub => decide (sub = .pod p)
      s.putPod p new = State.derive { told with watch := { told.watch with
        podFault := maskOf fun q => if q = p then new.faultMark else told.watch.podFault.getLsbD q } })) ∧
  (∀ (d : Fin 6) (new : Decoder) (s : State),
    let set : State := { s with decoders := s.decoders.set d new }
    let old := s.decoders[d]
    let counts := old.aborted = new.aborted ∧ old.unknown = new.unknown
    let told := if counts then set else set.evaluate fun sub => decide (sub = .decoder d .aborted ∨ sub = .decoder d .unknown)
    s.putDecoder d new =
      if counts ∧ old.state = new.state ∧ old.applied = new.applied then told
      else told.markPanes fun sub => decide (sub = .decoder d)) ∧
  (∀ (m : Fin 8) (new : Meter) (s : State),
    let set : State := { s with meters := s.meters.set m new }
    let old := s.meters[m].record
    let same := old = { new.record with withheld := old.withheld }
    (same → s.putMeter m new = set) ∧
    (¬ same → s.putMeter m new =
      (set.evaluate fun sub => match sub with | .meter k _ => k == m | _ => false).markPanes
        fun sub => match sub with | .meter k _ => k == m | _ => false)) ∧
  (∀ s : State,
    let shows := fun (h : Handle) (sub : PaneSubject) => match sub with | .target k _ _ => k == h | _ => false
    let reported := fun (h : Handle) (regs : List Byte) (fields : List TargetField) (x : State) =>
      (x.evaluate fun sub => match sub with
        | .targetCell k reg => k == h && decide (reg ∈ regs)
        | .targetField k f => k == h && decide (f ∈ fields)
        | _ => false).markPanes (shows h)
    let held := fun (d : Fin 6) (address : Byte) (i : Fin 64) (x : Record) =>
      s.store.slots[i].record = some x ∧ x.decoder = d ∧ x.address = address
    (∀ a : Application, StoreOk s →
      let r := s.apply a
      let fresh : Record :=
        { decoder := a.decoder, address := a.address, declared := false, pinned := false, pointer := none, cells := []
          access := 0, unanswered := 0, errors := 0, lastSeen := s.clock.ms, withheldMark := false, withheldCount := 0
          truncated := false, references := 0 }
      let reports := fun (i : Fin 64) (x : Record) (free : Nat) => ∃ before : State,
        UpToReports { s with store := r.1.store, watch := { s.watch with cellsFull := r.1.watch.cellsFull } } before ∧
        before.watch.watches = s.watch.watches ∧
        r.1 = reported { gen := r.1.store.slots[i].gen, slot := byte i } (a.placing x free).touched
          (if x.access = 0xFFFF then [] else [.access]) before
      (s.watch.freeze = false →
        (∀ i x, held a.decoder a.address i x → reports i x s.store.free) ∧
        ((∀ i x, ¬ held a.decoder a.address i x) → a.learn = .auto →
          (∀ i : Fin 64, s.store.slots[i].record = none → (∀ j : Fin 64, j < i → s.store.slots[j].record ≠ none) →
            reports i fresh s.store.free) ∧
          ((∀ i : Fin 64, s.store.slots[i].record ≠ none) → ∀ i y, s.store.victim s.clock.ms = some i →
            s.store.slots[i].record = some y → reports i fresh (s.store.free + y.cells.length)))) ∧
      (s.watch.freeze = true → ∀ i x, held a.decoder a.address i x →
        (x.withheldMark = true → r.1 = { s with store := r.1.store }) ∧
        (x.withheldMark = false → r.1 = State.markPanes (shows { gen := s.store.slots[i].gen, slot := byte i })
          { s with store := r.1.store }))) ∧
    (∀ (d : Fin 6) (address : Byte) (reason : AbortReason), StoreOk s →
      let u := s.errorReport d address reason
      let full := fun x : Record => if reason = .unanswered then x.unanswered = 0xFFFF else x.errors = 0xFFFF
      (s.watch.freeze = true ∨ (∀ i x, ¬ held d address i x) → u = s) ∧
      (s.watch.freeze = false → ∀ i x, held d address i x →
        u.store = s.store.afterError false d (some address) (reason == .unanswered) ∧
        (full x → u = { s with store := u.store }) ∧
        (¬ full x → u = reported { gen := s.store.slots[i].gen, slot := byte i } []
          [if reason = .unanswered then .unanswered else .error] { s with store := u.store }))) ∧
    ∀ (h : Handle) (reg value op mask first max : Byte) (i : Fin 64) (x : Record),
      h.slot = byte i → s.store.slots[i].record = some x → s.store.slots[i].gen = h.gen →
      let same := ∃ k, cellAt reg x.cells = some k ∧ k.value = some value
      let tells := fun u : State => u.port.answer = some { status := .ok, payload := [] } →
        u = (reported h [reg] [] { s with store := u.store }).ok
      (MakesSome (.tgtSetCell h reg value) s fun u => (same → u = State.ok { s with store := u.store }) ∧
        (¬ same → tells u)) ∧
      MakesSome (.tgtExpect h reg op value mask) s tells ∧
      MakesSome (.tgtDropCell h reg) s tells ∧
      (1 ≤ max.toNat → max.toNat ≤ 32 → MakesSome (.tgtRead h first max 1) s fun u => ∃ payload,
        (x.withheldMark = true → u = State.answered .ok payload (State.markPanes (shows h) { s with store := u.store })) ∧
        (x.withheldMark = false → u = State.answered .ok payload { s with store := u.store }))) ∧
  ∀ (c : Instr) (s : State), AllOk s → c.wf = true → MakesSome c s fun t => ∀ i : Fin 32,
    let w := s.watch.watches[i]
    let now := t.subjectSample w.subject
    (∀ watch sub cond level actions, c ≠ .wchSet watch sub cond level actions) → (∀ watch, c ≠ .wchClear watch) →
    (∀ watch, c ≠ .ntcAckWatch watch) → c ≠ .devRestart → (∀ sense, c ≠ .fullReset sense) →
    w.state = .idle → w.condition = .change → now.value ≠ none → now.value ≠ w.sample.value →
    t.watch.watches[i].state = .tripped

/-- What each subject reads (R126) and when each level condition holds (R127, R128). A report evaluates the active watches whose subject it covers, and no other (R130). A level condition trips an IDLE watch when it holds, counting a hit and stamping it, and takes a HELD watch back to IDLE when it does not (R131); a CHANGE trips an IDLE watch and counts a hit on a TRIPPED one (R132); the sample is replaced (R129). The notices and the freeze are then derived (R134). By the end of every command that changed the state or the hit count of a watch, or orphaned a pane, the highlight of every LIVE pane is that of the watch table as it then stands (R167, whose table RefreshTick states), a pane whose highlight changed is stale, and so is a LIVE WATCH pane of a watch that changed (R134). -/
def Obligations.ReportEvaluates : Prop :=
  (∀ s : State,
    let present := fun n : Nat => ({ value := some (BitVec.ofNat 32 n), expected := none } : Sample)
    let absent : Sample := { value := none, expected := none }
    s.subjectSample .none = absent ∧
    (∀ (h : Handle) (reg : Byte) (f : TargetField),
      (s.store.reach h = none → s.subjectSample (.targetCell h reg) = absent ∧ s.subjectSample (.targetField h f) = absent) ∧
      ∀ (i : Fin 64) (r : Record), h.slot = byte i → s.store.slots[i].record = some r → s.store.slots[i].gen = h.gen →
        (cellAt reg r.cells = none → s.subjectSample (.targetCell h reg) = absent) ∧
        (∀ c, cellAt reg r.cells = some c → s.subjectSample (.targetCell h reg) =
          { value := c.value.map fun v => BitVec.ofNat 32 v.toNat, expected := c.expected }) ∧
        s.subjectSample (.targetField h .access) = present r.access.toNat ∧
        s.subjectSample (.targetField h .error) = present r.errors.toNat ∧
        s.subjectSample (.targetField h .unanswered) = present r.unanswered.toNat) ∧
    (∀ m : Fin 8,
      let r := s.meters[m].record
      s.subjectSample (.meter m .last) = (if r.count = 0 then absent else present r.last.toNat) ∧
      s.subjectSample (.meter m .min) = (if r.count = 0 then absent else present r.min.toNat) ∧
      s.subjectSample (.meter m .max) = (if r.count = 0 then absent else present r.max.toNat) ∧
      s.subjectSample (.meter m .count) = present r.count.toNat ∧
      s.subjectSample (.meter m .disturbed) = present r.disturbed.toNat) ∧
    (∀ p : Fin 4, s.subjectSample (.pod p) = present s.pods[p].state.number.toNat) ∧
    ∀ d : Fin 6, s.subjectSample (.decoder d .aborted) = present s.decoders[d].aborted.toNat ∧
      s.subjectSample (.decoder d .unknown) = present s.decoders[d].unknown.toNat) ∧
  (∀ smp : Sample,
    (∀ c : Condition, smp.value = none → c.holds smp = false) ∧
    ∀ v : Word, smp.value = some v →
      Condition.none.holds smp = false ∧ Condition.change.holds smp = false ∧
      (∀ x m : Word, (Condition.equal x m).holds smp = true ↔ v &&& m = x &&& m) ∧
      (∀ x m : Word, (Condition.differ x m).holds smp = true ↔ v &&& m ≠ x &&& m) ∧
      (∀ x : Word, (Condition.above x).holds smp = true ↔ x < v) ∧
      (∀ x : Word, (Condition.below x).holds smp = true ↔ v < x) ∧
      (∀ lo hi : Word, (Condition.outside lo hi).holds smp = true ↔ v < lo ∨ hi < v) ∧
      (Condition.mismatch.holds smp = true ↔
        ∃ e, smp.expected = some e ∧ (v ^^^ e.value.setWidth 32) &&& e.mask.setWidth 32 ≠ 0)) ∧
  (∀ (covers : Subject → Bool) (s : State),
    let u := s.evaluate covers
    u.watch.Derived ∧ ∀ i : Fin 32,
      let w := s.watch.watches[i]
      let now := s.subjectSample w.subject
      let changes := now.value.isSome = true ∧ now.value ≠ w.sample.value
      let tripped : Watch := { w with
        state := .tripped, hits := satInc w.hits, lastTrip := some s.clock.ms, sample := now }
      (w.state.active = false ∨ covers w.subject = false → u.watch.watches[i] = w) ∧
      (covers w.subject = true → w.condition ≠ .change →
        (w.state = .idle → w.condition.holds now = true → u.watch.watches[i] = tripped) ∧
        (w.state = .held → w.condition.holds now = false → u.watch.watches[i] = { w with state := .idle, sample := now }) ∧
        (w.state = .tripped ∨ (w.state = .idle ∧ w.condition.holds now = false) ∨
          (w.state = .held ∧ w.condition.holds now = true) → u.watch.watches[i] = { w with sample := now })) ∧
      (covers w.subject = true → w.condition = .change →
        (w.state = .idle → changes → u.watch.watches[i] = tripped) ∧
        (w.state = .tripped → changes → u.watch.watches[i] = { w with hits := satInc w.hits, sample := now }) ∧
        (w.state = .held ∨ (w.state.active = true ∧ ¬ changes) → u.watch.watches[i] = { w with sample := now }))) ∧
  ∀ (c : Instr) (s : State), MakesSome c s fun t =>
    let reported := fun i : Fin 32 =>
      t.watch.watches[i].state ≠ s.watch.watches[i].state ∨ t.watch.watches[i].hits ≠ s.watch.watches[i].hits
    (∃ i, reported i) ∨ (∃ j : Fin 16, s.display.panes[j].state = .live ∧ t.display.panes[j].state = .orphaned) →
    ∀ j : Fin 16,
      let p := t.display.panes[j]
      p.state = .live →
        p.highlight = t.watch.highlighted p.subject ∧
        (p.highlight ≠ s.display.panes[j].highlight → p.stale = true) ∧
        ∀ i, p.subject = .watch i → reported i → p.stale = true

/-- The current notice is the first pending device notice in the fixed order, else the TRIPPED watch of level 1 to 14 with the lowest level, lowest index on ties; ATTN is asserted exactly when its level is below the attention level; the freeze is in effect exactly when the hold, a fault mark or a TRIPPED watch with FREEZE below the freeze level is present. -/
def Obligations.CurrentNotice : Prop :=
  ∀ u : WatchUnit,
    let quiet := u.podFault = 0 ∧ u.podChange = 0 ∧ u.panelLost = false ∧ u.storeFull = false ∧ u.cellsFull = false
    let notice := fun i : Fin 32 =>
      u.watches[i].state = .tripped ∧ 1 ≤ u.watches[i].level.toNat ∧ u.watches[i].level.toNat ≤ 14
    (u.podFault ≠ 0 → u.currentOf = .podFault) ∧
    (u.podFault = 0 → u.podChange ≠ 0 → u.currentOf = .podChange) ∧
    (u.podFault = 0 → u.podChange = 0 → u.panelLost = true → u.currentOf = .panelLost) ∧
    (u.podFault = 0 → u.podChange = 0 → u.panelLost = false → u.storeFull = true → u.currentOf = .storeFull) ∧
    (u.podFault = 0 → u.podChange = 0 → u.panelLost = false → u.storeFull = false → u.cellsFull = true →
      u.currentOf = .cellsFull) ∧
    (quiet → ∀ i : Fin 32, u.currentOf = .watch i ↔ notice i ∧ ∀ j, notice j →
      u.watches[i].level < u.watches[j].level ∨ (u.watches[i].level = u.watches[j].level ∧ i ≤ j)) ∧
    (u.currentOf = .none ↔ quiet ∧ ∀ i, ¬ notice i) ∧
    (u.attnOf = true ↔ (¬ quiet ∧ 0 < u.attention.toNat) ∨ ∃ i : Fin 32, u.currentOf = .watch i ∧ u.watches[i].level < u.attention) ∧
    (∀ i : Fin 32, u.causeOf.getLsbD i = true ↔
      u.watches[i].state = .tripped ∧ u.watches[i].freezes = true ∧ u.watches[i].level < u.freezeLevel) ∧
    (u.freezeOf = true ↔ u.hold = true ∨ u.podFault ≠ 0 ∨ ∃ i : Fin 32,
      u.watches[i].state = .tripped ∧ u.watches[i].freezes = true ∧ u.watches[i].level < u.freezeLevel)

/-- The tables of the subject and condition bytes (R127, R217). WCH_SET: BAD_PARAM for a watch above 31 or a setting out of range, STALE_HANDLE for a target handle that is not current; else the new reference is bound and the old one unbound, and the watch takes the setting with its count at 0, its sample read at once, and IDLE or HELD by its condition. WCH_CLEAR unbinds and takes the watch to its reset values; WCH_READ answers the watch in the layout of R217, with the subject in four bytes and the condition in nine, a field they do not use as 0 (the model's choice, log entry 11), and changes nothing else. -/
def Obligations.WatchRequests : Prop :=
  (∀ (b : SubjectBytes) (sub : Subject), subject? b = some sub ↔
    let names := fun h : Handle => h.slot.toNat < 64 ∧ b.number = h.gen ++ h.slot
    (∃ h, b.kind = 1 ∧ names h ∧ sub = .targetCell h b.field) ∨
    (∃ h f, b.kind = 2 ∧ names h ∧ sub = .targetField h f ∧
      ((b.field = 0 ∧ f = .access) ∨ (b.field = 1 ∧ f = .error) ∨ (b.field = 2 ∧ f = .unanswered))) ∨
    (∃ m f, b.kind = 3 ∧ b.number.toNat = m.val ∧ sub = .meter m f ∧
      ((b.field = 0 ∧ f = .last) ∨ (b.field = 1 ∧ f = .min) ∨ (b.field = 2 ∧ f = .max) ∨ (b.field = 3 ∧ f = .count) ∨
        (b.field = 4 ∧ f = .disturbed))) ∨
    (∃ p, b.kind = 4 ∧ b.number.toNat = p.val ∧ sub = .pod p) ∨
    (∃ d f, b.kind = 5 ∧ b.number.toNat = d.val ∧ sub = .decoder d f ∧
      ((b.field = 0 ∧ f = .aborted) ∨ (b.field = 1 ∧ f = .unknown)))) ∧
  (∀ (b : ConditionBytes) (c : Condition), condition? b = some c ↔
    (b.code = 1 ∧ c = .equal b.first b.second) ∨ (b.code = 2 ∧ c = .differ b.first b.second) ∨
    (b.code = 3 ∧ c = .above b.first) ∨ (b.code = 4 ∧ c = .below b.first) ∨
    (b.code = 5 ∧ b.first ≤ b.second ∧ c = .outside b.first b.second) ∨ (b.code = 6 ∧ c = .mismatch) ∨
    (b.code = 7 ∧ c = .change)) ∧
  (∀ (h : Handle) (reg : Byte) (m : Fin 8) (p : Fin 4) (d : Fin 6) (v w : Word),
    Subject.none.bytes = [0, 0, 0, 0] ∧ (Subject.targetCell h reg).bytes = [1, h.gen, h.slot, reg] ∧
    [TargetField.access, .error, .unanswered].map (fun f => (Subject.targetField h f).bytes) =
      [[2, h.gen, h.slot, 0], [2, h.gen, h.slot, 1], [2, h.gen, h.slot, 2]] ∧
    [MeterField.last, .min, .max, .count, .disturbed].map (fun f => (Subject.meter m f).bytes) =
      [[3, 0, byte m, 0], [3, 0, byte m, 1], [3, 0, byte m, 2], [3, 0, byte m, 3], [3, 0, byte m, 4]] ∧
    (Subject.pod p).bytes = [4, 0, byte p, 0] ∧
    [DecoderField.aborted, .unknown].map (fun f => (Subject.decoder d f).bytes) = [[5, 0, byte d, 0], [5, 0, byte d, 1]] ∧
    Condition.none.bytes = 0 :: be32 0 ++ be32 0 ∧ (Condition.equal v w).bytes = 1 :: be32 v ++ be32 w ∧
    (Condition.differ v w).bytes = 2 :: be32 v ++ be32 w ∧ (Condition.above v).bytes = 3 :: be32 v ++ be32 0 ∧
    (Condition.below v).bytes = 4 :: be32 v ++ be32 0 ∧ (Condition.outside v w).bytes = 5 :: be32 v ++ be32 w ∧
    Condition.mismatch.bytes = 6 :: be32 0 ++ be32 0 ∧ Condition.change.bytes = 7 :: be32 0 ++ be32 0) ∧
  (∀ (sub : SubjectBytes) (cond : ConditionBytes) (level actions : Byte) (w : WatchSetting),
    watchSetting? sub cond level actions = some w ↔
      subject? sub = some w.subject ∧ condition? cond = some w.condition ∧
      (w.condition = .mismatch → ∃ h reg, w.subject = .targetCell h reg) ∧ 1 ≤ level.toNat ∧ level.toNat ≤ 15 ∧
      actions.toNat < 4 ∧ w.level = level ∧ w.freezes = actions.getLsbD 0 ∧ w.marks = actions.getLsbD 1) ∧
  ∀ (watch : Byte) (sub : SubjectBytes) (cond : ConditionBytes) (level actions : Byte) (s : State),
    let set := Instr.wchSet watch sub cond level actions
    (32 ≤ watch.toNat → Makes set s (s.refuse .badParam) ∧
      Makes (.wchClear watch) s (s.refuse .badParam) ∧ Makes (.wchRead watch) s (s.refuse .badParam)) ∧
    ∀ i : Fin 32, watch.toNat = i →
      let old := s.watch.watches[i]
      let becomes := fun (t : State) (w : Watch) =>
        State.ok { s with store := t.store, watch := { s.watch with watches := s.watch.watches.set i w } }
      let cleared : Watch :=
        { state := .off, subject := .none, condition := .none, level := 15, freezes := false, marks := false, hits := 0
          lastTrip := none, sample := { value := none, expected := none } }
      (watchSetting? sub cond level actions = none → Makes set s (s.refuse .badParam)) ∧
      (∀ w, watchSetting? sub cond level actions = some w →
        (∀ h, w.subject.handle? = some h → s.store.reach h = none → Makes set s (s.refuse .staleHandle)) ∧
        ((∀ h, w.subject.handle? = some h → s.store.reach h ≠ none) →
          let now := s.subjectSample w.subject
          let new : Watch :=
            { state := if w.condition ≠ .change ∧ w.condition.holds now = true then .held else .idle
              subject := w.subject, condition := w.condition, level := w.level, freezes := w.freezes, marks := w.marks
              hits := 0, lastTrip := none, sample := now }
          let e := becomes ((s.bind? w.subject.handle?).unbind? old.holds) new
          MakesSome set s fun u => UpToReports e u ∧ u.watch.watches = e.watch.watches ∧ u.watch.Derived)) ∧
      (old.state = .off → Makes (.wchClear watch) s s.ok) ∧
      (old.state ≠ .off →
        let e := becomes (s.unbind? old.holds) cleared
        MakesSome (.wchClear watch) s fun u => UpToReports e u ∧ u.watch.watches = e.watch.watches ∧ u.watch.Derived) ∧
      Makes (.wchRead watch) s (s.answered .ok
        ([old.state.code] ++ old.subject.bytes ++ old.condition.bytes
          ++ [old.level, boolByte old.freezes + 2 * boolByte old.marks] ++ be16 old.hits
          ++ [boolByte old.lastTrip.isSome + 2 * boolByte old.sample.value.isSome + 4 * boolByte old.sample.expected.isSome]
          ++ be32 (old.lastTrip.getD 0) ++ be32 (old.sample.value.getD 0)
          ++ [(old.sample.expected.map (·.value)).getD 0, (old.sample.expected.map (·.mask)).getD 0]))

/-- NTC_ACK: a kind out of range or a mask above four bits is refused with BAD_PARAM, and what is not pending with NOTHING; POD_FAULT clears the named fault marks that are set, POD_CHANGE the named bits, the other notices their flag; a TRIPPED watch goes to IDLE or HELD by its condition with its sample read afresh. The notices and the freeze are then derived. NTC_LEVELS stores both levels and HOLD the hold, each refusing a value out of range with BAD_PARAM; every watch stays as it is, and the notice, ATTN and the freeze are derived afresh. A HOLD of the value held changes nothing. NTC_READ answers the current notice, the masks and flags, the TRIPPED set, the levels, ATTN, the freeze, the hold and the watch cause in the layout of R218, and changes nothing else. -/
def Obligations.NoticeRequests : Prop :=
  (∀ (kind mask watch : Byte) (s : State), NoticesOk s →
     let ends := fun (c : Instr) (e : State) =>
       MakesSome c s fun u => UpToReports e.ok u ∧ u.watch.Derived
     (kind = 0 ∨ 7 ≤ kind.toNat → Makes (.ntcAckNotice kind mask) s (s.refuse .badParam)) ∧
     (kind = 1 ∨ kind = 2 → 16 ≤ mask.toNat → Makes (.ntcAckNotice kind mask) s (s.refuse .badParam)) ∧
     (mask.toNat < 16 → (∀ p : Fin 4, mask.getLsbD p = true → s.pods[p].faultMark = false) →
       Makes (.ntcAckNotice 1 mask) s (s.refuse .nothing)) ∧
     (mask.toNat < 16 → (∃ p : Fin 4, mask.getLsbD p = true ∧ s.pods[p].faultMark = true) →
       ends (.ntcAckNotice 1 mask) { s with
         pods := tab fun p => if mask.getLsbD p then { s.pods[p] with faultMark := false } else s.pods[p]
         watch := { s.watch with podFault := s.watch.podFault &&& ~~~ mask.setWidth 4 } }) ∧
     (mask.toNat < 16 → s.watch.podChange &&& mask.setWidth 4 = 0 →
       Makes (.ntcAckNotice 2 mask) s (s.refuse .nothing)) ∧
     (mask.toNat < 16 → s.watch.podChange &&& mask.setWidth 4 ≠ 0 →
       ends (.ntcAckNotice 2 mask) { s with watch := { s.watch with podChange := s.watch.podChange &&& ~~~ mask.setWidth 4 } }) ∧
     (s.watch.panelLost = false → Makes (.ntcAckNotice 3 mask) s (s.refuse .nothing)) ∧
     (s.watch.panelLost = true → ends (.ntcAckNotice 3 mask) { s with watch := { s.watch with panelLost := false } }) ∧
     (s.watch.storeFull = false → Makes (.ntcAckNotice 4 mask) s (s.refuse .nothing)) ∧
     (s.watch.storeFull = true → ends (.ntcAckNotice 4 mask) { s with watch := { s.watch with storeFull := false } }) ∧
     (s.watch.cellsFull = false → Makes (.ntcAckNotice 5 mask) s (s.refuse .nothing)) ∧
     (s.watch.cellsFull = true → ends (.ntcAckNotice 5 mask) { s with watch := { s.watch with cellsFull := false } }) ∧
     (32 ≤ watch.toNat → Makes (.ntcAckWatch watch) s (s.refuse .badParam)) ∧
     ∀ i : Fin 32, watch.toNat = i →
       let w := s.watch.watches[i]
       let now := s.subjectSample w.subject
       let acknowledged : Watch := { w with
         state := if w.condition ≠ .change ∧ w.condition.holds now = true then .held else .idle, sample := now }
       (w.state ≠ .tripped → Makes (.ntcAckWatch watch) s (s.refuse .nothing)) ∧
       (w.state = .tripped → MakesSome (.ntcAckWatch watch) s fun u => u.watch.Derived ∧
         u.watch.watches = s.watch.watches.set i acknowledged ∧
         UpToReports (State.ok { s with watch := { s.watch with watches := s.watch.watches.set i acknowledged } }) u)) ∧
  (∀ (attention freeze on : Byte) (s : State),
    let ends := fun (c : Instr) (w : WatchUnit) =>
      MakesSome c s fun u => UpToReports (State.ok { s with watch := w }) u ∧ u.watch.watches = s.watch.watches ∧
        u.watch.Derived
    (16 < attention.toNat ∨ 15 < freeze.toNat → Makes (.ntcLevels attention freeze) s (s.refuse .badParam)) ∧
    (attention.toNat ≤ 16 → freeze.toNat ≤ 15 →
      ends (.ntcLevels attention freeze) { s.watch with attention, freezeLevel := freeze }) ∧
    (1 < on.toNat → Makes (.hold on) s (s.refuse .badParam)) ∧
    (∀ b : Bool, on = boolByte b → s.watch.hold = b → Makes (.hold on) s s.ok) ∧
    (∀ b : Bool, on = boolByte b → s.watch.hold = !b → ends (.hold on) { s.watch with hold := b })) ∧
  ∀ s : State, ∃ (notice : List Byte) (tripped : Word),
    (s.watch.current = .none → notice = [0, 0, 0]) ∧
    (s.watch.current = .podFault → notice = [1, s.watch.podFault.setWidth 8, 0]) ∧
    (s.watch.current = .podChange → notice = [2, s.watch.podChange.setWidth 8, 0]) ∧
    (s.watch.current = .panelLost → notice = [3, 0, 0]) ∧
    (s.watch.current = .storeFull → notice = [4, 0, 0]) ∧
    (s.watch.current = .cellsFull → notice = [5, 0, 0]) ∧
    (∀ i : Fin 32, s.watch.current = .watch i → notice = [6, byte i, s.watch.watches[i].level]) ∧
    (∀ i : Fin 32, tripped.getLsbD i = true ↔ s.watch.watches[i].state = .tripped) ∧
    Makes .ntcRead s (s.answered .ok
      (notice ++ [s.watch.podFault.setWidth 8, s.watch.podChange.setWidth 8,
          boolByte s.watch.panelLost + 2 * boolByte s.watch.storeFull + 4 * boolByte s.watch.cellsFull]
        ++ be32 tripped ++ [s.watch.attention, s.watch.freezeLevel,
          boolByte s.watch.attn + 2 * boolByte s.watch.freeze + 4 * boolByte s.watch.hold]
        ++ be32 s.watch.cause))

/-! ### Panes and the grid -/

/-- The table of the subject, format and label bytes (R160, R161, R217). PANE_SET: the refusals in the order of R161; else the new handle is bound and the old one unbound, the old rectangle of a pane that is not FREE is blanked, and the pane is LIVE and stale with its highlight derived. PANE_CLEAR unbinds, blanks, and takes the pane to its reset values. Rows in which a cell changed are marked dirty, and the link tests for a burst, once, by the level of LBUSY that comes with the command (the model's choices, log entries 8 and 14). -/
def Obligations.PaneRequests : Prop :=
  (∀ (kind : Byte) (n : NameBytes) (format : Byte) (label : List Byte) (sub : PaneSubject) (f : Format),
    paneSetting? kind n format label = some (sub, f) ↔
      ((kind = 0 ∧ sub = .none) ∨
        (kind = 1 ∧ n.n1.toNat < 64 ∧ 1 ≤ n.n3.toNat ∧ n.n3.toNat ≤ 16 ∧ n.n2.toNat + n.n3.toNat ≤ 256 ∧
          sub = .target { gen := n.n0, slot := n.n1 } n.n2 n.n3) ∨
        (∃ m fl, kind = 2 ∧ n.n0.toNat = m.val ∧ sub = .meter m fl ∧
          ((n.n1 = 0 ∧ fl = .last) ∨ (n.n1 = 1 ∧ fl = .min) ∨ (n.n1 = 2 ∧ fl = .max) ∨ (n.n1 = 3 ∧ fl = .count))) ∨
        (∃ p, kind = 3 ∧ n.n0.toNat = p.val ∧ sub = .pod p) ∨ (∃ w, kind = 4 ∧ n.n0.toNat = w.val ∧ sub = .watch w) ∨
        (∃ d, kind = 5 ∧ n.n0.toNat = d.val ∧ sub = .decoder d) ∨ (kind = 6 ∧ sub = .device)) ∧
      ((format = 0 ∧ f = .hex) ∨ (format = 1 ∧ f = .dec) ∨ (format = 2 ∧ f = .bin) ∨ (format = 3 ∧ f = .time)) ∧
      (∀ h first count, sub = .target h first count → f ≠ .time) ∧ (∀ m fl, sub = .meter m fl → f ≠ .bin) ∧
      label.length ≤ 40 ∧ ∀ x ∈ label, 0x20 ≤ x.toNat ∧ x.toNat ≤ 0x7E) ∧
  ∀ (pane row col width height kind : Byte) (names : NameBytes) (format : Byte) (label : List Byte) (lbusy : Bool)
      (s : State),
    let set := Instr.paneSet pane row col width height kind names format label lbusy
    (16 ≤ pane.toNat → Makes set s (s.refuse .badParam) ∧ Makes (.paneClear pane lbusy) s (s.refuse .badParam)) ∧
    ∀ i : Fin 16, pane.toNat = i →
      let old := s.display.panes[i]
      let grid : Vector GridRow 16 := tab fun r => tab fun c =>
        if old.state ≠ .free ∧ old.rect.covers r c = true then { code := 0x20, attr := .normal } else s.display.grid[r][c]
      let becomes := fun (t : State) (p : Pane) => State.ok (State.panelTest lbusy { s with
        store := t.store
        display := { s.display with panes := s.display.panes.set i p, grid }
        panel := { s.panel with dirty := s.panel.dirty ||| maskOf fun r => decide (grid[r] ≠ s.display.grid[r]) } })
      (paneSetting? kind names format label = none → Makes set s (s.refuse .badParam)) ∧
      (∀ sub f, paneSetting? kind names format label = some (sub, f) →
        let rect : Rect := { row := row.toNat, col := col.toNat, width := width.toNat, height := height.toNat }
        let inside := row.toNat ≤ 15 ∧ col.toNat ≤ 39 ∧ 1 ≤ width.toNat ∧ width.toNat ≤ 40 ∧ 1 ≤ height.toNat ∧
          height.toNat ≤ 16 ∧ row.toNat + height.toNat ≤ 16 ∧ col.toNat + width.toNat ≤ 40
        let overlaps := ∃ j : Fin 16, j ≠ i ∧ s.display.panes[j].state ≠ .free ∧ ∃ (r : Fin 16) (c : Fin 40),
          rect.covers r c = true ∧ s.display.panes[j].rect.covers r c = true
        let stale := ∃ h, sub.handle? = some h ∧ s.store.reach h = none
        (¬ inside → Makes set s (s.refuse .badRect)) ∧
        (DisplayOk s → inside → overlaps → Makes set s (s.refuse .overlap)) ∧
        (DisplayOk s → inside → ¬ overlaps → stale → Makes set s (s.refuse .staleHandle)) ∧
        (DisplayOk s → inside → ¬ overlaps → ¬ stale →
          Makes set s (becomes ((s.bind? sub.handle?).unbind? old.holds)
            { state := .live, rect, subject := sub, format := f, label, highlight := s.watch.highlighted sub, stale := true }))) ∧
      Makes (.paneClear pane lbusy) s (becomes (s.unbind? old.holds)
        { state := .free, rect := { row := 0, col := 0, width := 1, height := 1 }, subject := .none, format := .hex
          label := [], highlight := false, stale := false })

/-- PANE_READ answers the pane in the layout of R217, its subject as the kind and four bytes of names, and changes nothing else. DISP_INTERVAL refuses an interval outside 10 to 1000 ms or not a multiple of 10; else it is stored and the next tick is one interval after this millisecond. -/
def Obligations.PaneReadInterval : Prop :=
  (∀ (h : Handle) (first count : Byte) (m : Fin 8) (p : Fin 4) (w : Fin 32) (d : Fin 6),
    PaneSubject.none.bytes = [0, 0, 0, 0, 0] ∧ (PaneSubject.target h first count).bytes = [1, h.gen, h.slot, first, count] ∧
    [MeterField.last, .min, .max, .count].map (fun f => (PaneSubject.meter m f).bytes) =
      [[2, byte m, 0, 0, 0], [2, byte m, 1, 0, 0], [2, byte m, 2, 0, 0], [2, byte m, 3, 0, 0]] ∧
    (PaneSubject.pod p).bytes = [3, byte p, 0, 0, 0] ∧ (PaneSubject.watch w).bytes = [4, byte w, 0, 0, 0] ∧
    (PaneSubject.decoder d).bytes = [5, byte d, 0, 0, 0] ∧ PaneSubject.device.bytes = [6, 0, 0, 0, 0]) ∧
  (∀ (pane : Byte) (s : State),
    (16 ≤ pane.toNat → Makes (.paneRead pane) s (s.refuse .badParam)) ∧
    ∀ i : Fin 16, pane.toNat = i →
      let p := s.display.panes[i]
      Makes (.paneRead pane) s (s.answered .ok
        ([p.state.code, byte p.rect.row, byte p.rect.col, byte p.rect.width, byte p.rect.height] ++ p.subject.bytes
          ++ [p.format.code, boolByte p.highlight + 2 * boolByte p.stale, byte p.label.length] ++ p.label))) ∧
  ∀ (interval : Half) (s : State),
    (interval.toNat < 10 ∨ 1000 < interval.toNat ∨ interval.toNat % 10 ≠ 0 →
      Makes (.dispInterval interval) s (s.refuse .badParam)) ∧
    (10 ≤ interval.toNat → interval.toNat ≤ 1000 → interval.toNat % 10 = 0 →
      Makes (.dispInterval interval) s (State.ok { s with
        display := { s.display with interval, nextTick := s.clock.ms + BitVec.ofNat 32 interval.toNat } }))

/-- The table of R167: a pane subject is highlighted exactly when some watch with MARK in TRIPPED or HELD names its cell in the pane's register range, a field of its record, its meter, its pod or its decoder; NONE, WATCH and DEVICE match none. REFRESH_TICK: the highlights are derived, every stale LIVE or ORPHANED pane is written over its rectangle as it then reads and is no longer stale, every other cell stays, rows in which a cell changed are dirty, the next tick is one interval later, and the link tests for a burst, once, by the level of LBUSY that comes with the tick (log entries 8 and 14). A tick that is not due, or ahead of a restart on its way, changes nothing (the model's choice, log entry 9). -/
def Obligations.RefreshTick : Prop :=
  (∀ (u : WatchUnit) (q : PaneSubject), u.highlighted q = true ↔ ∃ i : Fin 32,
    let w := u.watches[i]
    w.marks = true ∧ (w.state = .tripped ∨ w.state = .held) ∧
      ((∃ h reg first count, w.subject = .targetCell h reg ∧ q = .target h first count ∧
          first.toNat ≤ reg.toNat ∧ reg.toNat < first.toNat + count.toNat) ∨
        (∃ h field first count, w.subject = .targetField h field ∧ q = .target h first count) ∨
        (∃ m field shown, w.subject = .meter m field ∧ q = .meter m shown) ∨
        (∃ p, w.subject = .pod p ∧ q = .pod p) ∨
        (∃ d field, w.subject = .decoder d field ∧ q = .decoder d))) ∧
  (∀ (u : WatchUnit) (w : Fin 32),
    u.highlighted .none = false ∧ u.highlighted (.watch w) = false ∧ u.highlighted .device = false) ∧
  ∀ (lbusy : Bool) (s : State), DisplayOk s →
    let due := (s.clock.ms - s.display.nextTick).toNat < 2147483648 ∧
      ¬ (s.port.state = .executing ∧ s.port.request = some .devRestart)
    let lit := fun i : Fin 16 =>
      let p := s.display.panes[i]
      if p.state = .live ∧ s.watch.highlighted p.subject ≠ p.highlight then
        { p with highlight := s.watch.highlighted p.subject, stale := true } else p
    let renders := fun i : Fin 16 => (lit i).stale = true ∧ (lit i).state ≠ .free
    (due → ∃ grid : Vector GridRow 16,
      (∀ (i : Fin 16) (r : Fin 16) (c : Fin 40), renders i → (lit i).rect.covers r c = true →
        grid[r][c] = (lit i).cellAt (s.content (lit i)) (r - (lit i).rect.row) (c - (lit i).rect.col)) ∧
      (∀ (r : Fin 16) (c : Fin 40), (∀ i, renders i → (lit i).rect.covers r c = false) → grid[r][c] = s.display.grid[r][c]) ∧
      Makes (.refreshTick lbusy) s (State.panelTest lbusy { s with
        display :=
          { panes := tab fun i => if (lit i).state = .free then lit i else { lit i with stale := false }
            grid, interval := s.display.interval
            nextTick := s.display.nextTick + BitVec.ofNat 32 s.display.interval.toNat }
        panel := { s.panel with dirty := s.panel.dirty ||| maskOf fun r => decide (grid[r] ≠ s.display.grid[r]) } })) ∧
    (¬ due → exec (.refreshTick lbusy) s = .next s)

/-- The characters and attributes of a pane (R170 to R175): value fields of two hex, three decimal or eight binary digits, or dashes; a time to four digits; the lines of POD, WATCH, DECODER and DEVICE, with the names of R174 that they give the states and the current notice, in characters of ASCII; the label, the lines, '*' before '>' in its place; and the attribute of each character, with and without highlight and mismatch. -/
def Obligations.PaneText : Prop :=
  let digit := fun d : Nat => byte (if d < 10 then 48 + d else 55 + d)
  (∀ b : Byte,
    valueText .hex (some b) = [digit (b.toNat / 16), digit (b.toNat % 16)] ∧
    valueText .dec (some b) = [digit (b.toNat / 100), digit (b.toNat / 10 % 10), digit (b.toNat % 10)] ∧
    valueText .bin (some b) = (List.range 8).map (fun k => digit (b.getLsbD (7 - k)).toNat)) ∧
  (∀ f : Format, f ≠ .time → valueText f none = List.replicate (match f with | .dec => 3 | .bin => 8 | _ => 2) 0x2D) ∧
  (∀ (t unit : Nat) (name : List Char), t < 1000 ∧ unit = 1 ∧ name = ['n', 's'] ∨
      1000 ≤ t ∧ t < 1000000 ∧ unit = 1000 ∧ name = ['u', 's'] ∨
      1000000 ≤ t ∧ t < 1000000000 ∧ unit = 1000000 ∧ name = ['m', 's'] ∨
      1000000000 ≤ t ∧ unit = 1000000000 ∧ name = ['s'] →
    let q := t / unit
    let d := fun n => digit (n % 10)
    (q < 10 → timeText t = [d q, 0x2E, d (t * 10 / unit), d (t * 100 / unit), d (t * 1000 / unit)] ++ codes name) ∧
    (10 ≤ q → q < 100 → timeText t = [d (q / 10), d q, 0x2E, d (t * 10 / unit), d (t * 100 / unit)] ++ codes name) ∧
    (100 ≤ q → q < 1000 → timeText t = [d (q / 100), d (q / 10), d q, 0x2E, d (t * 10 / unit)] ++ codes name)) ∧
  (∀ n : Nat, n < 4294967296 → ∃ ds hs : List Nat,
    decimal n = ds.map digit ∧ hexadecimal n = hs.map digit ∧ (∀ d ∈ ds, d < 10) ∧ (∀ h ∈ hs, h < 16) ∧
    ds.foldl (fun x d => 10 * x + d) 0 = n ∧ hs.foldl (fun x d => 16 * x + d) 0 = n ∧
    (0 < n → ds.head? ≠ some 0 ∧ hs.head? ≠ some 0) ∧ (n = 0 → ds = [0] ∧ hs = [0])) ∧
  (∀ cs : List Char, codes cs = cs.map fun c => byte c.toNat) ∧
  (PodState.text .absent = codes ['A', 'B', 'S', 'E', 'N', 'T'] ∧ PodState.text .off = codes ['O', 'F', 'F'] ∧
    PodState.text .ramping = codes ['R', 'A', 'M', 'P', 'I', 'N', 'G'] ∧
    PodState.text .settling = codes ['S', 'E', 'T', 'T', 'L', 'I', 'N', 'G'] ∧
    PodState.text .isolated = codes ['I', 'S', 'O', 'L', 'A', 'T', 'E', 'D'] ∧
    PodState.text .live = codes ['L', 'I', 'V', 'E'] ∧ PodState.text .stopping = codes ['S', 'T', 'O', 'P', 'P', 'I', 'N', 'G']) ∧
  (WatchState.text .off = codes ['O', 'F', 'F'] ∧ WatchState.text .idle = codes ['I', 'D', 'L', 'E'] ∧
    WatchState.text .tripped = codes ['T', 'R', 'I', 'P', 'P', 'E', 'D'] ∧ WatchState.text .held = codes ['H', 'E', 'L', 'D'] ∧
    WatchState.text .dormant = codes ['D', 'O', 'R', 'M', 'A', 'N', 'T']) ∧
  (DecState.text .stopped = codes ['S', 'T', 'O', 'P', 'P', 'E', 'D'] ∧
    DecState.text .suspended = codes ['S', 'U', 'S', 'P', 'E', 'N', 'D', 'E', 'D'] ∧
    DecState.text .syncing = codes ['S', 'Y', 'N', 'C', 'I', 'N', 'G'] ∧ DecState.text .idle = codes ['I', 'D', 'L', 'E'] ∧
    DecState.text .busy = codes ['B', 'U', 'S', 'Y']) ∧
  (Notice.text .none = codes ['N', 'O', 'N', 'E'] ∧ Notice.text .podFault = codes ['P', 'O', 'D', '_', 'F', 'A', 'U', 'L', 'T'] ∧
    Notice.text .podChange = codes ['P', 'O', 'D', '_', 'C', 'H', 'A', 'N', 'G', 'E'] ∧
    Notice.text .panelLost = codes ['P', 'A', 'N', 'E', 'L', '_', 'L', 'O', 'S', 'T'] ∧
    Notice.text .storeFull = codes ['S', 'T', 'O', 'R', 'E', '_', 'F', 'U', 'L', 'L'] ∧
    Notice.text .cellsFull = codes ['C', 'E', 'L', 'L', 'S', '_', 'F', 'U', 'L', 'L'] ∧
    ∀ i : Fin 32, Notice.text (.watch i) = [0x57, digit (i.val / 10), digit (i.val % 10)]) ∧
  (∀ p : Pod, p.code.toNat ≤ 132 →
    let centivolts := (300 + 25 * p.code.toNat) / 10
    p.line = p.state.text ++ [0x20, digit (centivolts / 100), 0x2E, digit (centivolts / 10 % 10), digit (centivolts % 10), 0x56]) ∧
  (∀ (w : Watch) (d : Decoder) (u : WatchUnit) (f : Format),
    let count := fun n : Nat => if f = .hex then hexadecimal n else decimal n
    w.line f = w.state.text ++ [0x20] ++ count w.hits.toNat ∧ d.line f = d.state.text ++ [0x20] ++ count d.applied.toNat ∧
    u.line = (if u.freeze then codes ['F', 'R', 'O', 'Z', 'E', 'N'] else codes ['R', 'U', 'N']) ++ [0x20] ++ u.current.text) ∧
  (∀ (p : Pane) (c : Content) (row col : Nat),
    let rows := if p.label = [] then 0 else 1
    let corner := c.withheld = true ∧ row = 0 ∧ col + 1 = p.rect.width
    let overflow := (c.cut = true ∨ p.rect.height < rows + c.lines.length) ∧ row + 1 = p.rect.height ∧ col + 1 = p.rect.width
    let glyph := ((c.lines.getD (row - rows) []).getD col { code := 0x20, mismatch := false })
    let marked := ¬ corner ∧ ¬ overflow ∧ rows ≤ row ∧ glyph.mismatch = true
    rows ≤ p.rect.height →
    (corner → (p.cellAt c row col).code = 0x2A) ∧
    (¬ corner → overflow → (p.cellAt c row col).code = 0x3E) ∧
    (¬ corner → ¬ overflow → (p.cellAt c row col).code = if row < rows then p.label.getD col 0x20 else glyph.code) ∧
    (p.highlight = false → ¬ marked → (p.cellAt c row col).attr = .normal) ∧
    (p.highlight = false → marked → (p.cellAt c row col).attr = .inverse) ∧
    (p.highlight = true → ¬ marked → (p.cellAt c row col).attr = .inverse) ∧
    (p.highlight = true → marked → (p.cellAt c row col).attr = .dim))

/-- What each subject gives a pane (R170 to R174): one line for METER, POD, WATCH, DECODER and DEVICE, dashes for an ORPHANED pane, none for NONE, and for TARGET one entry for each register, flowed into the width with a space between two of a line, as many to a line as fit, none when one is wider, and '*' while the withheld mark is set. A METER line shows the chosen field in the pane's format, a time where R173 gives one, dashes or OVER. -/
def Obligations.PaneContent : Prop :=
  (∀ (s : State) (p : Pane),
    let c := s.content p
    let line := fun cs : List Byte => c =
      { lines := [cs.map fun x => { code := x, mismatch := false }], cut := decide (p.rect.width < cs.length), withheld := false }
    (p.state = .orphaned → line [0x2D, 0x2D, 0x2D, 0x2D]) ∧
    (p.state ≠ .orphaned →
      (p.subject = .none → c = { lines := [], cut := false, withheld := false }) ∧
      (∀ m f, p.subject = .meter m f → line (s.meters[m].line f p.format)) ∧
      (∀ q, p.subject = .pod q → line s.pods[q].line) ∧
      (∀ w, p.subject = .watch w → line (s.watch.watches[w].line p.format)) ∧
      (∀ d, p.subject = .decoder d → line (s.decoders[d].line p.format)) ∧
      (p.subject = .device → line s.watch.line) ∧
      (∀ h first count (i : Fin 64) r, p.subject = .target h first count →
        h.slot = byte i → s.store.slots[i].record = some r → s.store.slots[i].gen = h.gen →
        let entries := (List.range count.toNat).map fun k => entry r.cells p.format (byte (first.toNat + k))
        let blank : Glyph := { code := 0x20, mismatch := false }
        let long := match p.format with | .hex => 5 | .dec => 6 | .bin => 11 | .time => 5
        let fit := (p.rect.width + 1) / (long + 1)
        c.withheld = r.withheldMark ∧
        (p.rect.width < long → 0 < count.toNat → c.lines = [] ∧ c.cut = true) ∧
        (long ≤ p.rect.width → c.cut = false ∧ c.lines = (List.range ((count.toNat + fit - 1) / fit)).map fun l =>
          [blank].intercalate ((entries.drop (l * fit)).take fit))))) ∧
  (∀ (cells : List TargetCell) (f : Format) (reg : Byte),
    let digit := fun d : Nat => byte (if d < 10 then 48 + d else 55 + d)
    let differs := ∃ c v e, cellAt reg cells = some c ∧ c.value = some v ∧ c.expected = some e ∧ (v ^^^ e.value) &&& e.mask ≠ 0
    (entry cells f reg).map Glyph.code =
      [digit (reg.toNat / 16), digit (reg.toNat % 16), 0x3A] ++ valueText f ((cellAt reg cells).bind TargetCell.value) ∧
    ∀ g ∈ entry cells f reg, g.mismatch = true ↔ differs) ∧
  ∀ (m : Meter) (field : MeterField) (f : Format),
    let r := m.record
    let shown := fun v : Word =>
      if f = .time ∧ field ≠ .count ∧ m.config.mode ≠ .count then timeText (4 * v.toNat)
      else if f = .hex then hexadecimal v.toNat else decimal v.toNat
    let nothing : List Byte := [0x2D, 0x2D, 0x2D, 0x2D]
    (r.status = .none → m.line field f = nothing) ∧
    (r.status = .overrange → m.line .last f = [0x4F, 0x56, 0x45, 0x52]) ∧
    (r.status = .valid → field = .last → m.line field f = shown r.last) ∧
    (r.status ≠ .none → field = .min → m.line field f = if r.count = 0 then nothing else shown r.min) ∧
    (r.status ≠ .none → field = .max → m.line field f = if r.count = 0 then nothing else shown r.max) ∧
    (r.status ≠ .none → field = .count → m.line field f = shown r.count)

/-! ### The panel link and the backlight -/

/-- PNL_ENABLE switches the link (R185): a value or, with on, a rate out of range is refused; on in OFF stores the rate and goes to IDLE with all rows dirty and the test for a burst, in any other state it only stores the rate; off goes to OFF with a cut burst's row dirty again. PNL_RESTART in LOST goes to IDLE with all rows dirty and the test, and is NOTHING otherwise (R186). DISP_REPAINT marks all rows and tests (R187). BKL_SET stores the counts and restarts the period (R189). That the level of LBUSY at the test comes with the command is the model's choice, log entry 8. -/
def Obligations.PanelRequests : Prop :=
  ∀ (on rate : Byte) (high low : Half) (lbusy : Bool) (s : State),
    let rated := fun r : Rate => rate = 1 ∧ r = .mhz1 ∨ rate = 4 ∧ r = .mhz4 ∨ rate = 8 ∧ r = .mhz8 ∨ rate = 16 ∧ r = .mhz16
    (1 < on.toNat ∨ (on = 1 ∧ ∀ r, ¬ rated r) → Makes (.pnlEnable on rate lbusy) s (s.refuse .badParam)) ∧
    (on = 0 → Makes (.pnlEnable on rate lbusy) s (State.ok { s with panel := { s.panel with
      link := .off, wait := none, burst := none
      dirty := match s.panel.burst with | some b => s.panel.dirty ||| BitVec.twoPow 16 b.row | none => s.panel.dirty } })) ∧
    (on = 1 → ∀ r, rated r →
      (s.panel.link = .off → Makes (.pnlEnable on rate lbusy) s (State.ok (State.panelTest lbusy { s with
        panel := { s.panel with link := .idle, rate := r, dirty := 0xFFFF } }))) ∧
      (s.panel.link ≠ .off →
        Makes (.pnlEnable on rate lbusy) s (State.ok { s with panel := { s.panel with rate := r } }))) ∧
    (s.panel.link = .lost → Makes (.pnlRestart lbusy) s (State.ok (State.panelTest lbusy { s with
      panel := { s.panel with link := .idle, dirty := 0xFFFF } }))) ∧
    (s.panel.link ≠ .lost → Makes (.pnlRestart lbusy) s (s.refuse .nothing)) ∧
    Makes (.dispRepaint lbusy) s (State.ok (State.panelTest lbusy { s with panel := { s.panel with dirty := 0xFFFF } })) ∧
    Makes (.bklSet high low) s (State.ok { s with backlight :=
      { high, low, phaseHigh := decide (high ≠ 0)
        endsAt := if high ≠ 0 ∧ low ≠ 0 then some (s.clock.now + high.toNat * 250) else none } })

/-- The test for a burst (R181, R182): in IDLE with rows waiting LBUSY is read, a high one starts the 20 ms wait and a low one the burst of the lowest row; in every other state nothing changes. In WAITING a low LBUSY starts the burst. BURST_END goes to IDLE and tests; a wait that expires makes the link LOST and raises PANEL_LOST; a backlight phase that ends gives way to the other. A burst is 81 bytes: the row, then the code and the attribute of each column; LDAT carries their 648 bits most significant first, one in each period of the burst's rate, while LSEL is active, which is in SENDING alone, and LSCK leaves its idle level once in each of these periods and is back at it before the next time, so that it is away from it in exactly 648 separate runs of samples, one in each period; in every other state LSCK and LDAT stand at their idle levels (R179). The idle levels, and where in a bit period LSCK leaves its own and for how long, are free values, and that it leaves it for a sample period at least and comes back for one at least is the model's choice (log entry 35). That the level of LBUSY comes with the command, and that an event that cannot arise changes nothing, are the model's choices, log entries 8 and 10. -/
def Obligations.PanelEvents : Prop :=
  (∀ (lbusy : Bool) (s : State) (row : Fin 16),
    let lowest := s.panel.dirty.getLsbD row = true ∧ ∀ r : Fin 16, r < row → s.panel.dirty.getLsbD r = false
    let sends : State := { s with
      pins := { s.pins with lbusy := false }
      panel := { s.panel with
        link := .sending, wait := none, dirty := s.panel.dirty &&& ~~~ BitVec.twoPow 16 row
        burst := some { row, cells := s.display.grid[row], rate := s.panel.rate
                        endsAt := s.clock.now + 648 * 250 / s.panel.rate.mhz } } }
    (s.panel.link = .idle → s.panel.dirty ≠ 0 → lbusy = true → s.panelTest lbusy = { s with
      pins := { s.pins with lbusy := true }
      panel := { s.panel with link := .waiting, wait := some (s.clock.now + 5000000) } }) ∧
    (s.panel.link = .idle → lowest → lbusy = false → s.panelTest lbusy = sends) ∧
    (s.panel.link ≠ .idle ∨ s.panel.dirty = 0 → s.panelTest lbusy = s) ∧
    (s.panel.link = .waiting → lowest → Makes .lbusyLow s sends) ∧
    (s.panel.link ≠ .waiting → Makes .lbusyLow s { s with pins := { s.pins with lbusy := false } })) ∧
  (Rate.mhz1.mhz = 1 ∧ Rate.mhz4.mhz = 4 ∧ Rate.mhz8.mhz = 8 ∧ Rate.mhz16.mhz = 16) ∧
  (∀ (lbusy : Bool) (s : State),
    (∀ b, s.panel.link = .sending → s.panel.burst = some b →
      Makes (.burstEnd lbusy) s (State.panelTest lbusy { s.advance b.endsAt with
        panel := { s.panel with link := .idle, burst := none } })) ∧
    (s.panel.link ≠ .sending ∨ s.panel.burst = none → exec (.burstEnd lbusy) s = .next s) ∧
    (∀ t, s.panel.link = .waiting → s.panel.wait = some t → MakesSome .waitExpiry s fun u => u.watch.Derived ∧
      u.watch.watches = s.watch.watches ∧
      UpToReports { s.advance t with
        panel := { s.panel with link := .lost, wait := none }, watch := { s.watch with panelLost := true } } u) ∧
    (s.panel.link ≠ .waiting ∨ s.panel.wait = none → exec .waitExpiry s = .next s) ∧
    (∀ t, s.backlight.endsAt = some t → Makes .backlightPhaseExpiry s { s.advance t with
      backlight := { s.backlight with
        phaseHigh := !s.backlight.phaseHigh
        endsAt := some (t + (if s.backlight.phaseHigh then s.backlight.low else s.backlight.high).toNat * 250) } }) ∧
    (s.backlight.endsAt = none → exec .backlightPhaseExpiry s = .next s)) ∧
  (∀ b : Burst, b.bytes.length = 81 ∧ b.bytes[0]? = some (byte b.row) ∧ (∀ c : Fin 40,
    let cell := b.cells[c]
    b.bytes[2 * c.val + 1]? = some (if 0x20 ≤ cell.code.toNat ∧ cell.code.toNat ≤ 0x7E then cell.code else 0x3F) ∧
    b.bytes[2 * c.val + 2]? = some cell.attr.code) ∧
    b.bits.length = 648 ∧ ∀ k : Nat, k < 648 → b.bits[k]? = (b.bytes[k / 8]?).map fun x => x.getLsbD (7 - k % 8)) ∧
  (∀ r : Rate, r.pulseStart + r.mhz ≤ r.pulseEnd ∧ r.pulseEnd ≤ 250 ∧ r.pulseEnd + r.mhz ≤ r.pulseStart + 250) ∧
  (∀ s : State, (s.panel.link ≠ .sending →
      s.lsel = false ∧ s.lsck = Config.lsckIdle ∧ s.ldat = Config.ldatIdle) ∧
    ∀ (b : Burst) (start : Nat), s.panel.link = .sending → s.panel.burst = some b →
      b.endsAt = start + 648 * 250 / b.rate.mhz → start ≤ s.clock.now → s.clock.now < b.endsAt →
      let phase := (s.clock.now - start) * b.rate.mhz % 250
      s.lsel = true ∧ b.bits[(s.clock.now - start) * b.rate.mhz / 250]? = some s.ldat ∧
      s.lsck = (if b.rate.pulseStart ≤ phase ∧ phase < b.rate.pulseEnd then !Config.lsckIdle else Config.lsckIdle)) ∧
  ∀ (b : Burst) (start : Nat), b.endsAt = start + 648 * 250 / b.rate.mhz → ∃ leaves back : Nat → Nat,
    (∀ k, k < 648 → start * b.rate.mhz + 250 * k ≤ leaves k * b.rate.mhz ∧ leaves k < back k ∧
      (back k - 1) * b.rate.mhz < start * b.rate.mhz + 250 * (k + 1) ∧ back k < leaves (k + 1)) ∧
    ∀ s : State, s.panel.link = .sending → s.panel.burst = some b → start ≤ s.clock.now →
      (s.lsck ≠ Config.lsckIdle ↔ ∃ k, k < 648 ∧ leaves k ≤ s.clock.now ∧ s.clock.now < back k)

/-! ### What every step keeps -/

/-- Every step keeps the notices and the freeze derived, and the POD_FAULT mask a copy of the fault marks. -/
def Obligations.StepKeepsNotices : Prop := ∀ s t : State, NoticesOk s → step s = .next t → NoticesOk t

/-- Every step keeps every pod and every filter as the rules leave it. -/
def Obligations.StepKeepsPods : Prop := ∀ s t : State, PodsOk s → step s = .next t → PodsOk t

/-- Every step keeps each record's cells in order, each of the 1024 cells in one record or free, and no key twice; and, with references as R39 gives them, keeps those too. -/
def Obligations.StepKeepsStore : Prop :=
  ∀ s t : State, step s = .next t → StoreOk s → StoreOk t ∧ (ReferencesOk s → ReferencesOk t)

/-- Every step keeps the Panel Link and the port as their tables give them, and while RESET is held low every block at its full reset values with no pod sensed. R21 and R209 give the supplies and the port's outputs while RESET is low; that the other values stand then as at the end of the reset is the model's choice, log entry 22. -/
def Obligations.StepKeepsLinkAndPort : Prop :=
  ∀ s t : State, step s = .next t → (PanelOk s → PanelOk t) ∧ (PortOk s → PortOk t) ∧ (HeldOk s → HeldOk t)

/-- Every step keeps each decoder's staging exactly while it is BUSY, within its limits, and its timer running only where its profile uses it. -/
def Obligations.StepKeepsDecoders : Prop := ∀ s t : State, DecodersOk s → step s = .next t → DecodersOk t

/-- Every step keeps each meter's state among those of its mode, its measurement on LIVE pods, a follower in the window of its gate, and its record as results leave it, where every pod is as the rules leave it. -/
def Obligations.StepKeepsMeters : Prop := ∀ s t : State, PodsOk s → MetersOk s → step s = .next t → MetersOk t

/-- Every step keeps the panes in the grid and apart, and every cell outside them blank. -/
def Obligations.StepKeepsDisplay : Prop := ∀ s t : State, DisplayOk s → step s = .next t → DisplayOk t

/-- Every step keeps the sample of every active watch what its subject reads: each change of a subject reaches its watches (R130). -/
def Obligations.StepKeepsWatches : Prop := ∀ s t : State, AllOk s → step s = .next t → WatchesOk t

/-- Every step keeps the grid showing every pane that is not stale as it would be rendered now: each change of what a pane shows marks it (R166). -/
def Obligations.StepKeepsPicture : Prop := ∀ s t : State, AllOk s → step s = .next t → PictureOk t

end Statements
end

