-- ==== Sys2Proof/Laws/State.lean ====
section
/-! SUPPORT. One lemma per field for each plain update of the state, true by rfl: no later proof unfolds a record update. -/

namespace Sys2Proof.Machine

/-! ### advance -/

@[simp] theorem State.advance_pins (t : Nat) (s : State) : (s.advance t).pins = s.pins := rfl
@[simp] theorem State.advance_pods (t : Nat) (s : State) : (s.advance t).pods = s.pods := rfl
@[simp] theorem State.advance_channels (t : Nat) (s : State) : (s.advance t).channels = s.channels := rfl
@[simp] theorem State.advance_decoders (t : Nat) (s : State) : (s.advance t).decoders = s.decoders := rfl
@[simp] theorem State.advance_store (t : Nat) (s : State) : (s.advance t).store = s.store := rfl
@[simp] theorem State.advance_meters (t : Nat) (s : State) : (s.advance t).meters = s.meters := rfl
@[simp] theorem State.advance_watch (t : Nat) (s : State) : (s.advance t).watch = s.watch := rfl
@[simp] theorem State.advance_display (t : Nat) (s : State) : (s.advance t).display = s.display := rfl
@[simp] theorem State.advance_panel (t : Nat) (s : State) : (s.advance t).panel = s.panel := rfl
@[simp] theorem State.advance_backlight (t : Nat) (s : State) : (s.advance t).backlight = s.backlight := rfl
@[simp] theorem State.advance_port (t : Nat) (s : State) : (s.advance t).port = s.port := rfl
@[simp] theorem State.advance_pending (t : Nat) (s : State) : (s.advance t).pending = s.pending := rfl

/-! ### answered -/

@[simp] theorem State.answered_clock (st : Status) (p : List Byte) (s : State) : (s.answered st p).clock = s.clock := rfl
@[simp] theorem State.answered_pins (st : Status) (p : List Byte) (s : State) : (s.answered st p).pins = s.pins := rfl
@[simp] theorem State.answered_pods (st : Status) (p : List Byte) (s : State) : (s.answered st p).pods = s.pods := rfl
@[simp] theorem State.answered_channels (st : Status) (p : List Byte) (s : State) : (s.answered st p).channels = s.channels := rfl
@[simp] theorem State.answered_decoders (st : Status) (p : List Byte) (s : State) : (s.answered st p).decoders = s.decoders := rfl
@[simp] theorem State.answered_store (st : Status) (p : List Byte) (s : State) : (s.answered st p).store = s.store := rfl
@[simp] theorem State.answered_meters (st : Status) (p : List Byte) (s : State) : (s.answered st p).meters = s.meters := rfl
@[simp] theorem State.answered_watch (st : Status) (p : List Byte) (s : State) : (s.answered st p).watch = s.watch := rfl
@[simp] theorem State.answered_display (st : Status) (p : List Byte) (s : State) : (s.answered st p).display = s.display := rfl
@[simp] theorem State.answered_panel (st : Status) (p : List Byte) (s : State) : (s.answered st p).panel = s.panel := rfl
@[simp] theorem State.answered_backlight (st : Status) (p : List Byte) (s : State) : (s.answered st p).backlight = s.backlight := rfl
@[simp] theorem State.answered_pending (st : Status) (p : List Byte) (s : State) : (s.answered st p).pending = s.pending := rfl

/-! ### ok -/

@[simp] theorem State.ok_clock (s : State) : (s.ok).clock = s.clock := rfl
@[simp] theorem State.ok_pins (s : State) : (s.ok).pins = s.pins := rfl
@[simp] theorem State.ok_pods (s : State) : (s.ok).pods = s.pods := rfl
@[simp] theorem State.ok_channels (s : State) : (s.ok).channels = s.channels := rfl
@[simp] theorem State.ok_decoders (s : State) : (s.ok).decoders = s.decoders := rfl
@[simp] theorem State.ok_store (s : State) : (s.ok).store = s.store := rfl
@[simp] theorem State.ok_meters (s : State) : (s.ok).meters = s.meters := rfl
@[simp] theorem State.ok_watch (s : State) : (s.ok).watch = s.watch := rfl
@[simp] theorem State.ok_display (s : State) : (s.ok).display = s.display := rfl
@[simp] theorem State.ok_panel (s : State) : (s.ok).panel = s.panel := rfl
@[simp] theorem State.ok_backlight (s : State) : (s.ok).backlight = s.backlight := rfl
@[simp] theorem State.ok_pending (s : State) : (s.ok).pending = s.pending := rfl

/-! ### refuse -/

@[simp] theorem State.refuse_clock (st : Status) (s : State) : (s.refuse st).clock = s.clock := rfl
@[simp] theorem State.refuse_pins (st : Status) (s : State) : (s.refuse st).pins = s.pins := rfl
@[simp] theorem State.refuse_pods (st : Status) (s : State) : (s.refuse st).pods = s.pods := rfl
@[simp] theorem State.refuse_channels (st : Status) (s : State) : (s.refuse st).channels = s.channels := rfl
@[simp] theorem State.refuse_decoders (st : Status) (s : State) : (s.refuse st).decoders = s.decoders := rfl
@[simp] theorem State.refuse_store (st : Status) (s : State) : (s.refuse st).store = s.store := rfl
@[simp] theorem State.refuse_meters (st : Status) (s : State) : (s.refuse st).meters = s.meters := rfl
@[simp] theorem State.refuse_watch (st : Status) (s : State) : (s.refuse st).watch = s.watch := rfl
@[simp] theorem State.refuse_display (st : Status) (s : State) : (s.refuse st).display = s.display := rfl
@[simp] theorem State.refuse_panel (st : Status) (s : State) : (s.refuse st).panel = s.panel := rfl
@[simp] theorem State.refuse_backlight (st : Status) (s : State) : (s.refuse st).backlight = s.backlight := rfl
@[simp] theorem State.refuse_pending (st : Status) (s : State) : (s.refuse st).pending = s.pending := rfl

/-! ### withPanes -/

@[simp] theorem State.withPanes_clock (ps : Vector Pane 16) (s : State) : (s.withPanes ps).clock = s.clock := rfl
@[simp] theorem State.withPanes_pins (ps : Vector Pane 16) (s : State) : (s.withPanes ps).pins = s.pins := rfl
@[simp] theorem State.withPanes_pods (ps : Vector Pane 16) (s : State) : (s.withPanes ps).pods = s.pods := rfl
@[simp] theorem State.withPanes_channels (ps : Vector Pane 16) (s : State) : (s.withPanes ps).channels = s.channels := rfl
@[simp] theorem State.withPanes_decoders (ps : Vector Pane 16) (s : State) : (s.withPanes ps).decoders = s.decoders := rfl
@[simp] theorem State.withPanes_store (ps : Vector Pane 16) (s : State) : (s.withPanes ps).store = s.store := rfl
@[simp] theorem State.withPanes_meters (ps : Vector Pane 16) (s : State) : (s.withPanes ps).meters = s.meters := rfl
@[simp] theorem State.withPanes_watch (ps : Vector Pane 16) (s : State) : (s.withPanes ps).watch = s.watch := rfl
@[simp] theorem State.withPanes_panel (ps : Vector Pane 16) (s : State) : (s.withPanes ps).panel = s.panel := rfl
@[simp] theorem State.withPanes_backlight (ps : Vector Pane 16) (s : State) : (s.withPanes ps).backlight = s.backlight := rfl
@[simp] theorem State.withPanes_port (ps : Vector Pane 16) (s : State) : (s.withPanes ps).port = s.port := rfl
@[simp] theorem State.withPanes_pending (ps : Vector Pane 16) (s : State) : (s.withPanes ps).pending = s.pending := rfl

/-! ### markPanes -/

@[simp] theorem State.markPanes_clock (cov : PaneSubject → Bool) (s : State) : (s.markPanes cov).clock = s.clock := rfl
@[simp] theorem State.markPanes_pins (cov : PaneSubject → Bool) (s : State) : (s.markPanes cov).pins = s.pins := rfl
@[simp] theorem State.markPanes_pods (cov : PaneSubject → Bool) (s : State) : (s.markPanes cov).pods = s.pods := rfl
@[simp] theorem State.markPanes_channels (cov : PaneSubject → Bool) (s : State) : (s.markPanes cov).channels = s.channels := rfl
@[simp] theorem State.markPanes_decoders (cov : PaneSubject → Bool) (s : State) : (s.markPanes cov).decoders = s.decoders := rfl
@[simp] theorem State.markPanes_store (cov : PaneSubject → Bool) (s : State) : (s.markPanes cov).store = s.store := rfl
@[simp] theorem State.markPanes_meters (cov : PaneSubject → Bool) (s : State) : (s.markPanes cov).meters = s.meters := rfl
@[simp] theorem State.markPanes_watch (cov : PaneSubject → Bool) (s : State) : (s.markPanes cov).watch = s.watch := rfl
@[simp] theorem State.markPanes_panel (cov : PaneSubject → Bool) (s : State) : (s.markPanes cov).panel = s.panel := rfl
@[simp] theorem State.markPanes_backlight (cov : PaneSubject → Bool) (s : State) : (s.markPanes cov).backlight = s.backlight := rfl
@[simp] theorem State.markPanes_port (cov : PaneSubject → Bool) (s : State) : (s.markPanes cov).port = s.port := rfl
@[simp] theorem State.markPanes_pending (cov : PaneSubject → Bool) (s : State) : (s.markPanes cov).pending = s.pending := rfl

/-! ### deriveHighlights -/

@[simp] theorem State.deriveHighlights_clock (s : State) : (s.deriveHighlights).clock = s.clock := rfl
@[simp] theorem State.deriveHighlights_pins (s : State) : (s.deriveHighlights).pins = s.pins := rfl
@[simp] theorem State.deriveHighlights_pods (s : State) : (s.deriveHighlights).pods = s.pods := rfl
@[simp] theorem State.deriveHighlights_channels (s : State) : (s.deriveHighlights).channels = s.channels := rfl
@[simp] theorem State.deriveHighlights_decoders (s : State) : (s.deriveHighlights).decoders = s.decoders := rfl
@[simp] theorem State.deriveHighlights_store (s : State) : (s.deriveHighlights).store = s.store := rfl
@[simp] theorem State.deriveHighlights_meters (s : State) : (s.deriveHighlights).meters = s.meters := rfl
@[simp] theorem State.deriveHighlights_watch (s : State) : (s.deriveHighlights).watch = s.watch := rfl
@[simp] theorem State.deriveHighlights_panel (s : State) : (s.deriveHighlights).panel = s.panel := rfl
@[simp] theorem State.deriveHighlights_backlight (s : State) : (s.deriveHighlights).backlight = s.backlight := rfl
@[simp] theorem State.deriveHighlights_port (s : State) : (s.deriveHighlights).port = s.port := rfl
@[simp] theorem State.deriveHighlights_pending (s : State) : (s.deriveHighlights).pending = s.pending := rfl

/-! ### setLbusy -/

@[simp] theorem State.setLbusy_clock (l : Bool) (s : State) : (s.setLbusy l).clock = s.clock := rfl
@[simp] theorem State.setLbusy_pods (l : Bool) (s : State) : (s.setLbusy l).pods = s.pods := rfl
@[simp] theorem State.setLbusy_channels (l : Bool) (s : State) : (s.setLbusy l).channels = s.channels := rfl
@[simp] theorem State.setLbusy_decoders (l : Bool) (s : State) : (s.setLbusy l).decoders = s.decoders := rfl
@[simp] theorem State.setLbusy_store (l : Bool) (s : State) : (s.setLbusy l).store = s.store := rfl
@[simp] theorem State.setLbusy_meters (l : Bool) (s : State) : (s.setLbusy l).meters = s.meters := rfl
@[simp] theorem State.setLbusy_watch (l : Bool) (s : State) : (s.setLbusy l).watch = s.watch := rfl
@[simp] theorem State.setLbusy_display (l : Bool) (s : State) : (s.setLbusy l).display = s.display := rfl
@[simp] theorem State.setLbusy_panel (l : Bool) (s : State) : (s.setLbusy l).panel = s.panel := rfl
@[simp] theorem State.setLbusy_backlight (l : Bool) (s : State) : (s.setLbusy l).backlight = s.backlight := rfl
@[simp] theorem State.setLbusy_port (l : Bool) (s : State) : (s.setLbusy l).port = s.port := rfl
@[simp] theorem State.setLbusy_pending (l : Bool) (s : State) : (s.setLbusy l).pending = s.pending := rfl

/-! ### markRows -/

@[simp] theorem State.markRows_clock (r : BitVec 16) (s : State) : (s.markRows r).clock = s.clock := rfl
@[simp] theorem State.markRows_pins (r : BitVec 16) (s : State) : (s.markRows r).pins = s.pins := rfl
@[simp] theorem State.markRows_pods (r : BitVec 16) (s : State) : (s.markRows r).pods = s.pods := rfl
@[simp] theorem State.markRows_channels (r : BitVec 16) (s : State) : (s.markRows r).channels = s.channels := rfl
@[simp] theorem State.markRows_decoders (r : BitVec 16) (s : State) : (s.markRows r).decoders = s.decoders := rfl
@[simp] theorem State.markRows_store (r : BitVec 16) (s : State) : (s.markRows r).store = s.store := rfl
@[simp] theorem State.markRows_meters (r : BitVec 16) (s : State) : (s.markRows r).meters = s.meters := rfl
@[simp] theorem State.markRows_watch (r : BitVec 16) (s : State) : (s.markRows r).watch = s.watch := rfl
@[simp] theorem State.markRows_display (r : BitVec 16) (s : State) : (s.markRows r).display = s.display := rfl
@[simp] theorem State.markRows_backlight (r : BitVec 16) (s : State) : (s.markRows r).backlight = s.backlight := rfl
@[simp] theorem State.markRows_port (r : BitVec 16) (s : State) : (s.markRows r).port = s.port := rfl
@[simp] theorem State.markRows_pending (r : BitVec 16) (s : State) : (s.markRows r).pending = s.pending := rfl

/-! ### setChannel -/

@[simp] theorem State.setChannel_clock (c : Fin 32) (ch : Channel) (l : Bool) (s : State) : (s.setChannel c ch l).clock = s.clock := rfl
@[simp] theorem State.setChannel_pods (c : Fin 32) (ch : Channel) (l : Bool) (s : State) : (s.setChannel c ch l).pods = s.pods := rfl
@[simp] theorem State.setChannel_decoders (c : Fin 32) (ch : Channel) (l : Bool) (s : State) : (s.setChannel c ch l).decoders = s.decoders := rfl
@[simp] theorem State.setChannel_store (c : Fin 32) (ch : Channel) (l : Bool) (s : State) : (s.setChannel c ch l).store = s.store := rfl
@[simp] theorem State.setChannel_meters (c : Fin 32) (ch : Channel) (l : Bool) (s : State) : (s.setChannel c ch l).meters = s.meters := rfl
@[simp] theorem State.setChannel_watch (c : Fin 32) (ch : Channel) (l : Bool) (s : State) : (s.setChannel c ch l).watch = s.watch := rfl
@[simp] theorem State.setChannel_display (c : Fin 32) (ch : Channel) (l : Bool) (s : State) : (s.setChannel c ch l).display = s.display := rfl
@[simp] theorem State.setChannel_panel (c : Fin 32) (ch : Channel) (l : Bool) (s : State) : (s.setChannel c ch l).panel = s.panel := rfl
@[simp] theorem State.setChannel_backlight (c : Fin 32) (ch : Channel) (l : Bool) (s : State) : (s.setChannel c ch l).backlight = s.backlight := rfl
@[simp] theorem State.setChannel_port (c : Fin 32) (ch : Channel) (l : Bool) (s : State) : (s.setChannel c ch l).port = s.port := rfl
@[simp] theorem State.setChannel_pending (c : Fin 32) (ch : Channel) (l : Bool) (s : State) : (s.setChannel c ch l).pending = s.pending := rfl

/-! ### acceptChange -/

@[simp] theorem State.acceptChange_clock (c : Fin 32) (s : State) : (s.acceptChange c).clock = s.clock := rfl
@[simp] theorem State.acceptChange_pods (c : Fin 32) (s : State) : (s.acceptChange c).pods = s.pods := rfl
@[simp] theorem State.acceptChange_decoders (c : Fin 32) (s : State) : (s.acceptChange c).decoders = s.decoders := rfl
@[simp] theorem State.acceptChange_store (c : Fin 32) (s : State) : (s.acceptChange c).store = s.store := rfl
@[simp] theorem State.acceptChange_meters (c : Fin 32) (s : State) : (s.acceptChange c).meters = s.meters := rfl
@[simp] theorem State.acceptChange_watch (c : Fin 32) (s : State) : (s.acceptChange c).watch = s.watch := rfl
@[simp] theorem State.acceptChange_display (c : Fin 32) (s : State) : (s.acceptChange c).display = s.display := rfl
@[simp] theorem State.acceptChange_panel (c : Fin 32) (s : State) : (s.acceptChange c).panel = s.panel := rfl
@[simp] theorem State.acceptChange_backlight (c : Fin 32) (s : State) : (s.acceptChange c).backlight = s.backlight := rfl
@[simp] theorem State.acceptChange_port (c : Fin 32) (s : State) : (s.acceptChange c).port = s.port := rfl
@[simp] theorem State.acceptChange_pending (c : Fin 32) (s : State) : (s.acceptChange c).pending = s.pending := rfl

/-! ### dropCandidates -/

@[simp] theorem State.dropCandidates_clock (p : Fin 4) (s : State) : (s.dropCandidates p).clock = s.clock := rfl
@[simp] theorem State.dropCandidates_pins (p : Fin 4) (s : State) : (s.dropCandidates p).pins = s.pins := rfl
@[simp] theorem State.dropCandidates_pods (p : Fin 4) (s : State) : (s.dropCandidates p).pods = s.pods := rfl
@[simp] theorem State.dropCandidates_decoders (p : Fin 4) (s : State) : (s.dropCandidates p).decoders = s.decoders := rfl
@[simp] theorem State.dropCandidates_store (p : Fin 4) (s : State) : (s.dropCandidates p).store = s.store := rfl
@[simp] theorem State.dropCandidates_meters (p : Fin 4) (s : State) : (s.dropCandidates p).meters = s.meters := rfl
@[simp] theorem State.dropCandidates_watch (p : Fin 4) (s : State) : (s.dropCandidates p).watch = s.watch := rfl
@[simp] theorem State.dropCandidates_display (p : Fin 4) (s : State) : (s.dropCandidates p).display = s.display := rfl
@[simp] theorem State.dropCandidates_panel (p : Fin 4) (s : State) : (s.dropCandidates p).panel = s.panel := rfl
@[simp] theorem State.dropCandidates_backlight (p : Fin 4) (s : State) : (s.dropCandidates p).backlight = s.backlight := rfl
@[simp] theorem State.dropCandidates_port (p : Fin 4) (s : State) : (s.dropCandidates p).port = s.port := rfl
@[simp] theorem State.dropCandidates_pending (p : Fin 4) (s : State) : (s.dropCandidates p).pending = s.pending := rfl

/-! ### loadLevels -/

@[simp] theorem State.loadLevels_clock (p : Fin 4) (s : State) : (s.loadLevels p).clock = s.clock := rfl
@[simp] theorem State.loadLevels_pins (p : Fin 4) (s : State) : (s.loadLevels p).pins = s.pins := rfl
@[simp] theorem State.loadLevels_pods (p : Fin 4) (s : State) : (s.loadLevels p).pods = s.pods := rfl
@[simp] theorem State.loadLevels_decoders (p : Fin 4) (s : State) : (s.loadLevels p).decoders = s.decoders := rfl
@[simp] theorem State.loadLevels_store (p : Fin 4) (s : State) : (s.loadLevels p).store = s.store := rfl
@[simp] theorem State.loadLevels_meters (p : Fin 4) (s : State) : (s.loadLevels p).meters = s.meters := rfl
@[simp] theorem State.loadLevels_watch (p : Fin 4) (s : State) : (s.loadLevels p).watch = s.watch := rfl
@[simp] theorem State.loadLevels_display (p : Fin 4) (s : State) : (s.loadLevels p).display = s.display := rfl
@[simp] theorem State.loadLevels_panel (p : Fin 4) (s : State) : (s.loadLevels p).panel = s.panel := rfl
@[simp] theorem State.loadLevels_backlight (p : Fin 4) (s : State) : (s.loadLevels p).backlight = s.backlight := rfl
@[simp] theorem State.loadLevels_port (p : Fin 4) (s : State) : (s.loadLevels p).port = s.port := rfl
@[simp] theorem State.loadLevels_pending (p : Fin 4) (s : State) : (s.loadLevels p).pending = s.pending := rfl

/-! ### setWidths -/

@[simp] theorem State.setWidths_clock (p : Fin 4) (w : Vector (Fin 8) 8) (s : State) : (s.setWidths p w).clock = s.clock := rfl
@[simp] theorem State.setWidths_pins (p : Fin 4) (w : Vector (Fin 8) 8) (s : State) : (s.setWidths p w).pins = s.pins := rfl
@[simp] theorem State.setWidths_pods (p : Fin 4) (w : Vector (Fin 8) 8) (s : State) : (s.setWidths p w).pods = s.pods := rfl
@[simp] theorem State.setWidths_decoders (p : Fin 4) (w : Vector (Fin 8) 8) (s : State) : (s.setWidths p w).decoders = s.decoders := rfl
@[simp] theorem State.setWidths_store (p : Fin 4) (w : Vector (Fin 8) 8) (s : State) : (s.setWidths p w).store = s.store := rfl
@[simp] theorem State.setWidths_meters (p : Fin 4) (w : Vector (Fin 8) 8) (s : State) : (s.setWidths p w).meters = s.meters := rfl
@[simp] theorem State.setWidths_watch (p : Fin 4) (w : Vector (Fin 8) 8) (s : State) : (s.setWidths p w).watch = s.watch := rfl
@[simp] theorem State.setWidths_display (p : Fin 4) (w : Vector (Fin 8) 8) (s : State) : (s.setWidths p w).display = s.display := rfl
@[simp] theorem State.setWidths_panel (p : Fin 4) (w : Vector (Fin 8) 8) (s : State) : (s.setWidths p w).panel = s.panel := rfl
@[simp] theorem State.setWidths_backlight (p : Fin 4) (w : Vector (Fin 8) 8) (s : State) : (s.setWidths p w).backlight = s.backlight := rfl
@[simp] theorem State.setWidths_port (p : Fin 4) (w : Vector (Fin 8) 8) (s : State) : (s.setWidths p w).port = s.port := rfl
@[simp] theorem State.setWidths_pending (p : Fin 4) (w : Vector (Fin 8) 8) (s : State) : (s.setWidths p w).pending = s.pending := rfl

/-! ### setPane -/

@[simp] theorem State.setPane_clock (i : Fin 16) (p : Pane) (s : State) : (s.setPane i p).clock = s.clock := rfl
@[simp] theorem State.setPane_pins (i : Fin 16) (p : Pane) (s : State) : (s.setPane i p).pins = s.pins := rfl
@[simp] theorem State.setPane_pods (i : Fin 16) (p : Pane) (s : State) : (s.setPane i p).pods = s.pods := rfl
@[simp] theorem State.setPane_channels (i : Fin 16) (p : Pane) (s : State) : (s.setPane i p).channels = s.channels := rfl
@[simp] theorem State.setPane_decoders (i : Fin 16) (p : Pane) (s : State) : (s.setPane i p).decoders = s.decoders := rfl
@[simp] theorem State.setPane_store (i : Fin 16) (p : Pane) (s : State) : (s.setPane i p).store = s.store := rfl
@[simp] theorem State.setPane_meters (i : Fin 16) (p : Pane) (s : State) : (s.setPane i p).meters = s.meters := rfl
@[simp] theorem State.setPane_watch (i : Fin 16) (p : Pane) (s : State) : (s.setPane i p).watch = s.watch := rfl
@[simp] theorem State.setPane_panel (i : Fin 16) (p : Pane) (s : State) : (s.setPane i p).panel = s.panel := rfl
@[simp] theorem State.setPane_backlight (i : Fin 16) (p : Pane) (s : State) : (s.setPane i p).backlight = s.backlight := rfl
@[simp] theorem State.setPane_port (i : Fin 16) (p : Pane) (s : State) : (s.setPane i p).port = s.port := rfl
@[simp] theorem State.setPane_pending (i : Fin 16) (p : Pane) (s : State) : (s.setPane i p).pending = s.pending := rfl

/-! ### write -/

@[simp] theorem State.write_clock (r : Rect) (c : Nat → Nat → GridCell) (s : State) : (s.write r c).clock = s.clock := rfl
@[simp] theorem State.write_pins (r : Rect) (c : Nat → Nat → GridCell) (s : State) : (s.write r c).pins = s.pins := rfl
@[simp] theorem State.write_pods (r : Rect) (c : Nat → Nat → GridCell) (s : State) : (s.write r c).pods = s.pods := rfl
@[simp] theorem State.write_channels (r : Rect) (c : Nat → Nat → GridCell) (s : State) : (s.write r c).channels = s.channels := rfl
@[simp] theorem State.write_decoders (r : Rect) (c : Nat → Nat → GridCell) (s : State) : (s.write r c).decoders = s.decoders := rfl
@[simp] theorem State.write_store (r : Rect) (c : Nat → Nat → GridCell) (s : State) : (s.write r c).store = s.store := rfl
@[simp] theorem State.write_meters (r : Rect) (c : Nat → Nat → GridCell) (s : State) : (s.write r c).meters = s.meters := rfl
@[simp] theorem State.write_watch (r : Rect) (c : Nat → Nat → GridCell) (s : State) : (s.write r c).watch = s.watch := rfl
@[simp] theorem State.write_backlight (r : Rect) (c : Nat → Nat → GridCell) (s : State) : (s.write r c).backlight = s.backlight := rfl
@[simp] theorem State.write_port (r : Rect) (c : Nat → Nat → GridCell) (s : State) : (s.write r c).port = s.port := rfl
@[simp] theorem State.write_pending (r : Rect) (c : Nat → Nat → GridCell) (s : State) : (s.write r c).pending = s.pending := rfl

/-! ### blank -/

@[simp] theorem State.blank_clock (r : Rect) (s : State) : (s.blank r).clock = s.clock := rfl
@[simp] theorem State.blank_pins (r : Rect) (s : State) : (s.blank r).pins = s.pins := rfl
@[simp] theorem State.blank_pods (r : Rect) (s : State) : (s.blank r).pods = s.pods := rfl
@[simp] theorem State.blank_channels (r : Rect) (s : State) : (s.blank r).channels = s.channels := rfl
@[simp] theorem State.blank_decoders (r : Rect) (s : State) : (s.blank r).decoders = s.decoders := rfl
@[simp] theorem State.blank_store (r : Rect) (s : State) : (s.blank r).store = s.store := rfl
@[simp] theorem State.blank_meters (r : Rect) (s : State) : (s.blank r).meters = s.meters := rfl
@[simp] theorem State.blank_watch (r : Rect) (s : State) : (s.blank r).watch = s.watch := rfl
@[simp] theorem State.blank_backlight (r : Rect) (s : State) : (s.blank r).backlight = s.backlight := rfl
@[simp] theorem State.blank_port (r : Rect) (s : State) : (s.blank r).port = s.port := rfl
@[simp] theorem State.blank_pending (r : Rect) (s : State) : (s.blank r).pending = s.pending := rfl

/-! ### nextInterval -/

@[simp] theorem State.nextInterval_clock (s : State) : (s.nextInterval).clock = s.clock := rfl
@[simp] theorem State.nextInterval_pins (s : State) : (s.nextInterval).pins = s.pins := rfl
@[simp] theorem State.nextInterval_pods (s : State) : (s.nextInterval).pods = s.pods := rfl
@[simp] theorem State.nextInterval_channels (s : State) : (s.nextInterval).channels = s.channels := rfl
@[simp] theorem State.nextInterval_decoders (s : State) : (s.nextInterval).decoders = s.decoders := rfl
@[simp] theorem State.nextInterval_store (s : State) : (s.nextInterval).store = s.store := rfl
@[simp] theorem State.nextInterval_meters (s : State) : (s.nextInterval).meters = s.meters := rfl
@[simp] theorem State.nextInterval_watch (s : State) : (s.nextInterval).watch = s.watch := rfl
@[simp] theorem State.nextInterval_panel (s : State) : (s.nextInterval).panel = s.panel := rfl
@[simp] theorem State.nextInterval_backlight (s : State) : (s.nextInterval).backlight = s.backlight := rfl
@[simp] theorem State.nextInterval_port (s : State) : (s.nextInterval).port = s.port := rfl
@[simp] theorem State.nextInterval_pending (s : State) : (s.nextInterval).pending = s.pending := rfl

/-! ### putCells -/

@[simp] theorem State.putCells_clock (i : Fin 64) (r : Record) (cs : List TargetCell) (n : Nat) (s : State) : (s.putCells i r cs n).clock = s.clock := rfl
@[simp] theorem State.putCells_pins (i : Fin 64) (r : Record) (cs : List TargetCell) (n : Nat) (s : State) : (s.putCells i r cs n).pins = s.pins := rfl
@[simp] theorem State.putCells_pods (i : Fin 64) (r : Record) (cs : List TargetCell) (n : Nat) (s : State) : (s.putCells i r cs n).pods = s.pods := rfl
@[simp] theorem State.putCells_channels (i : Fin 64) (r : Record) (cs : List TargetCell) (n : Nat) (s : State) : (s.putCells i r cs n).channels = s.channels := rfl
@[simp] theorem State.putCells_decoders (i : Fin 64) (r : Record) (cs : List TargetCell) (n : Nat) (s : State) : (s.putCells i r cs n).decoders = s.decoders := rfl
@[simp] theorem State.putCells_meters (i : Fin 64) (r : Record) (cs : List TargetCell) (n : Nat) (s : State) : (s.putCells i r cs n).meters = s.meters := rfl
@[simp] theorem State.putCells_watch (i : Fin 64) (r : Record) (cs : List TargetCell) (n : Nat) (s : State) : (s.putCells i r cs n).watch = s.watch := rfl
@[simp] theorem State.putCells_display (i : Fin 64) (r : Record) (cs : List TargetCell) (n : Nat) (s : State) : (s.putCells i r cs n).display = s.display := rfl
@[simp] theorem State.putCells_panel (i : Fin 64) (r : Record) (cs : List TargetCell) (n : Nat) (s : State) : (s.putCells i r cs n).panel = s.panel := rfl
@[simp] theorem State.putCells_backlight (i : Fin 64) (r : Record) (cs : List TargetCell) (n : Nat) (s : State) : (s.putCells i r cs n).backlight = s.backlight := rfl
@[simp] theorem State.putCells_port (i : Fin 64) (r : Record) (cs : List TargetCell) (n : Nat) (s : State) : (s.putCells i r cs n).port = s.port := rfl
@[simp] theorem State.putCells_pending (i : Fin 64) (r : Record) (cs : List TargetCell) (n : Nat) (s : State) : (s.putCells i r cs n).pending = s.pending := rfl

/-! ### stopSources -/

@[simp] theorem State.stopSources_clock (s : State) : (s.stopSources).clock = s.clock := rfl
@[simp] theorem State.stopSources_pins (s : State) : (s.stopSources).pins = s.pins := rfl
@[simp] theorem State.stopSources_pods (s : State) : (s.stopSources).pods = s.pods := rfl
@[simp] theorem State.stopSources_channels (s : State) : (s.stopSources).channels = s.channels := rfl
@[simp] theorem State.stopSources_store (s : State) : (s.stopSources).store = s.store := rfl
@[simp] theorem State.stopSources_watch (s : State) : (s.stopSources).watch = s.watch := rfl
@[simp] theorem State.stopSources_display (s : State) : (s.stopSources).display = s.display := rfl
@[simp] theorem State.stopSources_panel (s : State) : (s.stopSources).panel = s.panel := rfl
@[simp] theorem State.stopSources_backlight (s : State) : (s.stopSources).backlight = s.backlight := rfl
@[simp] theorem State.stopSources_port (s : State) : (s.stopSources).port = s.port := rfl
@[simp] theorem State.stopSources_pending (s : State) : (s.stopSources).pending = s.pending := rfl

/-! ### emptyRecords -/

@[simp] theorem State.emptyRecords_clock (s : State) : (s.emptyRecords).clock = s.clock := rfl
@[simp] theorem State.emptyRecords_pins (s : State) : (s.emptyRecords).pins = s.pins := rfl
@[simp] theorem State.emptyRecords_pods (s : State) : (s.emptyRecords).pods = s.pods := rfl
@[simp] theorem State.emptyRecords_channels (s : State) : (s.emptyRecords).channels = s.channels := rfl
@[simp] theorem State.emptyRecords_decoders (s : State) : (s.emptyRecords).decoders = s.decoders := rfl
@[simp] theorem State.emptyRecords_meters (s : State) : (s.emptyRecords).meters = s.meters := rfl
@[simp] theorem State.emptyRecords_port (s : State) : (s.emptyRecords).port = s.port := rfl
@[simp] theorem State.emptyRecords_pending (s : State) : (s.emptyRecords).pending = s.pending := rfl

/-! ### The fields that those updates change -/

@[simp] theorem State.advance_now (t : Nat) (s : State) : (s.advance t).clock.now = max s.clock.now t := rfl
@[simp] theorem State.advance_ms (t : Nat) (s : State) : (s.advance t).clock.ms = s.clock.ms := rfl
@[simp] theorem State.advance_nextMsAt (t : Nat) (s : State) : (s.advance t).clock.nextMsAt = s.clock.nextMsAt := rfl
@[simp] theorem State.setLbusy_lbusy (l : Bool) (s : State) : (s.setLbusy l).pins.lbusy = l := rfl
@[simp] theorem State.setLbusy_levels (l : Bool) (s : State) : (s.setLbusy l).pins.levels = s.pins.levels := rfl
@[simp] theorem State.setLbusy_sense (l : Bool) (s : State) : (s.setLbusy l).pins.sense = s.pins.sense := rfl
@[simp] theorem Pins.setLevel_lbusy (p : Pins) (c : Fin 32) (l : Bool) : (p.setLevel c l).lbusy = p.lbusy := rfl
@[simp] theorem Pins.setPodLevels_lbusy (p : Pins) (q : Fin 4) (l : BitVec 8) : (p.setPodLevels q l).lbusy = p.lbusy := rfl
@[simp] theorem Pins.setSense_lbusy (p : Pins) (q : Fin 4) (l : Bool) : (p.setSense q l).lbusy = p.lbusy := rfl
@[simp] theorem State.setChannel_lbusy (c : Fin 32) (ch : Channel) (l : Bool) (s : State) :
    (s.setChannel c ch l).pins.lbusy = s.pins.lbusy := rfl
@[simp] theorem State.withPanes_panes (ps : Vector Pane 16) (s : State) : (s.withPanes ps).display.panes = ps := rfl
@[simp] theorem State.withPanes_grid (ps : Vector Pane 16) (s : State) : (s.withPanes ps).display.grid = s.display.grid := rfl
@[simp] theorem State.withPanes_interval (ps : Vector Pane 16) (s : State) :
    (s.withPanes ps).display.interval = s.display.interval := rfl
@[simp] theorem State.withPanes_nextTick (ps : Vector Pane 16) (s : State) :
    (s.withPanes ps).display.nextTick = s.display.nextTick := rfl
@[simp] theorem State.answered_port (st : Status) (p : List Byte) (s : State) :
    (s.answered st p).port = { s.port with request := none, answer := some { status := st, payload := p } } := rfl
@[simp] theorem State.ok_port (s : State) :
    s.ok.port = { s.port with request := none, answer := some { status := .ok, payload := [] } } := rfl
@[simp] theorem State.refuse_port (st : Status) (s : State) :
    (s.refuse st).port = { s.port with request := none, answer := some { status := st, payload := [] } } := rfl
@[simp] theorem State.gather_request (later : List StatusOwner) (s : State) : (s.gather later).port.request = s.port.request := rfl
@[simp] theorem State.gather_answer (later : List StatusOwner) (s : State) : (s.gather later).port.answer = s.port.answer := rfl
@[simp] theorem State.gather_state (later : List StatusOwner) (s : State) : (s.gather later).port.state = s.port.state := rfl
@[simp] theorem State.answerStatus_port (s : State) :
    s.answerStatus.port = { s.port with
      request := none
      answer := some { status := .ok, payload := statusOwners.flatMap s.givenItems }
      gathered := [] } := rfl
@[simp] theorem State.stopSources_decoders (s : State) : s.stopSources.decoders = Vector.replicate 6 Decoder.reset := rfl
@[simp] theorem State.stopSources_meters (s : State) : s.stopSources.meters = Vector.replicate 8 Meter.reset := rfl

end Sys2Proof.Machine
end

