-- ==== Sys2Proof/Laws/Ops.lean ====
section
/-! SUPPORT. The operations of Machine/Ops.lean: what a table, a mask and a set hold, and what a fold keeps. -/

namespace Sys2Proof.Machine

/-! ### Tables and sets -/

@[simp] theorem tab_get {α : Type} {n : Nat} (f : Fin n → α) (i : Fin n) : (tab f)[i] = f i := by
  simp [tab]

@[simp] theorem tab_getNat {α : Type} {n : Nat} (f : Fin n → α) (i : Nat) (h : i < n) : (tab f)[i] = f ⟨i, h⟩ := by
  simp [tab]

theorem vset_get {α : Type} {n : Nat} (v : Vector α n) (i j : Fin n) (x : α) :
    (v.set i x)[j] = if i = j then x else v[j] := by
  simp [Vector.getElem_set, Fin.ext_iff]

@[simp] theorem vset_same {α : Type} {n : Nat} (v : Vector α n) (i : Fin n) (x : α) : (v.set i x)[i] = x := by
  simp

theorem vset_other {α : Type} {n : Nat} (v : Vector α n) {i j : Fin n} (x : α) (h : i ≠ j) : (v.set i x)[j] = v[j] := by
  rw [vset_get, if_neg h]

theorem vec_ext {α : Type} {n : Nat} {v w : Vector α n} (h : ∀ i : Fin n, v[i] = w[i]) : v = w := by
  ext i hi
  exact h ⟨i, hi⟩

@[simp] theorem vset_self {α : Type} {n : Nat} (v : Vector α n) (i : Fin n) : v.set i v[i] = v := by
  simp

@[simp] theorem replicate_get {α : Type} (n : Nat) (x : α) (i : Fin n) : (Vector.replicate n x)[i] = x := by
  simp

/-! ### Masks -/

theorem maskOf_foldl {n : Nat} (f : Fin n → Bool) (l : List (Fin n)) (acc : BitVec n) (i : Fin n) :
    (l.foldl (fun acc i => if f i then acc ||| BitVec.twoPow n i else acc) acc).getLsbD i =
      (acc.getLsbD i || (decide (i ∈ l) && f i)) := by
  induction l generalizing acc with
  | nil => simp
  | cons a l ih =>
    rw [List.foldl_cons, ih]
    by_cases h : a = i
    · subst h
      by_cases hf : f a <;> simp [hf]
    · have h' : i ≠ a := fun e => h e.symm
      have hv : i.val ≠ a.val := fun e => h' (Fin.ext e)
      by_cases hf : f a <;> simp [hf, h', hv]

@[simp] theorem maskOf_getLsbD {n : Nat} (f : Fin n → Bool) (i : Fin n) : (maskOf f).getLsbD i = f i := by
  rw [maskOf, maskOf_foldl]
  simp

theorem mask_ext {n : Nat} {a b : BitVec n} (h : ∀ i : Fin n, a.getLsbD i = b.getLsbD i) : a = b := by
  apply BitVec.eq_of_getLsbD_eq
  intro i hi
  exact h ⟨i, hi⟩

theorem maskOf_eq_zero {n : Nat} (f : Fin n → Bool) : maskOf f = 0 ↔ ∀ i, f i = false := by
  constructor
  · intro h i
    rw [← maskOf_getLsbD f i, h]
    simp
  · intro h
    apply mask_ext
    intro i
    rw [maskOf_getLsbD, h]
    simp

theorem mask_ne_zero {n : Nat} {m : BitVec n} : m ≠ 0 ↔ ∃ i : Fin n, m.getLsbD i = true := by
  constructor
  · intro h
    by_contra hn
    apply h
    apply mask_ext
    intro i
    have hi : m.getLsbD i = false := by
      cases e : m.getLsbD i
      · rfl
      · exact absurd ⟨i, e⟩ hn
    rw [hi]
    simp
  · rintro ⟨i, hi⟩ rfl
    simp at hi

/-! ### Resource numbers -/

theorem index?_eq_some {n : Nat} {b : Byte} {i : Fin n} : index? n b = some i ↔ b.toNat = i.val := by
  unfold index?
  split
  · constructor
    · intro h
      simp only [Option.some.injEq] at h
      simp [← h]
    · intro h
      simp [h]
  · rename_i h
    constructor
    · intro h'
      simp at h'
    · intro h'
      exact absurd (h' ▸ i.isLt) h

theorem index?_eq_none {n : Nat} {b : Byte} : index? n b = none ↔ n ≤ b.toNat := by
  unfold index?
  split <;> simp <;> omega

/-! ### Folds -/

/-- What every element's update keeps, the fold keeps. -/
theorem foldl_keeps {α β σ : Type} (g : σ → β) (f : σ → α → σ) (h : ∀ s a, g (f s a) = g s) (l : List α) (s : σ) :
    g (l.foldl f s) = g s := by
  induction l generalizing s with
  | nil => rfl
  | cons a l ih => rw [List.foldl_cons, ih, h]

/-- A property that every element's update keeps, the fold keeps. -/
theorem foldl_inv {α σ : Type} (P : σ → Prop) (f : σ → α → σ) (h : ∀ s a, P s → P (f s a)) (l : List α) (s : σ)
    (hs : P s) : P (l.foldl f s) := by
  induction l generalizing s with
  | nil => exact hs
  | cons a l ih => exact ih _ (h _ _ hs)

/-! ### Handles -/

theorem Store.reach_some {st : Store} {h : Handle} {i : Fin 64} {r : Record} :
    st.reach h = some (i, r) ↔ h.slot.toNat = i.val ∧ st.slots[i].record = some r ∧ st.slots[i].gen = h.gen := by
  unfold Store.reach
  constructor
  · intro hr
    split at hr
    · exact absurd hr (by simp)
    · rename_i j hj
      split at hr
      · exact absurd hr (by simp)
      · rename_i r' hr'
        split at hr
        · rename_i hg
          simp only [Option.some.injEq, Prod.mk.injEq] at hr
          obtain ⟨rfl, rfl⟩ := hr
          exact ⟨index?_eq_some.mp hj, hr', hg⟩
        · exact absurd hr (by simp)
  · rintro ⟨h1, h2, h3⟩
    rw [index?_eq_some.mpr h1]
    simp only [h2, h3, if_true]

end Sys2Proof.Machine
end

