-- ==== Sys2Proof/Laws/Cells.lean ====
section
/-! SUPPORT. What the store's operations on keys, slots and a record's cells give (R23 to R26). -/

namespace Sys2Proof.Machine

/-! ### Keys, slots and handles -/

/-- With no key twice, the record of a key is found in its slot. -/
theorem Store.find_of_record {st : Store} (keys : ∀ (i j : Fin 64) (a b : Record), st.slots[i].record = some a → st.slots[j].record = some b →
            a.decoder = b.decoder → a.address = b.address → i = j) {i : Fin 64} {r : Record} (h : st.slots[i].record = some r) :
    st.find r.decoder r.address = some i := by
  unfold Store.find
  cases e : (List.finRange 64).find? fun i => (st.slots[i].record).any (Record.hasKey r.decoder r.address) with
  | none =>
    rw [List.find?_eq_none] at e
    have := e i (by simp)
    rw [h] at this
    simp [Record.hasKey] at this
  | some j =>
    have hj := List.find?_some e
    cases hr : st.slots[j].record with
    | none => rw [hr] at hj; simp at hj
    | some x =>
      rw [hr] at hj
      simp [Record.hasKey] at hj
      rw [keys j i x r hr h hj.1 hj.2]

/-- No slot has the key exactly when none is found. -/
theorem Store.find_none {st : Store} {d : Fin 6} {a : Byte} : st.find d a = none ↔ ∀ (i : Fin 64) (r : Record), st.slots[i].record = some r → ¬ (r.decoder = d ∧ r.address = a) := by
  unfold Store.find
  rw [List.find?_eq_none]
  constructor
  · intro h i r e
    have := h i (by simp)
    rw [e] at this
    simpa [Record.hasKey] using this
  · intro h i _
    cases hr : st.slots[i].record with
    | none => simp
    | some r => simpa [Record.hasKey] using h i r hr

/-- The lowest slot without a record is the free slot. -/
theorem Store.freeSlot_of_lowest {st : Store} {i : Fin 64} (h : st.slots[i].record = none) (k : ∀ j : Fin 64, j < i → st.slots[j].record ≠ none) : st.freeSlot = some i := by
  unfold Store.freeSlot
  rw [List.find?_eq_some_iff_append]
  refine ⟨by rw [h]; rfl, ?_⟩
  refine ⟨(List.finRange 64).take i, (List.finRange 64).drop (i+1), ?_, ?_⟩
  · conv_lhs => rw [← List.take_append_drop i.val (List.finRange 64)]
    congr 1
    rw [List.drop_eq_getElem_cons (by simp)]
    simp
  · intro a ha
    rw [List.mem_take_iff_getElem] at ha
    obtain ⟨n, hi, rfl⟩ := ha
    simp at hi ⊢
    have := k ⟨n, by omega⟩ (by rw [Fin.lt_def]; exact hi)
    simpa [Option.isSome_iff_ne_none] using this

/-- A full store has no free slot. -/
theorem Store.freeSlot_none {st : Store} (h : ∀ i : Fin 64, st.slots[i].record ≠ none) : st.freeSlot = none := by
  unfold Store.freeSlot
  rw [List.find?_eq_none]
  intro i _
  simpa [Option.isNone_iff_eq_none] using h i

/-- A handle with the slot and its present generation reaches the record. -/
theorem Store.reach_of {st : Store} {h : Handle} {i : Fin 64} {r : Record} (e : h.slot = byte i) (k : st.slots[i].record = some r) (g : st.slots[i].gen = h.gen) : st.reach h = some (i, r) := by
  exact Store.reach_some.2 ⟨by rw [e]; simp [byte]; omega, k, g⟩

/-! ### The cells of a record -/

/-- The cell at a register of a list with a first cell. -/
theorem cellAt_cons (k : Byte) (c : TargetCell) (cs : List TargetCell) : cellAt k (c :: cs) = if c.register = k then some c else cellAt k cs := by
  unfold cellAt
  rw [List.find?_cons]
  by_cases h : c.register = k
  · simp [h]
  · have : (c.register == k) = false := by simpa using h
    rw [this]; simp [h]

/-- The cell found at a register has that register. -/
theorem cellAt_reg {k : Byte} {cs : List TargetCell} {c : TargetCell} (h : cellAt k cs = some c) : c.register = k := by
  have := List.find?_some h; simpa using this

/-- The cell found is one of the cells. -/
theorem cellAt_mem {k : Byte} {cs : List TargetCell} {c : TargetCell} (h : cellAt k cs = some c) : c ∈ cs := List.mem_of_find?_eq_some h

/-- No cell is found exactly when none has the register. -/
theorem cellAt_none {k : Byte} {cs : List TargetCell} : cellAt k cs = none ↔ ∀ c ∈ cs, c.register ≠ k := by
  unfold cellAt; rw [List.find?_eq_none]; simp

/-- An update of the cell at one register, which keeps its register. -/
theorem cellAt_update (reg k : Byte) (f : TargetCell → TargetCell) (hf : ∀ c, (f c).register = c.register) (cs : List TargetCell) :
    cellAt k (updateCell reg f cs) = if k = reg then (cellAt reg cs).map f else cellAt k cs := by
  induction cs with
  | nil => unfold updateCell cellAt; split <;> rfl
  | cons c cs ih =>
    have e : updateCell reg f (c :: cs) = (if c.register = reg then f c else c) :: updateCell reg f cs := rfl
    rw [e, cellAt_cons, ih]
    by_cases hc : c.register = reg
    · rw [if_pos hc, hf, cellAt_cons, cellAt_cons, if_pos hc, hc]
      by_cases hk : k = reg
      · simp [hk]
      · simp [hk, Ne.symm hk]
    · rw [if_neg hc, cellAt_cons, cellAt_cons, if_neg hc]
      by_cases hk : k = reg
      · subst hk; simp [hc]
      · simp [hk]

/-- An insertion at a register that has no cell. -/
theorem cellAt_insert (c : TargetCell) (k : Byte) (cs : List TargetCell) (h : cellAt c.register cs = none) :
    cellAt k (insertCell c cs) = if k = c.register then some c else cellAt k cs := by
  induction cs with
  | nil =>
    unfold insertCell; rw [cellAt_cons]
    by_cases hk : k = c.register
    · simp [hk]
    · simp [hk, Ne.symm hk]
  | cons x xs ih =>
    rw [cellAt_cons] at h
    have hx : x.register ≠ c.register := by intro e; rw [if_pos e] at h; cases h
    rw [if_neg hx] at h
    unfold insertCell
    split
    · rw [cellAt_cons]
      by_cases hk : k = c.register
      · subst hk; simp
      · rw [if_neg (Ne.symm hk), if_neg hk]
    · rw [cellAt_cons, cellAt_cons, ih h]
      by_cases hk : k = c.register
      · subst hk; simp [hx]
      · simp [hk]

/-- A removal. -/
theorem cellAt_remove (reg k : Byte) (cs : List TargetCell) : cellAt k (removeCell reg cs) = if k = reg then none else cellAt k cs := by
  induction cs with
  | nil => unfold removeCell cellAt; split <;> rfl
  | cons c cs ih =>
    by_cases hc : c.register = reg
    · have e : removeCell reg (c :: cs) = removeCell reg cs := by simp [removeCell, hc]
      rw [e, ih, cellAt_cons, hc]
      by_cases hk : k = reg
      · simp [hk]
      · simp [hk, Ne.symm hk]
    · have e : removeCell reg (c :: cs) = c :: removeCell reg cs := by simp [removeCell, hc]
      rw [e, cellAt_cons, cellAt_cons, ih]
      by_cases hk : k = reg
      · subst hk; simp [hc]
      · simp [hk]

/-- An update keeps the order. -/
theorem updateCell_sorted (reg : Byte) (f : TargetCell → TargetCell) (hf : ∀ c, (f c).register = c.register) {cs : List TargetCell} (h : cs.Pairwise fun a b => a.register < b.register) : (updateCell reg f cs).Pairwise fun a b => a.register < b.register := by
  unfold updateCell
  rw [List.pairwise_map]
  refine h.imp ?_
  intro a b hab
  split <;> split <;> (try simp only [hf]) <;> exact hab

/-- An insertion adds one cell. -/
theorem insertCell_length (c : TargetCell) (cs : List TargetCell) : (insertCell c cs).length = cs.length + 1 := by
  induction cs with
  | nil => rfl
  | cons x xs ih => unfold insertCell; split <;> simp [ih]

/-- The cells after an insertion. -/
theorem mem_of_insertCell {c x : TargetCell} {cs : List TargetCell} (h : x ∈ insertCell c cs) : x = c ∨ x ∈ cs := by
  induction cs with
  | nil => simpa [insertCell] using h
  | cons y ys ih =>
    unfold insertCell at h
    split at h
    · simpa using h
    · rcases List.mem_cons.1 h with h | h
      · exact Or.inr (by simp [h])
      · rcases ih h with h | h
        · exact Or.inl h
        · exact Or.inr (by simp [h])

/-- An insertion at a register without a cell keeps the order. -/
theorem insertCell_sorted {c : TargetCell} {cs : List TargetCell} (h : cs.Pairwise fun a b => a.register < b.register) (k : cellAt c.register cs = none) : (insertCell c cs).Pairwise fun a b => a.register < b.register := by
  induction cs with
  | nil => simp [insertCell]
  | cons x xs ih =>
    have hx : x.register ≠ c.register := cellAt_none.1 k x (by simp)
    have kx : cellAt c.register xs = none := cellAt_none.2 fun y hy => cellAt_none.1 k y (by simp [hy])
    unfold insertCell
    have hp := List.pairwise_cons.1 h
    split
    · rename_i hlt
      refine List.pairwise_cons.2 ⟨?_, h⟩
      intro y hy
      rcases List.mem_cons.1 hy with rfl | hy
      · exact hlt
      · exact BitVec.lt_trans hlt (hp.1 y hy)
    · rename_i hlt
      refine List.pairwise_cons.2 ⟨?_, ih hp.2 kx⟩
      intro y hy
      rcases mem_of_insertCell hy with rfl | hy
      · rw [BitVec.lt_def] at *
        have : x.register.toNat ≠ y.register.toNat := fun e => hx (BitVec.eq_of_toNat_eq e)
        omega
      · exact hp.1 y hy

/-- A removal keeps the order. -/
theorem removeCell_sorted (reg : Byte) {cs : List TargetCell} (h : cs.Pairwise fun a b => a.register < b.register) : (removeCell reg cs).Pairwise fun a b => a.register < b.register := h.filter _

/-- In ordered cells a removal takes one cell away. -/
theorem removeCell_length {reg : Byte} {cs : List TargetCell} {c : TargetCell} (h : cs.Pairwise fun a b => a.register < b.register) (k : cellAt reg cs = some c) : (removeCell reg cs).length + 1 = cs.length := by
  induction cs with
  | nil => cases k
  | cons x xs ih =>
    have hp := List.pairwise_cons.1 h
    rw [cellAt_cons] at k
    by_cases hx : x.register = reg
    · have e : removeCell reg (x :: xs) = removeCell reg xs := by simp [removeCell, hx]
      rw [e]
      have : removeCell reg xs = xs := by
        unfold removeCell; rw [List.filter_eq_self]
        intro y hy
        have := hp.1 y hy
        rw [hx] at this
        simp only [bne_iff_ne, ne_eq]
        intro e2; rw [e2] at this; exact absurd this (BitVec.lt_irrefl _)
      rw [this]; simp
    · rw [if_neg hx] at k
      have e : removeCell reg (x :: xs) = x :: removeCell reg xs := by simp [removeCell, hx]
      rw [e]; simp [ih hp.2 k]

end Sys2Proof.Machine
end

