-- ==== Sys2Proof/Laws/Reports.lean ====
section
/-! SUPPORT. What reports leave alone: one lemma per field that a report does not touch. -/

namespace Sys2Proof.Machine

/-! ### derive -/

@[simp] theorem State.derive_clock (s : State) : (s.derive).clock = s.clock := by
  unfold State.derive; (try dsimp only); (repeat' split) <;> simp
@[simp] theorem State.derive_pins (s : State) : (s.derive).pins = s.pins := by
  unfold State.derive; (try dsimp only); (repeat' split) <;> simp
@[simp] theorem State.derive_pods (s : State) : (s.derive).pods = s.pods := by
  unfold State.derive; (try dsimp only); (repeat' split) <;> simp
@[simp] theorem State.derive_channels (s : State) : (s.derive).channels = s.channels := by
  unfold State.derive; (try dsimp only); (repeat' split) <;> simp
@[simp] theorem State.derive_decoders (s : State) : (s.derive).decoders = s.decoders := by
  unfold State.derive; (try dsimp only); (repeat' split) <;> simp
@[simp] theorem State.derive_store (s : State) : (s.derive).store = s.store := by
  unfold State.derive; (try dsimp only); (repeat' split) <;> simp
@[simp] theorem State.derive_meters (s : State) : (s.derive).meters = s.meters := by
  unfold State.derive; (try dsimp only); (repeat' split) <;> simp
@[simp] theorem State.derive_panel (s : State) : (s.derive).panel = s.panel := by
  unfold State.derive; (try dsimp only); (repeat' split) <;> simp
@[simp] theorem State.derive_backlight (s : State) : (s.derive).backlight = s.backlight := by
  unfold State.derive; (try dsimp only); (repeat' split) <;> simp
@[simp] theorem State.derive_port (s : State) : (s.derive).port = s.port := by
  unfold State.derive; (try dsimp only); (repeat' split) <;> simp
@[simp] theorem State.derive_pending (s : State) : (s.derive).pending = s.pending := by
  unfold State.derive; (try dsimp only); (repeat' split) <;> simp

/-! ### watchReport -/

@[simp] theorem State.watchReport_clock (ch : Fin 32 → Bool) (s : State) : (s.watchReport ch).clock = s.clock := by
  unfold State.watchReport; (repeat' split) <;> simp
@[simp] theorem State.watchReport_pins (ch : Fin 32 → Bool) (s : State) : (s.watchReport ch).pins = s.pins := by
  unfold State.watchReport; (repeat' split) <;> simp
@[simp] theorem State.watchReport_pods (ch : Fin 32 → Bool) (s : State) : (s.watchReport ch).pods = s.pods := by
  unfold State.watchReport; (repeat' split) <;> simp
@[simp] theorem State.watchReport_channels (ch : Fin 32 → Bool) (s : State) : (s.watchReport ch).channels = s.channels := by
  unfold State.watchReport; (repeat' split) <;> simp
@[simp] theorem State.watchReport_decoders (ch : Fin 32 → Bool) (s : State) : (s.watchReport ch).decoders = s.decoders := by
  unfold State.watchReport; (repeat' split) <;> simp
@[simp] theorem State.watchReport_store (ch : Fin 32 → Bool) (s : State) : (s.watchReport ch).store = s.store := by
  unfold State.watchReport; (repeat' split) <;> simp
@[simp] theorem State.watchReport_meters (ch : Fin 32 → Bool) (s : State) : (s.watchReport ch).meters = s.meters := by
  unfold State.watchReport; (repeat' split) <;> simp
@[simp] theorem State.watchReport_panel (ch : Fin 32 → Bool) (s : State) : (s.watchReport ch).panel = s.panel := by
  unfold State.watchReport; (repeat' split) <;> simp
@[simp] theorem State.watchReport_backlight (ch : Fin 32 → Bool) (s : State) : (s.watchReport ch).backlight = s.backlight := by
  unfold State.watchReport; (repeat' split) <;> simp
@[simp] theorem State.watchReport_port (ch : Fin 32 → Bool) (s : State) : (s.watchReport ch).port = s.port := by
  unfold State.watchReport; (repeat' split) <;> simp
@[simp] theorem State.watchReport_pending (ch : Fin 32 → Bool) (s : State) : (s.watchReport ch).pending = s.pending := by
  unfold State.watchReport; (repeat' split) <;> simp

/-! ### setWatches -/

@[simp] theorem State.setWatches_clock (ws : Vector Watch 32) (s : State) : (s.setWatches ws).clock = s.clock := by
  simp [State.setWatches]
@[simp] theorem State.setWatches_pins (ws : Vector Watch 32) (s : State) : (s.setWatches ws).pins = s.pins := by
  simp [State.setWatches]
@[simp] theorem State.setWatches_pods (ws : Vector Watch 32) (s : State) : (s.setWatches ws).pods = s.pods := by
  simp [State.setWatches]
@[simp] theorem State.setWatches_channels (ws : Vector Watch 32) (s : State) : (s.setWatches ws).channels = s.channels := by
  simp [State.setWatches]
@[simp] theorem State.setWatches_decoders (ws : Vector Watch 32) (s : State) : (s.setWatches ws).decoders = s.decoders := by
  simp [State.setWatches]
@[simp] theorem State.setWatches_store (ws : Vector Watch 32) (s : State) : (s.setWatches ws).store = s.store := by
  simp [State.setWatches]
@[simp] theorem State.setWatches_meters (ws : Vector Watch 32) (s : State) : (s.setWatches ws).meters = s.meters := by
  simp [State.setWatches]
@[simp] theorem State.setWatches_panel (ws : Vector Watch 32) (s : State) : (s.setWatches ws).panel = s.panel := by
  simp [State.setWatches]
@[simp] theorem State.setWatches_backlight (ws : Vector Watch 32) (s : State) : (s.setWatches ws).backlight = s.backlight := by
  simp [State.setWatches]
@[simp] theorem State.setWatches_port (ws : Vector Watch 32) (s : State) : (s.setWatches ws).port = s.port := by
  simp [State.setWatches]
@[simp] theorem State.setWatches_pending (ws : Vector Watch 32) (s : State) : (s.setWatches ws).pending = s.pending := by
  simp [State.setWatches]

/-! ### evaluate -/

@[simp] theorem State.evaluate_clock (cov : Subject → Bool) (s : State) : (s.evaluate cov).clock = s.clock := by
  simp [State.evaluate]
@[simp] theorem State.evaluate_pins (cov : Subject → Bool) (s : State) : (s.evaluate cov).pins = s.pins := by
  simp [State.evaluate]
@[simp] theorem State.evaluate_pods (cov : Subject → Bool) (s : State) : (s.evaluate cov).pods = s.pods := by
  simp [State.evaluate]
@[simp] theorem State.evaluate_channels (cov : Subject → Bool) (s : State) : (s.evaluate cov).channels = s.channels := by
  simp [State.evaluate]
@[simp] theorem State.evaluate_decoders (cov : Subject → Bool) (s : State) : (s.evaluate cov).decoders = s.decoders := by
  simp [State.evaluate]
@[simp] theorem State.evaluate_store (cov : Subject → Bool) (s : State) : (s.evaluate cov).store = s.store := by
  simp [State.evaluate]
@[simp] theorem State.evaluate_meters (cov : Subject → Bool) (s : State) : (s.evaluate cov).meters = s.meters := by
  simp [State.evaluate]
@[simp] theorem State.evaluate_panel (cov : Subject → Bool) (s : State) : (s.evaluate cov).panel = s.panel := by
  simp [State.evaluate]
@[simp] theorem State.evaluate_backlight (cov : Subject → Bool) (s : State) : (s.evaluate cov).backlight = s.backlight := by
  simp [State.evaluate]
@[simp] theorem State.evaluate_port (cov : Subject → Bool) (s : State) : (s.evaluate cov).port = s.port := by
  simp [State.evaluate]
@[simp] theorem State.evaluate_pending (cov : Subject → Bool) (s : State) : (s.evaluate cov).pending = s.pending := by
  simp [State.evaluate]

/-! ### raisePodChange -/

@[simp] theorem State.raisePodChange_clock (p : Fin 4) (s : State) : (s.raisePodChange p).clock = s.clock := by
  simp [State.raisePodChange]
@[simp] theorem State.raisePodChange_pins (p : Fin 4) (s : State) : (s.raisePodChange p).pins = s.pins := by
  simp [State.raisePodChange]
@[simp] theorem State.raisePodChange_pods (p : Fin 4) (s : State) : (s.raisePodChange p).pods = s.pods := by
  simp [State.raisePodChange]
@[simp] theorem State.raisePodChange_channels (p : Fin 4) (s : State) : (s.raisePodChange p).channels = s.channels := by
  simp [State.raisePodChange]
@[simp] theorem State.raisePodChange_decoders (p : Fin 4) (s : State) : (s.raisePodChange p).decoders = s.decoders := by
  simp [State.raisePodChange]
@[simp] theorem State.raisePodChange_store (p : Fin 4) (s : State) : (s.raisePodChange p).store = s.store := by
  simp [State.raisePodChange]
@[simp] theorem State.raisePodChange_meters (p : Fin 4) (s : State) : (s.raisePodChange p).meters = s.meters := by
  simp [State.raisePodChange]
@[simp] theorem State.raisePodChange_panel (p : Fin 4) (s : State) : (s.raisePodChange p).panel = s.panel := by
  simp [State.raisePodChange]
@[simp] theorem State.raisePodChange_backlight (p : Fin 4) (s : State) : (s.raisePodChange p).backlight = s.backlight := by
  simp [State.raisePodChange]
@[simp] theorem State.raisePodChange_port (p : Fin 4) (s : State) : (s.raisePodChange p).port = s.port := by
  simp [State.raisePodChange]
@[simp] theorem State.raisePodChange_pending (p : Fin 4) (s : State) : (s.raisePodChange p).pending = s.pending := by
  simp [State.raisePodChange]

/-! ### raisePanelLost -/

@[simp] theorem State.raisePanelLost_clock (s : State) : (s.raisePanelLost).clock = s.clock := by
  simp [State.raisePanelLost]
@[simp] theorem State.raisePanelLost_pins (s : State) : (s.raisePanelLost).pins = s.pins := by
  simp [State.raisePanelLost]
@[simp] theorem State.raisePanelLost_pods (s : State) : (s.raisePanelLost).pods = s.pods := by
  simp [State.raisePanelLost]
@[simp] theorem State.raisePanelLost_channels (s : State) : (s.raisePanelLost).channels = s.channels := by
  simp [State.raisePanelLost]
@[simp] theorem State.raisePanelLost_decoders (s : State) : (s.raisePanelLost).decoders = s.decoders := by
  simp [State.raisePanelLost]
@[simp] theorem State.raisePanelLost_store (s : State) : (s.raisePanelLost).store = s.store := by
  simp [State.raisePanelLost]
@[simp] theorem State.raisePanelLost_meters (s : State) : (s.raisePanelLost).meters = s.meters := by
  simp [State.raisePanelLost]
@[simp] theorem State.raisePanelLost_panel (s : State) : (s.raisePanelLost).panel = s.panel := by
  simp [State.raisePanelLost]
@[simp] theorem State.raisePanelLost_backlight (s : State) : (s.raisePanelLost).backlight = s.backlight := by
  simp [State.raisePanelLost]
@[simp] theorem State.raisePanelLost_port (s : State) : (s.raisePanelLost).port = s.port := by
  simp [State.raisePanelLost]
@[simp] theorem State.raisePanelLost_pending (s : State) : (s.raisePanelLost).pending = s.pending := by
  simp [State.raisePanelLost]

/-! ### raiseStoreFull -/

@[simp] theorem State.raiseStoreFull_clock (s : State) : (s.raiseStoreFull).clock = s.clock := by
  simp [State.raiseStoreFull]
@[simp] theorem State.raiseStoreFull_pins (s : State) : (s.raiseStoreFull).pins = s.pins := by
  simp [State.raiseStoreFull]
@[simp] theorem State.raiseStoreFull_pods (s : State) : (s.raiseStoreFull).pods = s.pods := by
  simp [State.raiseStoreFull]
@[simp] theorem State.raiseStoreFull_channels (s : State) : (s.raiseStoreFull).channels = s.channels := by
  simp [State.raiseStoreFull]
@[simp] theorem State.raiseStoreFull_decoders (s : State) : (s.raiseStoreFull).decoders = s.decoders := by
  simp [State.raiseStoreFull]
@[simp] theorem State.raiseStoreFull_store (s : State) : (s.raiseStoreFull).store = s.store := by
  simp [State.raiseStoreFull]
@[simp] theorem State.raiseStoreFull_meters (s : State) : (s.raiseStoreFull).meters = s.meters := by
  simp [State.raiseStoreFull]
@[simp] theorem State.raiseStoreFull_panel (s : State) : (s.raiseStoreFull).panel = s.panel := by
  simp [State.raiseStoreFull]
@[simp] theorem State.raiseStoreFull_backlight (s : State) : (s.raiseStoreFull).backlight = s.backlight := by
  simp [State.raiseStoreFull]
@[simp] theorem State.raiseStoreFull_port (s : State) : (s.raiseStoreFull).port = s.port := by
  simp [State.raiseStoreFull]
@[simp] theorem State.raiseStoreFull_pending (s : State) : (s.raiseStoreFull).pending = s.pending := by
  simp [State.raiseStoreFull]

/-! ### raiseCellsFull -/

@[simp] theorem State.raiseCellsFull_clock (s : State) : (s.raiseCellsFull).clock = s.clock := by
  simp [State.raiseCellsFull]
@[simp] theorem State.raiseCellsFull_pins (s : State) : (s.raiseCellsFull).pins = s.pins := by
  simp [State.raiseCellsFull]
@[simp] theorem State.raiseCellsFull_pods (s : State) : (s.raiseCellsFull).pods = s.pods := by
  simp [State.raiseCellsFull]
@[simp] theorem State.raiseCellsFull_channels (s : State) : (s.raiseCellsFull).channels = s.channels := by
  simp [State.raiseCellsFull]
@[simp] theorem State.raiseCellsFull_decoders (s : State) : (s.raiseCellsFull).decoders = s.decoders := by
  simp [State.raiseCellsFull]
@[simp] theorem State.raiseCellsFull_store (s : State) : (s.raiseCellsFull).store = s.store := by
  simp [State.raiseCellsFull]
@[simp] theorem State.raiseCellsFull_meters (s : State) : (s.raiseCellsFull).meters = s.meters := by
  simp [State.raiseCellsFull]
@[simp] theorem State.raiseCellsFull_panel (s : State) : (s.raiseCellsFull).panel = s.panel := by
  simp [State.raiseCellsFull]
@[simp] theorem State.raiseCellsFull_backlight (s : State) : (s.raiseCellsFull).backlight = s.backlight := by
  simp [State.raiseCellsFull]
@[simp] theorem State.raiseCellsFull_port (s : State) : (s.raiseCellsFull).port = s.port := by
  simp [State.raiseCellsFull]
@[simp] theorem State.raiseCellsFull_pending (s : State) : (s.raiseCellsFull).pending = s.pending := by
  simp [State.raiseCellsFull]

/-! ### faultReport -/

@[simp] theorem State.faultReport_clock (p : Fin 4) (m : Bool) (s : State) : (s.faultReport p m).clock = s.clock := by
  simp [State.faultReport]
@[simp] theorem State.faultReport_pins (p : Fin 4) (m : Bool) (s : State) : (s.faultReport p m).pins = s.pins := by
  simp [State.faultReport]
@[simp] theorem State.faultReport_pods (p : Fin 4) (m : Bool) (s : State) : (s.faultReport p m).pods = s.pods := by
  simp [State.faultReport]
@[simp] theorem State.faultReport_channels (p : Fin 4) (m : Bool) (s : State) : (s.faultReport p m).channels = s.channels := by
  simp [State.faultReport]
@[simp] theorem State.faultReport_decoders (p : Fin 4) (m : Bool) (s : State) : (s.faultReport p m).decoders = s.decoders := by
  simp [State.faultReport]
@[simp] theorem State.faultReport_store (p : Fin 4) (m : Bool) (s : State) : (s.faultReport p m).store = s.store := by
  simp [State.faultReport]
@[simp] theorem State.faultReport_meters (p : Fin 4) (m : Bool) (s : State) : (s.faultReport p m).meters = s.meters := by
  simp [State.faultReport]
@[simp] theorem State.faultReport_panel (p : Fin 4) (m : Bool) (s : State) : (s.faultReport p m).panel = s.panel := by
  simp [State.faultReport]
@[simp] theorem State.faultReport_backlight (p : Fin 4) (m : Bool) (s : State) : (s.faultReport p m).backlight = s.backlight := by
  simp [State.faultReport]
@[simp] theorem State.faultReport_port (p : Fin 4) (m : Bool) (s : State) : (s.faultReport p m).port = s.port := by
  simp [State.faultReport]
@[simp] theorem State.faultReport_pending (p : Fin 4) (m : Bool) (s : State) : (s.faultReport p m).pending = s.pending := by
  simp [State.faultReport]

/-! ### podReport -/

@[simp] theorem State.podReport_clock (p : Fin 4) (s : State) : (s.podReport p).clock = s.clock := by
  simp [State.podReport]
@[simp] theorem State.podReport_pins (p : Fin 4) (s : State) : (s.podReport p).pins = s.pins := by
  simp [State.podReport]
@[simp] theorem State.podReport_pods (p : Fin 4) (s : State) : (s.podReport p).pods = s.pods := by
  simp [State.podReport]
@[simp] theorem State.podReport_channels (p : Fin 4) (s : State) : (s.podReport p).channels = s.channels := by
  simp [State.podReport]
@[simp] theorem State.podReport_decoders (p : Fin 4) (s : State) : (s.podReport p).decoders = s.decoders := by
  simp [State.podReport]
@[simp] theorem State.podReport_store (p : Fin 4) (s : State) : (s.podReport p).store = s.store := by
  simp [State.podReport]
@[simp] theorem State.podReport_meters (p : Fin 4) (s : State) : (s.podReport p).meters = s.meters := by
  simp [State.podReport]
@[simp] theorem State.podReport_panel (p : Fin 4) (s : State) : (s.podReport p).panel = s.panel := by
  simp [State.podReport]
@[simp] theorem State.podReport_backlight (p : Fin 4) (s : State) : (s.podReport p).backlight = s.backlight := by
  simp [State.podReport]
@[simp] theorem State.podReport_port (p : Fin 4) (s : State) : (s.podReport p).port = s.port := by
  simp [State.podReport]
@[simp] theorem State.podReport_pending (p : Fin 4) (s : State) : (s.podReport p).pending = s.pending := by
  simp [State.podReport]

/-! ### putPod -/

@[simp] theorem State.putPod_clock (p : Fin 4) (new : Pod) (s : State) : (s.putPod p new).clock = s.clock := by
  unfold State.putPod; (try dsimp only); (repeat' split) <;> simp
@[simp] theorem State.putPod_pins (p : Fin 4) (new : Pod) (s : State) : (s.putPod p new).pins = s.pins := by
  unfold State.putPod; (try dsimp only); (repeat' split) <;> simp
@[simp] theorem State.putPod_channels (p : Fin 4) (new : Pod) (s : State) : (s.putPod p new).channels = s.channels := by
  unfold State.putPod; (try dsimp only); (repeat' split) <;> simp
@[simp] theorem State.putPod_decoders (p : Fin 4) (new : Pod) (s : State) : (s.putPod p new).decoders = s.decoders := by
  unfold State.putPod; (try dsimp only); (repeat' split) <;> simp
@[simp] theorem State.putPod_store (p : Fin 4) (new : Pod) (s : State) : (s.putPod p new).store = s.store := by
  unfold State.putPod; (try dsimp only); (repeat' split) <;> simp
@[simp] theorem State.putPod_meters (p : Fin 4) (new : Pod) (s : State) : (s.putPod p new).meters = s.meters := by
  unfold State.putPod; (try dsimp only); (repeat' split) <;> simp
@[simp] theorem State.putPod_panel (p : Fin 4) (new : Pod) (s : State) : (s.putPod p new).panel = s.panel := by
  unfold State.putPod; (try dsimp only); (repeat' split) <;> simp
@[simp] theorem State.putPod_backlight (p : Fin 4) (new : Pod) (s : State) : (s.putPod p new).backlight = s.backlight := by
  unfold State.putPod; (try dsimp only); (repeat' split) <;> simp
@[simp] theorem State.putPod_port (p : Fin 4) (new : Pod) (s : State) : (s.putPod p new).port = s.port := by
  unfold State.putPod; (try dsimp only); (repeat' split) <;> simp
@[simp] theorem State.putPod_pending (p : Fin 4) (new : Pod) (s : State) : (s.putPod p new).pending = s.pending := by
  unfold State.putPod; (try dsimp only); (repeat' split) <;> simp

/-! ### putDecoder -/

@[simp] theorem State.putDecoder_clock (d : Fin 6) (new : Decoder) (s : State) : (s.putDecoder d new).clock = s.clock := by
  unfold State.putDecoder; (try dsimp only); (repeat' split) <;> simp
@[simp] theorem State.putDecoder_pins (d : Fin 6) (new : Decoder) (s : State) : (s.putDecoder d new).pins = s.pins := by
  unfold State.putDecoder; (try dsimp only); (repeat' split) <;> simp
@[simp] theorem State.putDecoder_pods (d : Fin 6) (new : Decoder) (s : State) : (s.putDecoder d new).pods = s.pods := by
  unfold State.putDecoder; (try dsimp only); (repeat' split) <;> simp
@[simp] theorem State.putDecoder_channels (d : Fin 6) (new : Decoder) (s : State) : (s.putDecoder d new).channels = s.channels := by
  unfold State.putDecoder; (try dsimp only); (repeat' split) <;> simp
@[simp] theorem State.putDecoder_store (d : Fin 6) (new : Decoder) (s : State) : (s.putDecoder d new).store = s.store := by
  unfold State.putDecoder; (try dsimp only); (repeat' split) <;> simp
@[simp] theorem State.putDecoder_meters (d : Fin 6) (new : Decoder) (s : State) : (s.putDecoder d new).meters = s.meters := by
  unfold State.putDecoder; (try dsimp only); (repeat' split) <;> simp
@[simp] theorem State.putDecoder_panel (d : Fin 6) (new : Decoder) (s : State) : (s.putDecoder d new).panel = s.panel := by
  unfold State.putDecoder; (try dsimp only); (repeat' split) <;> simp
@[simp] theorem State.putDecoder_backlight (d : Fin 6) (new : Decoder) (s : State) : (s.putDecoder d new).backlight = s.backlight := by
  unfold State.putDecoder; (try dsimp only); (repeat' split) <;> simp
@[simp] theorem State.putDecoder_port (d : Fin 6) (new : Decoder) (s : State) : (s.putDecoder d new).port = s.port := by
  unfold State.putDecoder; (try dsimp only); (repeat' split) <;> simp
@[simp] theorem State.putDecoder_pending (d : Fin 6) (new : Decoder) (s : State) : (s.putDecoder d new).pending = s.pending := by
  unfold State.putDecoder; (try dsimp only); (repeat' split) <;> simp

/-! ### putMeter -/

@[simp] theorem State.putMeter_clock (m : Fin 8) (new : Meter) (s : State) : (s.putMeter m new).clock = s.clock := by
  unfold State.putMeter; (try dsimp only); (repeat' split) <;> simp
@[simp] theorem State.putMeter_pins (m : Fin 8) (new : Meter) (s : State) : (s.putMeter m new).pins = s.pins := by
  unfold State.putMeter; (try dsimp only); (repeat' split) <;> simp
@[simp] theorem State.putMeter_pods (m : Fin 8) (new : Meter) (s : State) : (s.putMeter m new).pods = s.pods := by
  unfold State.putMeter; (try dsimp only); (repeat' split) <;> simp
@[simp] theorem State.putMeter_channels (m : Fin 8) (new : Meter) (s : State) : (s.putMeter m new).channels = s.channels := by
  unfold State.putMeter; (try dsimp only); (repeat' split) <;> simp
@[simp] theorem State.putMeter_decoders (m : Fin 8) (new : Meter) (s : State) : (s.putMeter m new).decoders = s.decoders := by
  unfold State.putMeter; (try dsimp only); (repeat' split) <;> simp
@[simp] theorem State.putMeter_store (m : Fin 8) (new : Meter) (s : State) : (s.putMeter m new).store = s.store := by
  unfold State.putMeter; (try dsimp only); (repeat' split) <;> simp
@[simp] theorem State.putMeter_panel (m : Fin 8) (new : Meter) (s : State) : (s.putMeter m new).panel = s.panel := by
  unfold State.putMeter; (try dsimp only); (repeat' split) <;> simp
@[simp] theorem State.putMeter_backlight (m : Fin 8) (new : Meter) (s : State) : (s.putMeter m new).backlight = s.backlight := by
  unfold State.putMeter; (try dsimp only); (repeat' split) <;> simp
@[simp] theorem State.putMeter_port (m : Fin 8) (new : Meter) (s : State) : (s.putMeter m new).port = s.port := by
  unfold State.putMeter; (try dsimp only); (repeat' split) <;> simp
@[simp] theorem State.putMeter_pending (m : Fin 8) (new : Meter) (s : State) : (s.putMeter m new).pending = s.pending := by
  unfold State.putMeter; (try dsimp only); (repeat' split) <;> simp

/-! ### markTarget -/

@[simp] theorem State.markTarget_clock (h : Handle) (s : State) : (s.markTarget h).clock = s.clock := by
  simp [State.markTarget]
@[simp] theorem State.markTarget_pins (h : Handle) (s : State) : (s.markTarget h).pins = s.pins := by
  simp [State.markTarget]
@[simp] theorem State.markTarget_pods (h : Handle) (s : State) : (s.markTarget h).pods = s.pods := by
  simp [State.markTarget]
@[simp] theorem State.markTarget_channels (h : Handle) (s : State) : (s.markTarget h).channels = s.channels := by
  simp [State.markTarget]
@[simp] theorem State.markTarget_decoders (h : Handle) (s : State) : (s.markTarget h).decoders = s.decoders := by
  simp [State.markTarget]
@[simp] theorem State.markTarget_store (h : Handle) (s : State) : (s.markTarget h).store = s.store := by
  simp [State.markTarget]
@[simp] theorem State.markTarget_meters (h : Handle) (s : State) : (s.markTarget h).meters = s.meters := by
  simp [State.markTarget]
@[simp] theorem State.markTarget_panel (h : Handle) (s : State) : (s.markTarget h).panel = s.panel := by
  simp [State.markTarget]
@[simp] theorem State.markTarget_backlight (h : Handle) (s : State) : (s.markTarget h).backlight = s.backlight := by
  simp [State.markTarget]
@[simp] theorem State.markTarget_port (h : Handle) (s : State) : (s.markTarget h).port = s.port := by
  simp [State.markTarget]
@[simp] theorem State.markTarget_pending (h : Handle) (s : State) : (s.markTarget h).pending = s.pending := by
  simp [State.markTarget]

/-! ### targetReport -/

@[simp] theorem State.targetReport_clock (h : Handle) (rs : List Byte) (fs : List TargetField) (s : State) : (s.targetReport h rs fs).clock = s.clock := by
  simp [State.targetReport]
@[simp] theorem State.targetReport_pins (h : Handle) (rs : List Byte) (fs : List TargetField) (s : State) : (s.targetReport h rs fs).pins = s.pins := by
  simp [State.targetReport]
@[simp] theorem State.targetReport_pods (h : Handle) (rs : List Byte) (fs : List TargetField) (s : State) : (s.targetReport h rs fs).pods = s.pods := by
  simp [State.targetReport]
@[simp] theorem State.targetReport_channels (h : Handle) (rs : List Byte) (fs : List TargetField) (s : State) : (s.targetReport h rs fs).channels = s.channels := by
  simp [State.targetReport]
@[simp] theorem State.targetReport_decoders (h : Handle) (rs : List Byte) (fs : List TargetField) (s : State) : (s.targetReport h rs fs).decoders = s.decoders := by
  simp [State.targetReport]
@[simp] theorem State.targetReport_store (h : Handle) (rs : List Byte) (fs : List TargetField) (s : State) : (s.targetReport h rs fs).store = s.store := by
  simp [State.targetReport]
@[simp] theorem State.targetReport_meters (h : Handle) (rs : List Byte) (fs : List TargetField) (s : State) : (s.targetReport h rs fs).meters = s.meters := by
  simp [State.targetReport]
@[simp] theorem State.targetReport_panel (h : Handle) (rs : List Byte) (fs : List TargetField) (s : State) : (s.targetReport h rs fs).panel = s.panel := by
  simp [State.targetReport]
@[simp] theorem State.targetReport_backlight (h : Handle) (rs : List Byte) (fs : List TargetField) (s : State) : (s.targetReport h rs fs).backlight = s.backlight := by
  simp [State.targetReport]
@[simp] theorem State.targetReport_port (h : Handle) (rs : List Byte) (fs : List TargetField) (s : State) : (s.targetReport h rs fs).port = s.port := by
  simp [State.targetReport]
@[simp] theorem State.targetReport_pending (h : Handle) (rs : List Byte) (fs : List TargetField) (s : State) : (s.targetReport h rs fs).pending = s.pending := by
  simp [State.targetReport]

/-! ### retireNotice -/

@[simp] theorem State.retireNotice_clock (h : Handle) (s : State) : (s.retireNotice h).clock = s.clock := by
  unfold State.retireNotice; (try dsimp only); (repeat' split) <;> simp
@[simp] theorem State.retireNotice_pins (h : Handle) (s : State) : (s.retireNotice h).pins = s.pins := by
  unfold State.retireNotice; (try dsimp only); (repeat' split) <;> simp
@[simp] theorem State.retireNotice_pods (h : Handle) (s : State) : (s.retireNotice h).pods = s.pods := by
  unfold State.retireNotice; (try dsimp only); (repeat' split) <;> simp
@[simp] theorem State.retireNotice_channels (h : Handle) (s : State) : (s.retireNotice h).channels = s.channels := by
  unfold State.retireNotice; (try dsimp only); (repeat' split) <;> simp
@[simp] theorem State.retireNotice_decoders (h : Handle) (s : State) : (s.retireNotice h).decoders = s.decoders := by
  unfold State.retireNotice; (try dsimp only); (repeat' split) <;> simp
@[simp] theorem State.retireNotice_store (h : Handle) (s : State) : (s.retireNotice h).store = s.store := by
  unfold State.retireNotice; (try dsimp only); (repeat' split) <;> simp
@[simp] theorem State.retireNotice_meters (h : Handle) (s : State) : (s.retireNotice h).meters = s.meters := by
  unfold State.retireNotice; (try dsimp only); (repeat' split) <;> simp
@[simp] theorem State.retireNotice_panel (h : Handle) (s : State) : (s.retireNotice h).panel = s.panel := by
  unfold State.retireNotice; (try dsimp only); (repeat' split) <;> simp
@[simp] theorem State.retireNotice_backlight (h : Handle) (s : State) : (s.retireNotice h).backlight = s.backlight := by
  unfold State.retireNotice; (try dsimp only); (repeat' split) <;> simp
@[simp] theorem State.retireNotice_port (h : Handle) (s : State) : (s.retireNotice h).port = s.port := by
  unfold State.retireNotice; (try dsimp only); (repeat' split) <;> simp
@[simp] theorem State.retireNotice_pending (h : Handle) (s : State) : (s.retireNotice h).pending = s.pending := by
  unfold State.retireNotice; (try dsimp only); (repeat' split) <;> simp

/-! ### retire -/

@[simp] theorem State.retire_clock (i : Fin 64) (s : State) : (s.retire i).clock = s.clock := by
  simp [State.retire]
@[simp] theorem State.retire_pins (i : Fin 64) (s : State) : (s.retire i).pins = s.pins := by
  simp [State.retire]
@[simp] theorem State.retire_pods (i : Fin 64) (s : State) : (s.retire i).pods = s.pods := by
  simp [State.retire]
@[simp] theorem State.retire_channels (i : Fin 64) (s : State) : (s.retire i).channels = s.channels := by
  simp [State.retire]
@[simp] theorem State.retire_decoders (i : Fin 64) (s : State) : (s.retire i).decoders = s.decoders := by
  simp [State.retire]
@[simp] theorem State.retire_meters (i : Fin 64) (s : State) : (s.retire i).meters = s.meters := by
  simp [State.retire]
@[simp] theorem State.retire_panel (i : Fin 64) (s : State) : (s.retire i).panel = s.panel := by
  simp [State.retire]
@[simp] theorem State.retire_backlight (i : Fin 64) (s : State) : (s.retire i).backlight = s.backlight := by
  simp [State.retire]
@[simp] theorem State.retire_port (i : Fin 64) (s : State) : (s.retire i).port = s.port := by
  simp [State.retire]
@[simp] theorem State.retire_pending (i : Fin 64) (s : State) : (s.retire i).pending = s.pending := by
  simp [State.retire]

/-! ### bind -/

@[simp] theorem State.bind_clock (h : Handle) (s : State) : (s.bind h).clock = s.clock := by
  unfold State.bind; (repeat' split) <;> simp
@[simp] theorem State.bind_pins (h : Handle) (s : State) : (s.bind h).pins = s.pins := by
  unfold State.bind; (repeat' split) <;> simp
@[simp] theorem State.bind_pods (h : Handle) (s : State) : (s.bind h).pods = s.pods := by
  unfold State.bind; (repeat' split) <;> simp
@[simp] theorem State.bind_channels (h : Handle) (s : State) : (s.bind h).channels = s.channels := by
  unfold State.bind; (repeat' split) <;> simp
@[simp] theorem State.bind_decoders (h : Handle) (s : State) : (s.bind h).decoders = s.decoders := by
  unfold State.bind; (repeat' split) <;> simp
@[simp] theorem State.bind_meters (h : Handle) (s : State) : (s.bind h).meters = s.meters := by
  unfold State.bind; (repeat' split) <;> simp
@[simp] theorem State.bind_watch (h : Handle) (s : State) : (s.bind h).watch = s.watch := by
  unfold State.bind; (repeat' split) <;> simp
@[simp] theorem State.bind_display (h : Handle) (s : State) : (s.bind h).display = s.display := by
  unfold State.bind; (repeat' split) <;> simp
@[simp] theorem State.bind_panel (h : Handle) (s : State) : (s.bind h).panel = s.panel := by
  unfold State.bind; (repeat' split) <;> simp
@[simp] theorem State.bind_backlight (h : Handle) (s : State) : (s.bind h).backlight = s.backlight := by
  unfold State.bind; (repeat' split) <;> simp
@[simp] theorem State.bind_port (h : Handle) (s : State) : (s.bind h).port = s.port := by
  unfold State.bind; (repeat' split) <;> simp
@[simp] theorem State.bind_pending (h : Handle) (s : State) : (s.bind h).pending = s.pending := by
  unfold State.bind; (repeat' split) <;> simp

/-! ### unbind -/

@[simp] theorem State.unbind_clock (h : Handle) (s : State) : (s.unbind h).clock = s.clock := by
  unfold State.unbind; (repeat' split) <;> simp
@[simp] theorem State.unbind_pins (h : Handle) (s : State) : (s.unbind h).pins = s.pins := by
  unfold State.unbind; (repeat' split) <;> simp
@[simp] theorem State.unbind_pods (h : Handle) (s : State) : (s.unbind h).pods = s.pods := by
  unfold State.unbind; (repeat' split) <;> simp
@[simp] theorem State.unbind_channels (h : Handle) (s : State) : (s.unbind h).channels = s.channels := by
  unfold State.unbind; (repeat' split) <;> simp
@[simp] theorem State.unbind_decoders (h : Handle) (s : State) : (s.unbind h).decoders = s.decoders := by
  unfold State.unbind; (repeat' split) <;> simp
@[simp] theorem State.unbind_meters (h : Handle) (s : State) : (s.unbind h).meters = s.meters := by
  unfold State.unbind; (repeat' split) <;> simp
@[simp] theorem State.unbind_watch (h : Handle) (s : State) : (s.unbind h).watch = s.watch := by
  unfold State.unbind; (repeat' split) <;> simp
@[simp] theorem State.unbind_display (h : Handle) (s : State) : (s.unbind h).display = s.display := by
  unfold State.unbind; (repeat' split) <;> simp
@[simp] theorem State.unbind_panel (h : Handle) (s : State) : (s.unbind h).panel = s.panel := by
  unfold State.unbind; (repeat' split) <;> simp
@[simp] theorem State.unbind_backlight (h : Handle) (s : State) : (s.unbind h).backlight = s.backlight := by
  unfold State.unbind; (repeat' split) <;> simp
@[simp] theorem State.unbind_port (h : Handle) (s : State) : (s.unbind h).port = s.port := by
  unfold State.unbind; (repeat' split) <;> simp
@[simp] theorem State.unbind_pending (h : Handle) (s : State) : (s.unbind h).pending = s.pending := by
  unfold State.unbind; (repeat' split) <;> simp

/-! ### bind? -/

@[simp] theorem State.bindOpt_clock (h : Option Handle) (s : State) : (s.bind? h).clock = s.clock := by
  cases h <;> simp [State.bind?]
@[simp] theorem State.bindOpt_pins (h : Option Handle) (s : State) : (s.bind? h).pins = s.pins := by
  cases h <;> simp [State.bind?]
@[simp] theorem State.bindOpt_pods (h : Option Handle) (s : State) : (s.bind? h).pods = s.pods := by
  cases h <;> simp [State.bind?]
@[simp] theorem State.bindOpt_channels (h : Option Handle) (s : State) : (s.bind? h).channels = s.channels := by
  cases h <;> simp [State.bind?]
@[simp] theorem State.bindOpt_decoders (h : Option Handle) (s : State) : (s.bind? h).decoders = s.decoders := by
  cases h <;> simp [State.bind?]
@[simp] theorem State.bindOpt_meters (h : Option Handle) (s : State) : (s.bind? h).meters = s.meters := by
  cases h <;> simp [State.bind?]
@[simp] theorem State.bindOpt_watch (h : Option Handle) (s : State) : (s.bind? h).watch = s.watch := by
  cases h <;> simp [State.bind?]
@[simp] theorem State.bindOpt_display (h : Option Handle) (s : State) : (s.bind? h).display = s.display := by
  cases h <;> simp [State.bind?]
@[simp] theorem State.bindOpt_panel (h : Option Handle) (s : State) : (s.bind? h).panel = s.panel := by
  cases h <;> simp [State.bind?]
@[simp] theorem State.bindOpt_backlight (h : Option Handle) (s : State) : (s.bind? h).backlight = s.backlight := by
  cases h <;> simp [State.bind?]
@[simp] theorem State.bindOpt_port (h : Option Handle) (s : State) : (s.bind? h).port = s.port := by
  cases h <;> simp [State.bind?]
@[simp] theorem State.bindOpt_pending (h : Option Handle) (s : State) : (s.bind? h).pending = s.pending := by
  cases h <;> simp [State.bind?]

/-! ### unbind? -/

@[simp] theorem State.unbindOpt_clock (h : Option Handle) (s : State) : (s.unbind? h).clock = s.clock := by
  cases h <;> simp [State.unbind?]
@[simp] theorem State.unbindOpt_pins (h : Option Handle) (s : State) : (s.unbind? h).pins = s.pins := by
  cases h <;> simp [State.unbind?]
@[simp] theorem State.unbindOpt_pods (h : Option Handle) (s : State) : (s.unbind? h).pods = s.pods := by
  cases h <;> simp [State.unbind?]
@[simp] theorem State.unbindOpt_channels (h : Option Handle) (s : State) : (s.unbind? h).channels = s.channels := by
  cases h <;> simp [State.unbind?]
@[simp] theorem State.unbindOpt_decoders (h : Option Handle) (s : State) : (s.unbind? h).decoders = s.decoders := by
  cases h <;> simp [State.unbind?]
@[simp] theorem State.unbindOpt_meters (h : Option Handle) (s : State) : (s.unbind? h).meters = s.meters := by
  cases h <;> simp [State.unbind?]
@[simp] theorem State.unbindOpt_watch (h : Option Handle) (s : State) : (s.unbind? h).watch = s.watch := by
  cases h <;> simp [State.unbind?]
@[simp] theorem State.unbindOpt_display (h : Option Handle) (s : State) : (s.unbind? h).display = s.display := by
  cases h <;> simp [State.unbind?]
@[simp] theorem State.unbindOpt_panel (h : Option Handle) (s : State) : (s.unbind? h).panel = s.panel := by
  cases h <;> simp [State.unbind?]
@[simp] theorem State.unbindOpt_backlight (h : Option Handle) (s : State) : (s.unbind? h).backlight = s.backlight := by
  cases h <;> simp [State.unbind?]
@[simp] theorem State.unbindOpt_port (h : Option Handle) (s : State) : (s.unbind? h).port = s.port := by
  cases h <;> simp [State.unbind?]
@[simp] theorem State.unbindOpt_pending (h : Option Handle) (s : State) : (s.unbind? h).pending = s.pending := by
  cases h <;> simp [State.unbind?]

/-! ### putWatch -/

@[simp] theorem State.putWatch_clock (i : Fin 32) (w : Watch) (s : State) : (s.putWatch i w).clock = s.clock := by
  simp [State.putWatch]
@[simp] theorem State.putWatch_pins (i : Fin 32) (w : Watch) (s : State) : (s.putWatch i w).pins = s.pins := by
  simp [State.putWatch]
@[simp] theorem State.putWatch_pods (i : Fin 32) (w : Watch) (s : State) : (s.putWatch i w).pods = s.pods := by
  simp [State.putWatch]
@[simp] theorem State.putWatch_channels (i : Fin 32) (w : Watch) (s : State) : (s.putWatch i w).channels = s.channels := by
  simp [State.putWatch]
@[simp] theorem State.putWatch_decoders (i : Fin 32) (w : Watch) (s : State) : (s.putWatch i w).decoders = s.decoders := by
  simp [State.putWatch]
@[simp] theorem State.putWatch_store (i : Fin 32) (w : Watch) (s : State) : (s.putWatch i w).store = s.store := by
  simp [State.putWatch]
@[simp] theorem State.putWatch_meters (i : Fin 32) (w : Watch) (s : State) : (s.putWatch i w).meters = s.meters := by
  simp [State.putWatch]
@[simp] theorem State.putWatch_panel (i : Fin 32) (w : Watch) (s : State) : (s.putWatch i w).panel = s.panel := by
  simp [State.putWatch]
@[simp] theorem State.putWatch_backlight (i : Fin 32) (w : Watch) (s : State) : (s.putWatch i w).backlight = s.backlight := by
  simp [State.putWatch]
@[simp] theorem State.putWatch_port (i : Fin 32) (w : Watch) (s : State) : (s.putWatch i w).port = s.port := by
  simp [State.putWatch]
@[simp] theorem State.putWatch_pending (i : Fin 32) (w : Watch) (s : State) : (s.putWatch i w).pending = s.pending := by
  simp [State.putWatch]

/-! ### clearMark -/

@[simp] theorem State.clearMark_clock (p : Fin 4) (s : State) : (s.clearMark p).clock = s.clock := by
  unfold State.clearMark; (repeat' split) <;> simp
@[simp] theorem State.clearMark_pins (p : Fin 4) (s : State) : (s.clearMark p).pins = s.pins := by
  unfold State.clearMark; (repeat' split) <;> simp
@[simp] theorem State.clearMark_channels (p : Fin 4) (s : State) : (s.clearMark p).channels = s.channels := by
  unfold State.clearMark; (repeat' split) <;> simp
@[simp] theorem State.clearMark_decoders (p : Fin 4) (s : State) : (s.clearMark p).decoders = s.decoders := by
  unfold State.clearMark; (repeat' split) <;> simp
@[simp] theorem State.clearMark_store (p : Fin 4) (s : State) : (s.clearMark p).store = s.store := by
  unfold State.clearMark; (repeat' split) <;> simp
@[simp] theorem State.clearMark_meters (p : Fin 4) (s : State) : (s.clearMark p).meters = s.meters := by
  unfold State.clearMark; (repeat' split) <;> simp
@[simp] theorem State.clearMark_panel (p : Fin 4) (s : State) : (s.clearMark p).panel = s.panel := by
  unfold State.clearMark; (repeat' split) <;> simp
@[simp] theorem State.clearMark_backlight (p : Fin 4) (s : State) : (s.clearMark p).backlight = s.backlight := by
  unfold State.clearMark; (repeat' split) <;> simp
@[simp] theorem State.clearMark_port (p : Fin 4) (s : State) : (s.clearMark p).port = s.port := by
  unfold State.clearMark; (repeat' split) <;> simp
@[simp] theorem State.clearMark_pending (p : Fin 4) (s : State) : (s.clearMark p).pending = s.pending := by
  unfold State.clearMark; (repeat' split) <;> simp

/-! ### The fields they change -/

@[simp] theorem State.putPod_pods (p : Fin 4) (new : Pod) (s : State) : (s.putPod p new).pods = s.pods.set p new := by
  unfold State.putPod; (try dsimp only); (repeat' split) <;> simp

@[simp] theorem State.putDecoder_decoders (d : Fin 6) (new : Decoder) (s : State) :
    (s.putDecoder d new).decoders = s.decoders.set d new := by
  unfold State.putDecoder; (try dsimp only); (repeat' split) <;> simp

@[simp] theorem State.putMeter_meters (m : Fin 8) (new : Meter) (s : State) :
    (s.putMeter m new).meters = s.meters.set m new := by
  unfold State.putMeter; (try dsimp only); (repeat' split) <;> simp

end Sys2Proof.Machine
end

