-- ==== Sys2Proof/Laws/Meters.lean ====
section
/-! SUPPORT. What the Meter Array's operations leave alone. -/

namespace Sys2Proof.Machine

/-! ### meterResult -/

@[simp] theorem State.meterResult_clock (m : Fin 8) (o : MeterOutcome) (n : MeterState) (s : State) : (s.meterResult m o n).clock = s.clock := by
  simp [State.meterResult]
@[simp] theorem State.meterResult_pins (m : Fin 8) (o : MeterOutcome) (n : MeterState) (s : State) : (s.meterResult m o n).pins = s.pins := by
  simp [State.meterResult]
@[simp] theorem State.meterResult_pods (m : Fin 8) (o : MeterOutcome) (n : MeterState) (s : State) : (s.meterResult m o n).pods = s.pods := by
  simp [State.meterResult]
@[simp] theorem State.meterResult_channels (m : Fin 8) (o : MeterOutcome) (n : MeterState) (s : State) : (s.meterResult m o n).channels = s.channels := by
  simp [State.meterResult]
@[simp] theorem State.meterResult_decoders (m : Fin 8) (o : MeterOutcome) (n : MeterState) (s : State) : (s.meterResult m o n).decoders = s.decoders := by
  simp [State.meterResult]
@[simp] theorem State.meterResult_store (m : Fin 8) (o : MeterOutcome) (n : MeterState) (s : State) : (s.meterResult m o n).store = s.store := by
  simp [State.meterResult]
@[simp] theorem State.meterResult_panel (m : Fin 8) (o : MeterOutcome) (n : MeterState) (s : State) : (s.meterResult m o n).panel = s.panel := by
  simp [State.meterResult]
@[simp] theorem State.meterResult_backlight (m : Fin 8) (o : MeterOutcome) (n : MeterState) (s : State) : (s.meterResult m o n).backlight = s.backlight := by
  simp [State.meterResult]
@[simp] theorem State.meterResult_port (m : Fin 8) (o : MeterOutcome) (n : MeterState) (s : State) : (s.meterResult m o n).port = s.port := by
  simp [State.meterResult]
@[simp] theorem State.meterResult_pending (m : Fin 8) (o : MeterOutcome) (n : MeterState) (s : State) : (s.meterResult m o n).pending = s.pending := by
  simp [State.meterResult]

/-! ### disturb -/

@[simp] theorem State.disturb_clock (m : Fin 8) (s : State) : (s.disturb m).clock = s.clock := by
  simp [State.disturb]
@[simp] theorem State.disturb_pins (m : Fin 8) (s : State) : (s.disturb m).pins = s.pins := by
  simp [State.disturb]
@[simp] theorem State.disturb_pods (m : Fin 8) (s : State) : (s.disturb m).pods = s.pods := by
  simp [State.disturb]
@[simp] theorem State.disturb_channels (m : Fin 8) (s : State) : (s.disturb m).channels = s.channels := by
  simp [State.disturb]
@[simp] theorem State.disturb_decoders (m : Fin 8) (s : State) : (s.disturb m).decoders = s.decoders := by
  simp [State.disturb]
@[simp] theorem State.disturb_store (m : Fin 8) (s : State) : (s.disturb m).store = s.store := by
  simp [State.disturb]
@[simp] theorem State.disturb_panel (m : Fin 8) (s : State) : (s.disturb m).panel = s.panel := by
  simp [State.disturb]
@[simp] theorem State.disturb_backlight (m : Fin 8) (s : State) : (s.disturb m).backlight = s.backlight := by
  simp [State.disturb]
@[simp] theorem State.disturb_port (m : Fin 8) (s : State) : (s.disturb m).port = s.port := by
  simp [State.disturb]
@[simp] theorem State.disturb_pending (m : Fin 8) (s : State) : (s.disturb m).pending = s.pending := by
  simp [State.disturb]

/-! ### setMeterState -/

@[simp] theorem State.setMeterState_clock (m : Fin 8) (n : MeterState) (s : State) : (s.setMeterState m n).clock = s.clock := by
  simp [State.setMeterState]
@[simp] theorem State.setMeterState_pins (m : Fin 8) (n : MeterState) (s : State) : (s.setMeterState m n).pins = s.pins := by
  simp [State.setMeterState]
@[simp] theorem State.setMeterState_pods (m : Fin 8) (n : MeterState) (s : State) : (s.setMeterState m n).pods = s.pods := by
  simp [State.setMeterState]
@[simp] theorem State.setMeterState_channels (m : Fin 8) (n : MeterState) (s : State) : (s.setMeterState m n).channels = s.channels := by
  simp [State.setMeterState]
@[simp] theorem State.setMeterState_decoders (m : Fin 8) (n : MeterState) (s : State) : (s.setMeterState m n).decoders = s.decoders := by
  simp [State.setMeterState]
@[simp] theorem State.setMeterState_store (m : Fin 8) (n : MeterState) (s : State) : (s.setMeterState m n).store = s.store := by
  simp [State.setMeterState]
@[simp] theorem State.setMeterState_panel (m : Fin 8) (n : MeterState) (s : State) : (s.setMeterState m n).panel = s.panel := by
  simp [State.setMeterState]
@[simp] theorem State.setMeterState_backlight (m : Fin 8) (n : MeterState) (s : State) : (s.setMeterState m n).backlight = s.backlight := by
  simp [State.setMeterState]
@[simp] theorem State.setMeterState_port (m : Fin 8) (n : MeterState) (s : State) : (s.setMeterState m n).port = s.port := by
  simp [State.setMeterState]
@[simp] theorem State.setMeterState_pending (m : Fin 8) (n : MeterState) (s : State) : (s.setMeterState m n).pending = s.pending := by
  simp [State.setMeterState]

/-! ### armedEdge -/

@[simp] theorem State.armedEdge_clock (m : Fin 8) (c : Fin 32) (r : Bool) (t : Nat) (h : Option Nat) (s : State) : (s.armedEdge m c r t h).clock = s.clock := by
  unfold State.armedEdge; (try dsimp only); (repeat' split) <;> simp
@[simp] theorem State.armedEdge_pins (m : Fin 8) (c : Fin 32) (r : Bool) (t : Nat) (h : Option Nat) (s : State) : (s.armedEdge m c r t h).pins = s.pins := by
  unfold State.armedEdge; (try dsimp only); (repeat' split) <;> simp
@[simp] theorem State.armedEdge_pods (m : Fin 8) (c : Fin 32) (r : Bool) (t : Nat) (h : Option Nat) (s : State) : (s.armedEdge m c r t h).pods = s.pods := by
  unfold State.armedEdge; (try dsimp only); (repeat' split) <;> simp
@[simp] theorem State.armedEdge_channels (m : Fin 8) (c : Fin 32) (r : Bool) (t : Nat) (h : Option Nat) (s : State) : (s.armedEdge m c r t h).channels = s.channels := by
  unfold State.armedEdge; (try dsimp only); (repeat' split) <;> simp
@[simp] theorem State.armedEdge_decoders (m : Fin 8) (c : Fin 32) (r : Bool) (t : Nat) (h : Option Nat) (s : State) : (s.armedEdge m c r t h).decoders = s.decoders := by
  unfold State.armedEdge; (try dsimp only); (repeat' split) <;> simp
@[simp] theorem State.armedEdge_store (m : Fin 8) (c : Fin 32) (r : Bool) (t : Nat) (h : Option Nat) (s : State) : (s.armedEdge m c r t h).store = s.store := by
  unfold State.armedEdge; (try dsimp only); (repeat' split) <;> simp
@[simp] theorem State.armedEdge_panel (m : Fin 8) (c : Fin 32) (r : Bool) (t : Nat) (h : Option Nat) (s : State) : (s.armedEdge m c r t h).panel = s.panel := by
  unfold State.armedEdge; (try dsimp only); (repeat' split) <;> simp
@[simp] theorem State.armedEdge_backlight (m : Fin 8) (c : Fin 32) (r : Bool) (t : Nat) (h : Option Nat) (s : State) : (s.armedEdge m c r t h).backlight = s.backlight := by
  unfold State.armedEdge; (try dsimp only); (repeat' split) <;> simp
@[simp] theorem State.armedEdge_port (m : Fin 8) (c : Fin 32) (r : Bool) (t : Nat) (h : Option Nat) (s : State) : (s.armedEdge m c r t h).port = s.port := by
  unfold State.armedEdge; (try dsimp only); (repeat' split) <;> simp
@[simp] theorem State.armedEdge_pending (m : Fin 8) (c : Fin 32) (r : Bool) (t : Nat) (h : Option Nat) (s : State) : (s.armedEdge m c r t h).pending = s.pending := by
  unfold State.armedEdge; (try dsimp only); (repeat' split) <;> simp

/-! ### timingEdge -/

@[simp] theorem State.timingEdge_clock (m : Fin 8) (c : Fin 32) (r : Bool) (t st : Nat) (s : State) : (s.timingEdge m c r t st).clock = s.clock := by
  unfold State.timingEdge; (try dsimp only); (repeat' split) <;> simp
@[simp] theorem State.timingEdge_pins (m : Fin 8) (c : Fin 32) (r : Bool) (t st : Nat) (s : State) : (s.timingEdge m c r t st).pins = s.pins := by
  unfold State.timingEdge; (try dsimp only); (repeat' split) <;> simp
@[simp] theorem State.timingEdge_pods (m : Fin 8) (c : Fin 32) (r : Bool) (t st : Nat) (s : State) : (s.timingEdge m c r t st).pods = s.pods := by
  unfold State.timingEdge; (try dsimp only); (repeat' split) <;> simp
@[simp] theorem State.timingEdge_channels (m : Fin 8) (c : Fin 32) (r : Bool) (t st : Nat) (s : State) : (s.timingEdge m c r t st).channels = s.channels := by
  unfold State.timingEdge; (try dsimp only); (repeat' split) <;> simp
@[simp] theorem State.timingEdge_decoders (m : Fin 8) (c : Fin 32) (r : Bool) (t st : Nat) (s : State) : (s.timingEdge m c r t st).decoders = s.decoders := by
  unfold State.timingEdge; (try dsimp only); (repeat' split) <;> simp
@[simp] theorem State.timingEdge_store (m : Fin 8) (c : Fin 32) (r : Bool) (t st : Nat) (s : State) : (s.timingEdge m c r t st).store = s.store := by
  unfold State.timingEdge; (try dsimp only); (repeat' split) <;> simp
@[simp] theorem State.timingEdge_panel (m : Fin 8) (c : Fin 32) (r : Bool) (t st : Nat) (s : State) : (s.timingEdge m c r t st).panel = s.panel := by
  unfold State.timingEdge; (try dsimp only); (repeat' split) <;> simp
@[simp] theorem State.timingEdge_backlight (m : Fin 8) (c : Fin 32) (r : Bool) (t st : Nat) (s : State) : (s.timingEdge m c r t st).backlight = s.backlight := by
  unfold State.timingEdge; (try dsimp only); (repeat' split) <;> simp
@[simp] theorem State.timingEdge_port (m : Fin 8) (c : Fin 32) (r : Bool) (t st : Nat) (s : State) : (s.timingEdge m c r t st).port = s.port := by
  unfold State.timingEdge; (try dsimp only); (repeat' split) <;> simp
@[simp] theorem State.timingEdge_pending (m : Fin 8) (c : Fin 32) (r : Bool) (t st : Nat) (s : State) : (s.timingEdge m c r t st).pending = s.pending := by
  unfold State.timingEdge; (try dsimp only); (repeat' split) <;> simp

/-! ### countingEdge -/

@[simp] theorem State.countingEdge_clock (m : Fin 8) (c : Fin 32) (r : Bool) (t o n : Nat) (h : Option Nat) (s : State) : (s.countingEdge m c r t o n h).clock = s.clock := by
  unfold State.countingEdge; (try dsimp only); (repeat' split) <;> simp
@[simp] theorem State.countingEdge_pins (m : Fin 8) (c : Fin 32) (r : Bool) (t o n : Nat) (h : Option Nat) (s : State) : (s.countingEdge m c r t o n h).pins = s.pins := by
  unfold State.countingEdge; (try dsimp only); (repeat' split) <;> simp
@[simp] theorem State.countingEdge_pods (m : Fin 8) (c : Fin 32) (r : Bool) (t o n : Nat) (h : Option Nat) (s : State) : (s.countingEdge m c r t o n h).pods = s.pods := by
  unfold State.countingEdge; (try dsimp only); (repeat' split) <;> simp
@[simp] theorem State.countingEdge_channels (m : Fin 8) (c : Fin 32) (r : Bool) (t o n : Nat) (h : Option Nat) (s : State) : (s.countingEdge m c r t o n h).channels = s.channels := by
  unfold State.countingEdge; (try dsimp only); (repeat' split) <;> simp
@[simp] theorem State.countingEdge_decoders (m : Fin 8) (c : Fin 32) (r : Bool) (t o n : Nat) (h : Option Nat) (s : State) : (s.countingEdge m c r t o n h).decoders = s.decoders := by
  unfold State.countingEdge; (try dsimp only); (repeat' split) <;> simp
@[simp] theorem State.countingEdge_store (m : Fin 8) (c : Fin 32) (r : Bool) (t o n : Nat) (h : Option Nat) (s : State) : (s.countingEdge m c r t o n h).store = s.store := by
  unfold State.countingEdge; (try dsimp only); (repeat' split) <;> simp
@[simp] theorem State.countingEdge_panel (m : Fin 8) (c : Fin 32) (r : Bool) (t o n : Nat) (h : Option Nat) (s : State) : (s.countingEdge m c r t o n h).panel = s.panel := by
  unfold State.countingEdge; (try dsimp only); (repeat' split) <;> simp
@[simp] theorem State.countingEdge_backlight (m : Fin 8) (c : Fin 32) (r : Bool) (t o n : Nat) (h : Option Nat) (s : State) : (s.countingEdge m c r t o n h).backlight = s.backlight := by
  unfold State.countingEdge; (try dsimp only); (repeat' split) <;> simp
@[simp] theorem State.countingEdge_port (m : Fin 8) (c : Fin 32) (r : Bool) (t o n : Nat) (h : Option Nat) (s : State) : (s.countingEdge m c r t o n h).port = s.port := by
  unfold State.countingEdge; (try dsimp only); (repeat' split) <;> simp
@[simp] theorem State.countingEdge_pending (m : Fin 8) (c : Fin 32) (r : Bool) (t o n : Nat) (h : Option Nat) (s : State) : (s.countingEdge m c r t o n h).pending = s.pending := by
  unfold State.countingEdge; (try dsimp only); (repeat' split) <;> simp

/-! ### overrangeEnd -/

@[simp] theorem State.overrangeEnd_clock (m : Fin 8) (s : State) : (s.overrangeEnd m).clock = s.clock := by
  simp [State.overrangeEnd]
@[simp] theorem State.overrangeEnd_pins (m : Fin 8) (s : State) : (s.overrangeEnd m).pins = s.pins := by
  simp [State.overrangeEnd]
@[simp] theorem State.overrangeEnd_pods (m : Fin 8) (s : State) : (s.overrangeEnd m).pods = s.pods := by
  simp [State.overrangeEnd]
@[simp] theorem State.overrangeEnd_channels (m : Fin 8) (s : State) : (s.overrangeEnd m).channels = s.channels := by
  simp [State.overrangeEnd]
@[simp] theorem State.overrangeEnd_decoders (m : Fin 8) (s : State) : (s.overrangeEnd m).decoders = s.decoders := by
  simp [State.overrangeEnd]
@[simp] theorem State.overrangeEnd_store (m : Fin 8) (s : State) : (s.overrangeEnd m).store = s.store := by
  simp [State.overrangeEnd]
@[simp] theorem State.overrangeEnd_panel (m : Fin 8) (s : State) : (s.overrangeEnd m).panel = s.panel := by
  simp [State.overrangeEnd]
@[simp] theorem State.overrangeEnd_backlight (m : Fin 8) (s : State) : (s.overrangeEnd m).backlight = s.backlight := by
  simp [State.overrangeEnd]
@[simp] theorem State.overrangeEnd_port (m : Fin 8) (s : State) : (s.overrangeEnd m).port = s.port := by
  simp [State.overrangeEnd]
@[simp] theorem State.overrangeEnd_pending (m : Fin 8) (s : State) : (s.overrangeEnd m).pending = s.pending := by
  simp [State.overrangeEnd]

/-! ### overrangeFirst -/

@[simp] theorem State.overrangeFirst_clock (m : Fin 8) (t : Nat) (s : State) : (s.overrangeFirst m t).clock = s.clock := by
  unfold State.overrangeFirst; (repeat' split) <;> simp
@[simp] theorem State.overrangeFirst_pins (m : Fin 8) (t : Nat) (s : State) : (s.overrangeFirst m t).pins = s.pins := by
  unfold State.overrangeFirst; (repeat' split) <;> simp
@[simp] theorem State.overrangeFirst_pods (m : Fin 8) (t : Nat) (s : State) : (s.overrangeFirst m t).pods = s.pods := by
  unfold State.overrangeFirst; (repeat' split) <;> simp
@[simp] theorem State.overrangeFirst_channels (m : Fin 8) (t : Nat) (s : State) : (s.overrangeFirst m t).channels = s.channels := by
  unfold State.overrangeFirst; (repeat' split) <;> simp
@[simp] theorem State.overrangeFirst_decoders (m : Fin 8) (t : Nat) (s : State) : (s.overrangeFirst m t).decoders = s.decoders := by
  unfold State.overrangeFirst; (repeat' split) <;> simp
@[simp] theorem State.overrangeFirst_store (m : Fin 8) (t : Nat) (s : State) : (s.overrangeFirst m t).store = s.store := by
  unfold State.overrangeFirst; (repeat' split) <;> simp
@[simp] theorem State.overrangeFirst_panel (m : Fin 8) (t : Nat) (s : State) : (s.overrangeFirst m t).panel = s.panel := by
  unfold State.overrangeFirst; (repeat' split) <;> simp
@[simp] theorem State.overrangeFirst_backlight (m : Fin 8) (t : Nat) (s : State) : (s.overrangeFirst m t).backlight = s.backlight := by
  unfold State.overrangeFirst; (repeat' split) <;> simp
@[simp] theorem State.overrangeFirst_port (m : Fin 8) (t : Nat) (s : State) : (s.overrangeFirst m t).port = s.port := by
  unfold State.overrangeFirst; (repeat' split) <;> simp
@[simp] theorem State.overrangeFirst_pending (m : Fin 8) (t : Nat) (s : State) : (s.overrangeFirst m t).pending = s.pending := by
  unfold State.overrangeFirst; (repeat' split) <;> simp

/-! ### takeEdge -/

@[simp] theorem State.takeEdge_clock (m : Fin 8) (c : Fin 32) (r : Bool) (t : Nat) (s : State) : (s.takeEdge m c r t).clock = s.clock := by
  unfold State.takeEdge; (repeat' split) <;> simp
@[simp] theorem State.takeEdge_pins (m : Fin 8) (c : Fin 32) (r : Bool) (t : Nat) (s : State) : (s.takeEdge m c r t).pins = s.pins := by
  unfold State.takeEdge; (repeat' split) <;> simp
@[simp] theorem State.takeEdge_pods (m : Fin 8) (c : Fin 32) (r : Bool) (t : Nat) (s : State) : (s.takeEdge m c r t).pods = s.pods := by
  unfold State.takeEdge; (repeat' split) <;> simp
@[simp] theorem State.takeEdge_channels (m : Fin 8) (c : Fin 32) (r : Bool) (t : Nat) (s : State) : (s.takeEdge m c r t).channels = s.channels := by
  unfold State.takeEdge; (repeat' split) <;> simp
@[simp] theorem State.takeEdge_decoders (m : Fin 8) (c : Fin 32) (r : Bool) (t : Nat) (s : State) : (s.takeEdge m c r t).decoders = s.decoders := by
  unfold State.takeEdge; (repeat' split) <;> simp
@[simp] theorem State.takeEdge_store (m : Fin 8) (c : Fin 32) (r : Bool) (t : Nat) (s : State) : (s.takeEdge m c r t).store = s.store := by
  unfold State.takeEdge; (repeat' split) <;> simp
@[simp] theorem State.takeEdge_panel (m : Fin 8) (c : Fin 32) (r : Bool) (t : Nat) (s : State) : (s.takeEdge m c r t).panel = s.panel := by
  unfold State.takeEdge; (repeat' split) <;> simp
@[simp] theorem State.takeEdge_backlight (m : Fin 8) (c : Fin 32) (r : Bool) (t : Nat) (s : State) : (s.takeEdge m c r t).backlight = s.backlight := by
  unfold State.takeEdge; (repeat' split) <;> simp
@[simp] theorem State.takeEdge_port (m : Fin 8) (c : Fin 32) (r : Bool) (t : Nat) (s : State) : (s.takeEdge m c r t).port = s.port := by
  unfold State.takeEdge; (repeat' split) <;> simp
@[simp] theorem State.takeEdge_pending (m : Fin 8) (c : Fin 32) (r : Bool) (t : Nat) (s : State) : (s.takeEdge m c r t).pending = s.pending := by
  unfold State.takeEdge; (repeat' split) <;> simp

/-! ### takeStart -/

@[simp] theorem State.takeStart_clock (m : Fin 8) (t : Nat) (s : State) : (s.takeStart m t).clock = s.clock := by
  unfold State.takeStart; (repeat' split) <;> simp
@[simp] theorem State.takeStart_pins (m : Fin 8) (t : Nat) (s : State) : (s.takeStart m t).pins = s.pins := by
  unfold State.takeStart; (repeat' split) <;> simp
@[simp] theorem State.takeStart_pods (m : Fin 8) (t : Nat) (s : State) : (s.takeStart m t).pods = s.pods := by
  unfold State.takeStart; (repeat' split) <;> simp
@[simp] theorem State.takeStart_channels (m : Fin 8) (t : Nat) (s : State) : (s.takeStart m t).channels = s.channels := by
  unfold State.takeStart; (repeat' split) <;> simp
@[simp] theorem State.takeStart_decoders (m : Fin 8) (t : Nat) (s : State) : (s.takeStart m t).decoders = s.decoders := by
  unfold State.takeStart; (repeat' split) <;> simp
@[simp] theorem State.takeStart_store (m : Fin 8) (t : Nat) (s : State) : (s.takeStart m t).store = s.store := by
  unfold State.takeStart; (repeat' split) <;> simp
@[simp] theorem State.takeStart_panel (m : Fin 8) (t : Nat) (s : State) : (s.takeStart m t).panel = s.panel := by
  unfold State.takeStart; (repeat' split) <;> simp
@[simp] theorem State.takeStart_backlight (m : Fin 8) (t : Nat) (s : State) : (s.takeStart m t).backlight = s.backlight := by
  unfold State.takeStart; (repeat' split) <;> simp
@[simp] theorem State.takeStart_port (m : Fin 8) (t : Nat) (s : State) : (s.takeStart m t).port = s.port := by
  unfold State.takeStart; (repeat' split) <;> simp
@[simp] theorem State.takeStart_pending (m : Fin 8) (t : Nat) (s : State) : (s.takeStart m t).pending = s.pending := by
  unfold State.takeStart; (repeat' split) <;> simp

/-! ### meterEdge -/

@[simp] theorem State.meterEdge_clock (m : Fin 8) (c : Fin 32) (r : Bool) (t : Nat) (s : State) : (s.meterEdge m c r t).clock = s.clock := by
  unfold State.meterEdge; (repeat' split) <;> simp
@[simp] theorem State.meterEdge_pins (m : Fin 8) (c : Fin 32) (r : Bool) (t : Nat) (s : State) : (s.meterEdge m c r t).pins = s.pins := by
  unfold State.meterEdge; (repeat' split) <;> simp
@[simp] theorem State.meterEdge_pods (m : Fin 8) (c : Fin 32) (r : Bool) (t : Nat) (s : State) : (s.meterEdge m c r t).pods = s.pods := by
  unfold State.meterEdge; (repeat' split) <;> simp
@[simp] theorem State.meterEdge_channels (m : Fin 8) (c : Fin 32) (r : Bool) (t : Nat) (s : State) : (s.meterEdge m c r t).channels = s.channels := by
  unfold State.meterEdge; (repeat' split) <;> simp
@[simp] theorem State.meterEdge_decoders (m : Fin 8) (c : Fin 32) (r : Bool) (t : Nat) (s : State) : (s.meterEdge m c r t).decoders = s.decoders := by
  unfold State.meterEdge; (repeat' split) <;> simp
@[simp] theorem State.meterEdge_store (m : Fin 8) (c : Fin 32) (r : Bool) (t : Nat) (s : State) : (s.meterEdge m c r t).store = s.store := by
  unfold State.meterEdge; (repeat' split) <;> simp
@[simp] theorem State.meterEdge_panel (m : Fin 8) (c : Fin 32) (r : Bool) (t : Nat) (s : State) : (s.meterEdge m c r t).panel = s.panel := by
  unfold State.meterEdge; (repeat' split) <;> simp
@[simp] theorem State.meterEdge_backlight (m : Fin 8) (c : Fin 32) (r : Bool) (t : Nat) (s : State) : (s.meterEdge m c r t).backlight = s.backlight := by
  unfold State.meterEdge; (repeat' split) <;> simp
@[simp] theorem State.meterEdge_port (m : Fin 8) (c : Fin 32) (r : Bool) (t : Nat) (s : State) : (s.meterEdge m c r t).port = s.port := by
  unfold State.meterEdge; (repeat' split) <;> simp
@[simp] theorem State.meterEdge_pending (m : Fin 8) (c : Fin 32) (r : Bool) (t : Nat) (s : State) : (s.meterEdge m c r t).pending = s.pending := by
  unfold State.meterEdge; (repeat' split) <;> simp

/-! ### meterCleanEnd -/

@[simp] theorem State.meterCleanEnd_clock (d : Fin 6) (a : Byte) (t : Nat) (m : Fin 8) (s : State) : (State.meterCleanEnd d a t s m).clock = s.clock := by
  unfold State.meterCleanEnd; (repeat' split) <;> simp
@[simp] theorem State.meterCleanEnd_pins (d : Fin 6) (a : Byte) (t : Nat) (m : Fin 8) (s : State) : (State.meterCleanEnd d a t s m).pins = s.pins := by
  unfold State.meterCleanEnd; (repeat' split) <;> simp
@[simp] theorem State.meterCleanEnd_pods (d : Fin 6) (a : Byte) (t : Nat) (m : Fin 8) (s : State) : (State.meterCleanEnd d a t s m).pods = s.pods := by
  unfold State.meterCleanEnd; (repeat' split) <;> simp
@[simp] theorem State.meterCleanEnd_channels (d : Fin 6) (a : Byte) (t : Nat) (m : Fin 8) (s : State) : (State.meterCleanEnd d a t s m).channels = s.channels := by
  unfold State.meterCleanEnd; (repeat' split) <;> simp
@[simp] theorem State.meterCleanEnd_decoders (d : Fin 6) (a : Byte) (t : Nat) (m : Fin 8) (s : State) : (State.meterCleanEnd d a t s m).decoders = s.decoders := by
  unfold State.meterCleanEnd; (repeat' split) <;> simp
@[simp] theorem State.meterCleanEnd_store (d : Fin 6) (a : Byte) (t : Nat) (m : Fin 8) (s : State) : (State.meterCleanEnd d a t s m).store = s.store := by
  unfold State.meterCleanEnd; (repeat' split) <;> simp
@[simp] theorem State.meterCleanEnd_panel (d : Fin 6) (a : Byte) (t : Nat) (m : Fin 8) (s : State) : (State.meterCleanEnd d a t s m).panel = s.panel := by
  unfold State.meterCleanEnd; (repeat' split) <;> simp
@[simp] theorem State.meterCleanEnd_backlight (d : Fin 6) (a : Byte) (t : Nat) (m : Fin 8) (s : State) : (State.meterCleanEnd d a t s m).backlight = s.backlight := by
  unfold State.meterCleanEnd; (repeat' split) <;> simp
@[simp] theorem State.meterCleanEnd_port (d : Fin 6) (a : Byte) (t : Nat) (m : Fin 8) (s : State) : (State.meterCleanEnd d a t s m).port = s.port := by
  unfold State.meterCleanEnd; (repeat' split) <;> simp
@[simp] theorem State.meterCleanEnd_pending (d : Fin 6) (a : Byte) (t : Nat) (m : Fin 8) (s : State) : (State.meterCleanEnd d a t s m).pending = s.pending := by
  unfold State.meterCleanEnd; (repeat' split) <;> simp

/-! ### cleanEndEvent -/

@[simp] theorem State.cleanEndEvent_clock (d : Fin 6) (a : Byte) (t : Nat) (s : State) : (s.cleanEndEvent d a t).clock = s.clock := by
  exact foldl_keeps State.clock _ (fun _ _ => by simp) _ _
@[simp] theorem State.cleanEndEvent_pins (d : Fin 6) (a : Byte) (t : Nat) (s : State) : (s.cleanEndEvent d a t).pins = s.pins := by
  exact foldl_keeps State.pins _ (fun _ _ => by simp) _ _
@[simp] theorem State.cleanEndEvent_pods (d : Fin 6) (a : Byte) (t : Nat) (s : State) : (s.cleanEndEvent d a t).pods = s.pods := by
  exact foldl_keeps State.pods _ (fun _ _ => by simp) _ _
@[simp] theorem State.cleanEndEvent_channels (d : Fin 6) (a : Byte) (t : Nat) (s : State) : (s.cleanEndEvent d a t).channels = s.channels := by
  exact foldl_keeps State.channels _ (fun _ _ => by simp) _ _
@[simp] theorem State.cleanEndEvent_decoders (d : Fin 6) (a : Byte) (t : Nat) (s : State) : (s.cleanEndEvent d a t).decoders = s.decoders := by
  exact foldl_keeps State.decoders _ (fun _ _ => by simp) _ _
@[simp] theorem State.cleanEndEvent_store (d : Fin 6) (a : Byte) (t : Nat) (s : State) : (s.cleanEndEvent d a t).store = s.store := by
  exact foldl_keeps State.store _ (fun _ _ => by simp) _ _
@[simp] theorem State.cleanEndEvent_panel (d : Fin 6) (a : Byte) (t : Nat) (s : State) : (s.cleanEndEvent d a t).panel = s.panel := by
  exact foldl_keeps State.panel _ (fun _ _ => by simp) _ _
@[simp] theorem State.cleanEndEvent_backlight (d : Fin 6) (a : Byte) (t : Nat) (s : State) : (s.cleanEndEvent d a t).backlight = s.backlight := by
  exact foldl_keeps State.backlight _ (fun _ _ => by simp) _ _
@[simp] theorem State.cleanEndEvent_port (d : Fin 6) (a : Byte) (t : Nat) (s : State) : (s.cleanEndEvent d a t).port = s.port := by
  exact foldl_keeps State.port _ (fun _ _ => by simp) _ _
@[simp] theorem State.cleanEndEvent_pending (d : Fin 6) (a : Byte) (t : Nat) (s : State) : (s.cleanEndEvent d a t).pending = s.pending := by
  exact foldl_keeps State.pending _ (fun _ _ => by simp) _ _

/-! ### followerOpen -/

@[simp] theorem State.followerOpen_clock (g : Fin 8) (t : Nat) (f : Fin 8) (s : State) : (State.followerOpen g t s f).clock = s.clock := by
  unfold State.followerOpen; (repeat' split) <;> simp
@[simp] theorem State.followerOpen_pins (g : Fin 8) (t : Nat) (f : Fin 8) (s : State) : (State.followerOpen g t s f).pins = s.pins := by
  unfold State.followerOpen; (repeat' split) <;> simp
@[simp] theorem State.followerOpen_pods (g : Fin 8) (t : Nat) (f : Fin 8) (s : State) : (State.followerOpen g t s f).pods = s.pods := by
  unfold State.followerOpen; (repeat' split) <;> simp
@[simp] theorem State.followerOpen_channels (g : Fin 8) (t : Nat) (f : Fin 8) (s : State) : (State.followerOpen g t s f).channels = s.channels := by
  unfold State.followerOpen; (repeat' split) <;> simp
@[simp] theorem State.followerOpen_decoders (g : Fin 8) (t : Nat) (f : Fin 8) (s : State) : (State.followerOpen g t s f).decoders = s.decoders := by
  unfold State.followerOpen; (repeat' split) <;> simp
@[simp] theorem State.followerOpen_store (g : Fin 8) (t : Nat) (f : Fin 8) (s : State) : (State.followerOpen g t s f).store = s.store := by
  unfold State.followerOpen; (repeat' split) <;> simp
@[simp] theorem State.followerOpen_panel (g : Fin 8) (t : Nat) (f : Fin 8) (s : State) : (State.followerOpen g t s f).panel = s.panel := by
  unfold State.followerOpen; (repeat' split) <;> simp
@[simp] theorem State.followerOpen_backlight (g : Fin 8) (t : Nat) (f : Fin 8) (s : State) : (State.followerOpen g t s f).backlight = s.backlight := by
  unfold State.followerOpen; (repeat' split) <;> simp
@[simp] theorem State.followerOpen_port (g : Fin 8) (t : Nat) (f : Fin 8) (s : State) : (State.followerOpen g t s f).port = s.port := by
  unfold State.followerOpen; (repeat' split) <;> simp
@[simp] theorem State.followerOpen_pending (g : Fin 8) (t : Nat) (f : Fin 8) (s : State) : (State.followerOpen g t s f).pending = s.pending := by
  unfold State.followerOpen; (repeat' split) <;> simp

/-! ### followerEnd -/

@[simp] theorem State.followerEnd_clock (g : Fin 8) (t : Nat) (r : Bool) (f : Fin 8) (s : State) : (State.followerEnd g t r s f).clock = s.clock := by
  unfold State.followerEnd; (repeat' split) <;> simp
@[simp] theorem State.followerEnd_pins (g : Fin 8) (t : Nat) (r : Bool) (f : Fin 8) (s : State) : (State.followerEnd g t r s f).pins = s.pins := by
  unfold State.followerEnd; (repeat' split) <;> simp
@[simp] theorem State.followerEnd_pods (g : Fin 8) (t : Nat) (r : Bool) (f : Fin 8) (s : State) : (State.followerEnd g t r s f).pods = s.pods := by
  unfold State.followerEnd; (repeat' split) <;> simp
@[simp] theorem State.followerEnd_channels (g : Fin 8) (t : Nat) (r : Bool) (f : Fin 8) (s : State) : (State.followerEnd g t r s f).channels = s.channels := by
  unfold State.followerEnd; (repeat' split) <;> simp
@[simp] theorem State.followerEnd_decoders (g : Fin 8) (t : Nat) (r : Bool) (f : Fin 8) (s : State) : (State.followerEnd g t r s f).decoders = s.decoders := by
  unfold State.followerEnd; (repeat' split) <;> simp
@[simp] theorem State.followerEnd_store (g : Fin 8) (t : Nat) (r : Bool) (f : Fin 8) (s : State) : (State.followerEnd g t r s f).store = s.store := by
  unfold State.followerEnd; (repeat' split) <;> simp
@[simp] theorem State.followerEnd_panel (g : Fin 8) (t : Nat) (r : Bool) (f : Fin 8) (s : State) : (State.followerEnd g t r s f).panel = s.panel := by
  unfold State.followerEnd; (repeat' split) <;> simp
@[simp] theorem State.followerEnd_backlight (g : Fin 8) (t : Nat) (r : Bool) (f : Fin 8) (s : State) : (State.followerEnd g t r s f).backlight = s.backlight := by
  unfold State.followerEnd; (repeat' split) <;> simp
@[simp] theorem State.followerEnd_port (g : Fin 8) (t : Nat) (r : Bool) (f : Fin 8) (s : State) : (State.followerEnd g t r s f).port = s.port := by
  unfold State.followerEnd; (repeat' split) <;> simp
@[simp] theorem State.followerEnd_pending (g : Fin 8) (t : Nat) (r : Bool) (f : Fin 8) (s : State) : (State.followerEnd g t r s f).pending = s.pending := by
  unfold State.followerEnd; (repeat' split) <;> simp

/-! ### followerStop -/

@[simp] theorem State.followerStop_clock (g : Fin 8) (f : Fin 8) (s : State) : (State.followerStop g s f).clock = s.clock := by
  unfold State.followerStop; (repeat' split) <;> simp
@[simp] theorem State.followerStop_pins (g : Fin 8) (f : Fin 8) (s : State) : (State.followerStop g s f).pins = s.pins := by
  unfold State.followerStop; (repeat' split) <;> simp
@[simp] theorem State.followerStop_pods (g : Fin 8) (f : Fin 8) (s : State) : (State.followerStop g s f).pods = s.pods := by
  unfold State.followerStop; (repeat' split) <;> simp
@[simp] theorem State.followerStop_channels (g : Fin 8) (f : Fin 8) (s : State) : (State.followerStop g s f).channels = s.channels := by
  unfold State.followerStop; (repeat' split) <;> simp
@[simp] theorem State.followerStop_decoders (g : Fin 8) (f : Fin 8) (s : State) : (State.followerStop g s f).decoders = s.decoders := by
  unfold State.followerStop; (repeat' split) <;> simp
@[simp] theorem State.followerStop_store (g : Fin 8) (f : Fin 8) (s : State) : (State.followerStop g s f).store = s.store := by
  unfold State.followerStop; (repeat' split) <;> simp
@[simp] theorem State.followerStop_panel (g : Fin 8) (f : Fin 8) (s : State) : (State.followerStop g s f).panel = s.panel := by
  unfold State.followerStop; (repeat' split) <;> simp
@[simp] theorem State.followerStop_backlight (g : Fin 8) (f : Fin 8) (s : State) : (State.followerStop g s f).backlight = s.backlight := by
  unfold State.followerStop; (repeat' split) <;> simp
@[simp] theorem State.followerStop_port (g : Fin 8) (f : Fin 8) (s : State) : (State.followerStop g s f).port = s.port := by
  unfold State.followerStop; (repeat' split) <;> simp
@[simp] theorem State.followerStop_pending (g : Fin 8) (f : Fin 8) (s : State) : (State.followerStop g s f).pending = s.pending := by
  unfold State.followerStop; (repeat' split) <;> simp

/-! ### openWindow -/

@[simp] theorem State.openWindow_clock (g : Fin 8) (t : Nat) (s : State) : (s.openWindow g t).clock = s.clock := by
  unfold State.openWindow; rw [foldl_keeps State.clock _ (fun _ _ => by simp)]; simp
@[simp] theorem State.openWindow_pins (g : Fin 8) (t : Nat) (s : State) : (s.openWindow g t).pins = s.pins := by
  unfold State.openWindow; rw [foldl_keeps State.pins _ (fun _ _ => by simp)]; simp
@[simp] theorem State.openWindow_pods (g : Fin 8) (t : Nat) (s : State) : (s.openWindow g t).pods = s.pods := by
  unfold State.openWindow; rw [foldl_keeps State.pods _ (fun _ _ => by simp)]; simp
@[simp] theorem State.openWindow_channels (g : Fin 8) (t : Nat) (s : State) : (s.openWindow g t).channels = s.channels := by
  unfold State.openWindow; rw [foldl_keeps State.channels _ (fun _ _ => by simp)]; simp
@[simp] theorem State.openWindow_decoders (g : Fin 8) (t : Nat) (s : State) : (s.openWindow g t).decoders = s.decoders := by
  unfold State.openWindow; rw [foldl_keeps State.decoders _ (fun _ _ => by simp)]; simp
@[simp] theorem State.openWindow_store (g : Fin 8) (t : Nat) (s : State) : (s.openWindow g t).store = s.store := by
  unfold State.openWindow; rw [foldl_keeps State.store _ (fun _ _ => by simp)]; simp
@[simp] theorem State.openWindow_panel (g : Fin 8) (t : Nat) (s : State) : (s.openWindow g t).panel = s.panel := by
  unfold State.openWindow; rw [foldl_keeps State.panel _ (fun _ _ => by simp)]; simp
@[simp] theorem State.openWindow_backlight (g : Fin 8) (t : Nat) (s : State) : (s.openWindow g t).backlight = s.backlight := by
  unfold State.openWindow; rw [foldl_keeps State.backlight _ (fun _ _ => by simp)]; simp
@[simp] theorem State.openWindow_port (g : Fin 8) (t : Nat) (s : State) : (s.openWindow g t).port = s.port := by
  unfold State.openWindow; rw [foldl_keeps State.port _ (fun _ _ => by simp)]; simp
@[simp] theorem State.openWindow_pending (g : Fin 8) (t : Nat) (s : State) : (s.openWindow g t).pending = s.pending := by
  unfold State.openWindow; rw [foldl_keeps State.pending _ (fun _ _ => by simp)]; simp

/-! ### expireWindow -/

@[simp] theorem State.expireWindow_pins (g : Fin 8) (o : Nat) (l : List (Fin 8)) (s : State) : (s.expireWindow g o l).pins = s.pins := by
  unfold State.expireWindow; (try dsimp only); rw [foldl_keeps State.pins _ (fun _ _ => by simp)]; simp
@[simp] theorem State.expireWindow_pods (g : Fin 8) (o : Nat) (l : List (Fin 8)) (s : State) : (s.expireWindow g o l).pods = s.pods := by
  unfold State.expireWindow; (try dsimp only); rw [foldl_keeps State.pods _ (fun _ _ => by simp)]; simp
@[simp] theorem State.expireWindow_channels (g : Fin 8) (o : Nat) (l : List (Fin 8)) (s : State) : (s.expireWindow g o l).channels = s.channels := by
  unfold State.expireWindow; (try dsimp only); rw [foldl_keeps State.channels _ (fun _ _ => by simp)]; simp
@[simp] theorem State.expireWindow_decoders (g : Fin 8) (o : Nat) (l : List (Fin 8)) (s : State) : (s.expireWindow g o l).decoders = s.decoders := by
  unfold State.expireWindow; (try dsimp only); rw [foldl_keeps State.decoders _ (fun _ _ => by simp)]; simp
@[simp] theorem State.expireWindow_store (g : Fin 8) (o : Nat) (l : List (Fin 8)) (s : State) : (s.expireWindow g o l).store = s.store := by
  unfold State.expireWindow; (try dsimp only); rw [foldl_keeps State.store _ (fun _ _ => by simp)]; simp
@[simp] theorem State.expireWindow_panel (g : Fin 8) (o : Nat) (l : List (Fin 8)) (s : State) : (s.expireWindow g o l).panel = s.panel := by
  unfold State.expireWindow; (try dsimp only); rw [foldl_keeps State.panel _ (fun _ _ => by simp)]; simp
@[simp] theorem State.expireWindow_backlight (g : Fin 8) (o : Nat) (l : List (Fin 8)) (s : State) : (s.expireWindow g o l).backlight = s.backlight := by
  unfold State.expireWindow; (try dsimp only); rw [foldl_keeps State.backlight _ (fun _ _ => by simp)]; simp
@[simp] theorem State.expireWindow_port (g : Fin 8) (o : Nat) (l : List (Fin 8)) (s : State) : (s.expireWindow g o l).port = s.port := by
  unfold State.expireWindow; (try dsimp only); rw [foldl_keeps State.port _ (fun _ _ => by simp)]; simp
@[simp] theorem State.expireWindow_pending (g : Fin 8) (o : Nat) (l : List (Fin 8)) (s : State) : (s.expireWindow g o l).pending = s.pending := by
  unfold State.expireWindow; (try dsimp only); rw [foldl_keeps State.pending _ (fun _ _ => by simp)]; simp

/-! ### meterPodDown -/

@[simp] theorem State.meterPodDown_clock (p : Fin 4) (m : Fin 8) (s : State) : (State.meterPodDown p s m).clock = s.clock := by
  unfold State.meterPodDown; (try dsimp only); (repeat' split) <;> simp
@[simp] theorem State.meterPodDown_pins (p : Fin 4) (m : Fin 8) (s : State) : (State.meterPodDown p s m).pins = s.pins := by
  unfold State.meterPodDown; (try dsimp only); (repeat' split) <;> simp
@[simp] theorem State.meterPodDown_pods (p : Fin 4) (m : Fin 8) (s : State) : (State.meterPodDown p s m).pods = s.pods := by
  unfold State.meterPodDown; (try dsimp only); (repeat' split) <;> simp
@[simp] theorem State.meterPodDown_channels (p : Fin 4) (m : Fin 8) (s : State) : (State.meterPodDown p s m).channels = s.channels := by
  unfold State.meterPodDown; (try dsimp only); (repeat' split) <;> simp
@[simp] theorem State.meterPodDown_decoders (p : Fin 4) (m : Fin 8) (s : State) : (State.meterPodDown p s m).decoders = s.decoders := by
  unfold State.meterPodDown; (try dsimp only); (repeat' split) <;> simp
@[simp] theorem State.meterPodDown_store (p : Fin 4) (m : Fin 8) (s : State) : (State.meterPodDown p s m).store = s.store := by
  unfold State.meterPodDown; (try dsimp only); (repeat' split) <;> simp
@[simp] theorem State.meterPodDown_panel (p : Fin 4) (m : Fin 8) (s : State) : (State.meterPodDown p s m).panel = s.panel := by
  unfold State.meterPodDown; (try dsimp only); (repeat' split) <;> simp
@[simp] theorem State.meterPodDown_backlight (p : Fin 4) (m : Fin 8) (s : State) : (State.meterPodDown p s m).backlight = s.backlight := by
  unfold State.meterPodDown; (try dsimp only); (repeat' split) <;> simp
@[simp] theorem State.meterPodDown_port (p : Fin 4) (m : Fin 8) (s : State) : (State.meterPodDown p s m).port = s.port := by
  unfold State.meterPodDown; (try dsimp only); (repeat' split) <;> simp
@[simp] theorem State.meterPodDown_pending (p : Fin 4) (m : Fin 8) (s : State) : (State.meterPodDown p s m).pending = s.pending := by
  unfold State.meterPodDown; (try dsimp only); (repeat' split) <;> simp

/-! ### metersPodDown -/

@[simp] theorem State.metersPodDown_clock (p : Fin 4) (s : State) : (s.metersPodDown p).clock = s.clock := by
  exact foldl_keeps State.clock _ (fun _ _ => by simp) _ _
@[simp] theorem State.metersPodDown_pins (p : Fin 4) (s : State) : (s.metersPodDown p).pins = s.pins := by
  exact foldl_keeps State.pins _ (fun _ _ => by simp) _ _
@[simp] theorem State.metersPodDown_pods (p : Fin 4) (s : State) : (s.metersPodDown p).pods = s.pods := by
  exact foldl_keeps State.pods _ (fun _ _ => by simp) _ _
@[simp] theorem State.metersPodDown_channels (p : Fin 4) (s : State) : (s.metersPodDown p).channels = s.channels := by
  exact foldl_keeps State.channels _ (fun _ _ => by simp) _ _
@[simp] theorem State.metersPodDown_decoders (p : Fin 4) (s : State) : (s.metersPodDown p).decoders = s.decoders := by
  exact foldl_keeps State.decoders _ (fun _ _ => by simp) _ _
@[simp] theorem State.metersPodDown_store (p : Fin 4) (s : State) : (s.metersPodDown p).store = s.store := by
  exact foldl_keeps State.store _ (fun _ _ => by simp) _ _
@[simp] theorem State.metersPodDown_panel (p : Fin 4) (s : State) : (s.metersPodDown p).panel = s.panel := by
  exact foldl_keeps State.panel _ (fun _ _ => by simp) _ _
@[simp] theorem State.metersPodDown_backlight (p : Fin 4) (s : State) : (s.metersPodDown p).backlight = s.backlight := by
  exact foldl_keeps State.backlight _ (fun _ _ => by simp) _ _
@[simp] theorem State.metersPodDown_port (p : Fin 4) (s : State) : (s.metersPodDown p).port = s.port := by
  exact foldl_keeps State.port _ (fun _ _ => by simp) _ _
@[simp] theorem State.metersPodDown_pending (p : Fin 4) (s : State) : (s.metersPodDown p).pending = s.pending := by
  exact foldl_keeps State.pending _ (fun _ _ => by simp) _ _


end Sys2Proof.Machine
end

