-- ==== Sys2Proof/Laws/Store.lean ====
section
/-! SUPPORT. What the store's operations leave alone. -/

namespace Sys2Proof.Machine

/-! ### applyTo -/

@[simp] theorem State.applyTo_clock (a : Application) (i : Fin 64) (r : Record) (s : State) : (s.applyTo a i r).clock = s.clock := by
  unfold State.applyTo; (try dsimp only); (repeat' split) <;> simp
@[simp] theorem State.applyTo_pins (a : Application) (i : Fin 64) (r : Record) (s : State) : (s.applyTo a i r).pins = s.pins := by
  unfold State.applyTo; (try dsimp only); (repeat' split) <;> simp
@[simp] theorem State.applyTo_pods (a : Application) (i : Fin 64) (r : Record) (s : State) : (s.applyTo a i r).pods = s.pods := by
  unfold State.applyTo; (try dsimp only); (repeat' split) <;> simp
@[simp] theorem State.applyTo_channels (a : Application) (i : Fin 64) (r : Record) (s : State) : (s.applyTo a i r).channels = s.channels := by
  unfold State.applyTo; (try dsimp only); (repeat' split) <;> simp
@[simp] theorem State.applyTo_decoders (a : Application) (i : Fin 64) (r : Record) (s : State) : (s.applyTo a i r).decoders = s.decoders := by
  unfold State.applyTo; (try dsimp only); (repeat' split) <;> simp
@[simp] theorem State.applyTo_meters (a : Application) (i : Fin 64) (r : Record) (s : State) : (s.applyTo a i r).meters = s.meters := by
  unfold State.applyTo; (try dsimp only); (repeat' split) <;> simp
@[simp] theorem State.applyTo_panel (a : Application) (i : Fin 64) (r : Record) (s : State) : (s.applyTo a i r).panel = s.panel := by
  unfold State.applyTo; (try dsimp only); (repeat' split) <;> simp
@[simp] theorem State.applyTo_backlight (a : Application) (i : Fin 64) (r : Record) (s : State) : (s.applyTo a i r).backlight = s.backlight := by
  unfold State.applyTo; (try dsimp only); (repeat' split) <;> simp
@[simp] theorem State.applyTo_port (a : Application) (i : Fin 64) (r : Record) (s : State) : (s.applyTo a i r).port = s.port := by
  unfold State.applyTo; (try dsimp only); (repeat' split) <;> simp
@[simp] theorem State.applyTo_pending (a : Application) (i : Fin 64) (r : Record) (s : State) : (s.applyTo a i r).pending = s.pending := by
  unfold State.applyTo; (try dsimp only); (repeat' split) <;> simp

/-! ### applyNew -/

@[simp] theorem State.applyNew_clock (a : Application) (i : Fin 64) (s : State) : (s.applyNew a i).clock = s.clock := by
  simp [State.applyNew]
@[simp] theorem State.applyNew_pins (a : Application) (i : Fin 64) (s : State) : (s.applyNew a i).pins = s.pins := by
  simp [State.applyNew]
@[simp] theorem State.applyNew_pods (a : Application) (i : Fin 64) (s : State) : (s.applyNew a i).pods = s.pods := by
  simp [State.applyNew]
@[simp] theorem State.applyNew_channels (a : Application) (i : Fin 64) (s : State) : (s.applyNew a i).channels = s.channels := by
  simp [State.applyNew]
@[simp] theorem State.applyNew_decoders (a : Application) (i : Fin 64) (s : State) : (s.applyNew a i).decoders = s.decoders := by
  simp [State.applyNew]
@[simp] theorem State.applyNew_meters (a : Application) (i : Fin 64) (s : State) : (s.applyNew a i).meters = s.meters := by
  simp [State.applyNew]
@[simp] theorem State.applyNew_panel (a : Application) (i : Fin 64) (s : State) : (s.applyNew a i).panel = s.panel := by
  simp [State.applyNew]
@[simp] theorem State.applyNew_backlight (a : Application) (i : Fin 64) (s : State) : (s.applyNew a i).backlight = s.backlight := by
  simp [State.applyNew]
@[simp] theorem State.applyNew_port (a : Application) (i : Fin 64) (s : State) : (s.applyNew a i).port = s.port := by
  simp [State.applyNew]
@[simp] theorem State.applyNew_pending (a : Application) (i : Fin 64) (s : State) : (s.applyNew a i).pending = s.pending := by
  simp [State.applyNew]

/-! ### withhold -/

@[simp] theorem State.withhold_clock (a : Application) (s : State) : (s.withhold a).clock = s.clock := by
  unfold State.withhold; (try dsimp only); (repeat' split) <;> simp
@[simp] theorem State.withhold_pins (a : Application) (s : State) : (s.withhold a).pins = s.pins := by
  unfold State.withhold; (try dsimp only); (repeat' split) <;> simp
@[simp] theorem State.withhold_pods (a : Application) (s : State) : (s.withhold a).pods = s.pods := by
  unfold State.withhold; (try dsimp only); (repeat' split) <;> simp
@[simp] theorem State.withhold_channels (a : Application) (s : State) : (s.withhold a).channels = s.channels := by
  unfold State.withhold; (try dsimp only); (repeat' split) <;> simp
@[simp] theorem State.withhold_decoders (a : Application) (s : State) : (s.withhold a).decoders = s.decoders := by
  unfold State.withhold; (try dsimp only); (repeat' split) <;> simp
@[simp] theorem State.withhold_meters (a : Application) (s : State) : (s.withhold a).meters = s.meters := by
  unfold State.withhold; (try dsimp only); (repeat' split) <;> simp
@[simp] theorem State.withhold_panel (a : Application) (s : State) : (s.withhold a).panel = s.panel := by
  unfold State.withhold; (try dsimp only); (repeat' split) <;> simp
@[simp] theorem State.withhold_backlight (a : Application) (s : State) : (s.withhold a).backlight = s.backlight := by
  unfold State.withhold; (try dsimp only); (repeat' split) <;> simp
@[simp] theorem State.withhold_port (a : Application) (s : State) : (s.withhold a).port = s.port := by
  unfold State.withhold; (try dsimp only); (repeat' split) <;> simp
@[simp] theorem State.withhold_pending (a : Application) (s : State) : (s.withhold a).pending = s.pending := by
  unfold State.withhold; (try dsimp only); (repeat' split) <;> simp

/-! ### apply -/

@[simp] theorem State.apply_clock (a : Application) (s : State) : ((s.apply a).1).clock = s.clock := by
  unfold State.apply; (repeat' split) <;> simp
@[simp] theorem State.apply_pins (a : Application) (s : State) : ((s.apply a).1).pins = s.pins := by
  unfold State.apply; (repeat' split) <;> simp
@[simp] theorem State.apply_pods (a : Application) (s : State) : ((s.apply a).1).pods = s.pods := by
  unfold State.apply; (repeat' split) <;> simp
@[simp] theorem State.apply_channels (a : Application) (s : State) : ((s.apply a).1).channels = s.channels := by
  unfold State.apply; (repeat' split) <;> simp
@[simp] theorem State.apply_decoders (a : Application) (s : State) : ((s.apply a).1).decoders = s.decoders := by
  unfold State.apply; (repeat' split) <;> simp
@[simp] theorem State.apply_meters (a : Application) (s : State) : ((s.apply a).1).meters = s.meters := by
  unfold State.apply; (repeat' split) <;> simp
@[simp] theorem State.apply_panel (a : Application) (s : State) : ((s.apply a).1).panel = s.panel := by
  unfold State.apply; (repeat' split) <;> simp
@[simp] theorem State.apply_backlight (a : Application) (s : State) : ((s.apply a).1).backlight = s.backlight := by
  unfold State.apply; (repeat' split) <;> simp
@[simp] theorem State.apply_port (a : Application) (s : State) : ((s.apply a).1).port = s.port := by
  unfold State.apply; (repeat' split) <;> simp
@[simp] theorem State.apply_pending (a : Application) (s : State) : ((s.apply a).1).pending = s.pending := by
  unfold State.apply; (repeat' split) <;> simp

/-! ### errorReport -/

@[simp] theorem State.errorReport_clock (d : Fin 6) (x : Byte) (r : AbortReason) (s : State) : (s.errorReport d x r).clock = s.clock := by
  unfold State.errorReport; (try dsimp only); (repeat' split) <;> simp
@[simp] theorem State.errorReport_pins (d : Fin 6) (x : Byte) (r : AbortReason) (s : State) : (s.errorReport d x r).pins = s.pins := by
  unfold State.errorReport; (try dsimp only); (repeat' split) <;> simp
@[simp] theorem State.errorReport_pods (d : Fin 6) (x : Byte) (r : AbortReason) (s : State) : (s.errorReport d x r).pods = s.pods := by
  unfold State.errorReport; (try dsimp only); (repeat' split) <;> simp
@[simp] theorem State.errorReport_channels (d : Fin 6) (x : Byte) (r : AbortReason) (s : State) : (s.errorReport d x r).channels = s.channels := by
  unfold State.errorReport; (try dsimp only); (repeat' split) <;> simp
@[simp] theorem State.errorReport_decoders (d : Fin 6) (x : Byte) (r : AbortReason) (s : State) : (s.errorReport d x r).decoders = s.decoders := by
  unfold State.errorReport; (try dsimp only); (repeat' split) <;> simp
@[simp] theorem State.errorReport_meters (d : Fin 6) (x : Byte) (r : AbortReason) (s : State) : (s.errorReport d x r).meters = s.meters := by
  unfold State.errorReport; (try dsimp only); (repeat' split) <;> simp
@[simp] theorem State.errorReport_panel (d : Fin 6) (x : Byte) (r : AbortReason) (s : State) : (s.errorReport d x r).panel = s.panel := by
  unfold State.errorReport; (try dsimp only); (repeat' split) <;> simp
@[simp] theorem State.errorReport_backlight (d : Fin 6) (x : Byte) (r : AbortReason) (s : State) : (s.errorReport d x r).backlight = s.backlight := by
  unfold State.errorReport; (try dsimp only); (repeat' split) <;> simp
@[simp] theorem State.errorReport_port (d : Fin 6) (x : Byte) (r : AbortReason) (s : State) : (s.errorReport d x r).port = s.port := by
  unfold State.errorReport; (try dsimp only); (repeat' split) <;> simp
@[simp] theorem State.errorReport_pending (d : Fin 6) (x : Byte) (r : AbortReason) (s : State) : (s.errorReport d x r).pending = s.pending := by
  unfold State.errorReport; (try dsimp only); (repeat' split) <;> simp


end Sys2Proof.Machine
end

