-- ==== Sys2Proof/Laws/Decoders.lean ====
section
/-! SUPPORT. What the decoders and their profiles leave alone. -/

namespace Sys2Proof.Machine

/-! ### syncDecoder -/

@[simp] theorem State.syncDecoder_clock (d : Fin 6) (s : State) : (s.syncDecoder d).clock = s.clock := by
  simp [State.syncDecoder]
@[simp] theorem State.syncDecoder_pins (d : Fin 6) (s : State) : (s.syncDecoder d).pins = s.pins := by
  simp [State.syncDecoder]
@[simp] theorem State.syncDecoder_pods (d : Fin 6) (s : State) : (s.syncDecoder d).pods = s.pods := by
  simp [State.syncDecoder]
@[simp] theorem State.syncDecoder_channels (d : Fin 6) (s : State) : (s.syncDecoder d).channels = s.channels := by
  simp [State.syncDecoder]
@[simp] theorem State.syncDecoder_store (d : Fin 6) (s : State) : (s.syncDecoder d).store = s.store := by
  simp [State.syncDecoder]
@[simp] theorem State.syncDecoder_meters (d : Fin 6) (s : State) : (s.syncDecoder d).meters = s.meters := by
  simp [State.syncDecoder]
@[simp] theorem State.syncDecoder_panel (d : Fin 6) (s : State) : (s.syncDecoder d).panel = s.panel := by
  simp [State.syncDecoder]
@[simp] theorem State.syncDecoder_backlight (d : Fin 6) (s : State) : (s.syncDecoder d).backlight = s.backlight := by
  simp [State.syncDecoder]
@[simp] theorem State.syncDecoder_port (d : Fin 6) (s : State) : (s.syncDecoder d).port = s.port := by
  simp [State.syncDecoder]
@[simp] theorem State.syncDecoder_pending (d : Fin 6) (s : State) : (s.syncDecoder d).pending = s.pending := by
  simp [State.syncDecoder]

/-! ### discard -/

@[simp] theorem State.discard_clock (d : Fin 6) (n : DecState) (st : Option Staging) (s : State) : (s.discard d n st).clock = s.clock := by
  simp [State.discard]
@[simp] theorem State.discard_pins (d : Fin 6) (n : DecState) (st : Option Staging) (s : State) : (s.discard d n st).pins = s.pins := by
  simp [State.discard]
@[simp] theorem State.discard_pods (d : Fin 6) (n : DecState) (st : Option Staging) (s : State) : (s.discard d n st).pods = s.pods := by
  simp [State.discard]
@[simp] theorem State.discard_channels (d : Fin 6) (n : DecState) (st : Option Staging) (s : State) : (s.discard d n st).channels = s.channels := by
  simp [State.discard]
@[simp] theorem State.discard_store (d : Fin 6) (n : DecState) (st : Option Staging) (s : State) : (s.discard d n st).store = s.store := by
  simp [State.discard]
@[simp] theorem State.discard_meters (d : Fin 6) (n : DecState) (st : Option Staging) (s : State) : (s.discard d n st).meters = s.meters := by
  simp [State.discard]
@[simp] theorem State.discard_panel (d : Fin 6) (n : DecState) (st : Option Staging) (s : State) : (s.discard d n st).panel = s.panel := by
  simp [State.discard]
@[simp] theorem State.discard_backlight (d : Fin 6) (n : DecState) (st : Option Staging) (s : State) : (s.discard d n st).backlight = s.backlight := by
  simp [State.discard]
@[simp] theorem State.discard_port (d : Fin 6) (n : DecState) (st : Option Staging) (s : State) : (s.discard d n st).port = s.port := by
  simp [State.discard]
@[simp] theorem State.discard_pending (d : Fin 6) (n : DecState) (st : Option Staging) (s : State) : (s.discard d n st).pending = s.pending := by
  simp [State.discard]

/-! ### cleanEnd -/

@[simp] theorem State.cleanEnd_clock (d : Fin 6) (t : Nat) (n : DecState) (st : Option Staging) (s : State) : (s.cleanEnd d t n st).clock = s.clock := by
  unfold State.cleanEnd; (try dsimp only); (repeat' split) <;> simp
@[simp] theorem State.cleanEnd_pins (d : Fin 6) (t : Nat) (n : DecState) (st : Option Staging) (s : State) : (s.cleanEnd d t n st).pins = s.pins := by
  unfold State.cleanEnd; (try dsimp only); (repeat' split) <;> simp
@[simp] theorem State.cleanEnd_pods (d : Fin 6) (t : Nat) (n : DecState) (st : Option Staging) (s : State) : (s.cleanEnd d t n st).pods = s.pods := by
  unfold State.cleanEnd; (try dsimp only); (repeat' split) <;> simp
@[simp] theorem State.cleanEnd_channels (d : Fin 6) (t : Nat) (n : DecState) (st : Option Staging) (s : State) : (s.cleanEnd d t n st).channels = s.channels := by
  unfold State.cleanEnd; (try dsimp only); (repeat' split) <;> simp
@[simp] theorem State.cleanEnd_panel (d : Fin 6) (t : Nat) (n : DecState) (st : Option Staging) (s : State) : (s.cleanEnd d t n st).panel = s.panel := by
  unfold State.cleanEnd; (try dsimp only); (repeat' split) <;> simp
@[simp] theorem State.cleanEnd_backlight (d : Fin 6) (t : Nat) (n : DecState) (st : Option Staging) (s : State) : (s.cleanEnd d t n st).backlight = s.backlight := by
  unfold State.cleanEnd; (try dsimp only); (repeat' split) <;> simp
@[simp] theorem State.cleanEnd_port (d : Fin 6) (t : Nat) (n : DecState) (st : Option Staging) (s : State) : (s.cleanEnd d t n st).port = s.port := by
  unfold State.cleanEnd; (try dsimp only); (repeat' split) <;> simp
@[simp] theorem State.cleanEnd_pending (d : Fin 6) (t : Nat) (n : DecState) (st : Option Staging) (s : State) : (s.cleanEnd d t n st).pending = s.pending := by
  unfold State.cleanEnd; (try dsimp only); (repeat' split) <;> simp

/-! ### abortReport -/

@[simp] theorem State.abortReport_clock (d : Fin 6) (r : AbortReason) (st : Option Staging) (s : State) : (s.abortReport d r st).clock = s.clock := by
  unfold State.abortReport; (repeat' split) <;> simp
@[simp] theorem State.abortReport_pins (d : Fin 6) (r : AbortReason) (st : Option Staging) (s : State) : (s.abortReport d r st).pins = s.pins := by
  unfold State.abortReport; (repeat' split) <;> simp
@[simp] theorem State.abortReport_pods (d : Fin 6) (r : AbortReason) (st : Option Staging) (s : State) : (s.abortReport d r st).pods = s.pods := by
  unfold State.abortReport; (repeat' split) <;> simp
@[simp] theorem State.abortReport_channels (d : Fin 6) (r : AbortReason) (st : Option Staging) (s : State) : (s.abortReport d r st).channels = s.channels := by
  unfold State.abortReport; (repeat' split) <;> simp
@[simp] theorem State.abortReport_decoders (d : Fin 6) (r : AbortReason) (st : Option Staging) (s : State) : (s.abortReport d r st).decoders = s.decoders := by
  unfold State.abortReport; (repeat' split) <;> simp
@[simp] theorem State.abortReport_meters (d : Fin 6) (r : AbortReason) (st : Option Staging) (s : State) : (s.abortReport d r st).meters = s.meters := by
  unfold State.abortReport; (repeat' split) <;> simp
@[simp] theorem State.abortReport_panel (d : Fin 6) (r : AbortReason) (st : Option Staging) (s : State) : (s.abortReport d r st).panel = s.panel := by
  unfold State.abortReport; (repeat' split) <;> simp
@[simp] theorem State.abortReport_backlight (d : Fin 6) (r : AbortReason) (st : Option Staging) (s : State) : (s.abortReport d r st).backlight = s.backlight := by
  unfold State.abortReport; (repeat' split) <;> simp
@[simp] theorem State.abortReport_port (d : Fin 6) (r : AbortReason) (st : Option Staging) (s : State) : (s.abortReport d r st).port = s.port := by
  unfold State.abortReport; (repeat' split) <;> simp
@[simp] theorem State.abortReport_pending (d : Fin 6) (r : AbortReason) (st : Option Staging) (s : State) : (s.abortReport d r st).pending = s.pending := by
  unfold State.abortReport; (repeat' split) <;> simp

/-! ### abortTo -/

@[simp] theorem State.abortTo_clock (d : Fin 6) (r : AbortReason) (f : Decoder → Decoder) (s : State) : (s.abortTo d r f).clock = s.clock := by
  simp [State.abortTo]
@[simp] theorem State.abortTo_pins (d : Fin 6) (r : AbortReason) (f : Decoder → Decoder) (s : State) : (s.abortTo d r f).pins = s.pins := by
  simp [State.abortTo]
@[simp] theorem State.abortTo_pods (d : Fin 6) (r : AbortReason) (f : Decoder → Decoder) (s : State) : (s.abortTo d r f).pods = s.pods := by
  simp [State.abortTo]
@[simp] theorem State.abortTo_channels (d : Fin 6) (r : AbortReason) (f : Decoder → Decoder) (s : State) : (s.abortTo d r f).channels = s.channels := by
  simp [State.abortTo]
@[simp] theorem State.abortTo_meters (d : Fin 6) (r : AbortReason) (f : Decoder → Decoder) (s : State) : (s.abortTo d r f).meters = s.meters := by
  simp [State.abortTo]
@[simp] theorem State.abortTo_panel (d : Fin 6) (r : AbortReason) (f : Decoder → Decoder) (s : State) : (s.abortTo d r f).panel = s.panel := by
  simp [State.abortTo]
@[simp] theorem State.abortTo_backlight (d : Fin 6) (r : AbortReason) (f : Decoder → Decoder) (s : State) : (s.abortTo d r f).backlight = s.backlight := by
  simp [State.abortTo]
@[simp] theorem State.abortTo_port (d : Fin 6) (r : AbortReason) (f : Decoder → Decoder) (s : State) : (s.abortTo d r f).port = s.port := by
  simp [State.abortTo]
@[simp] theorem State.abortTo_pending (d : Fin 6) (r : AbortReason) (f : Decoder → Decoder) (s : State) : (s.abortTo d r f).pending = s.pending := by
  simp [State.abortTo]

/-! ### abort -/

@[simp] theorem State.abort_clock (d : Fin 6) (r : AbortReason) (n : DecState) (st : Option Staging) (s : State) : (s.abort d r n st).clock = s.clock := by
  simp [State.abort]
@[simp] theorem State.abort_pins (d : Fin 6) (r : AbortReason) (n : DecState) (st : Option Staging) (s : State) : (s.abort d r n st).pins = s.pins := by
  simp [State.abort]
@[simp] theorem State.abort_pods (d : Fin 6) (r : AbortReason) (n : DecState) (st : Option Staging) (s : State) : (s.abort d r n st).pods = s.pods := by
  simp [State.abort]
@[simp] theorem State.abort_channels (d : Fin 6) (r : AbortReason) (n : DecState) (st : Option Staging) (s : State) : (s.abort d r n st).channels = s.channels := by
  simp [State.abort]
@[simp] theorem State.abort_meters (d : Fin 6) (r : AbortReason) (n : DecState) (st : Option Staging) (s : State) : (s.abort d r n st).meters = s.meters := by
  simp [State.abort]
@[simp] theorem State.abort_panel (d : Fin 6) (r : AbortReason) (n : DecState) (st : Option Staging) (s : State) : (s.abort d r n st).panel = s.panel := by
  simp [State.abort]
@[simp] theorem State.abort_backlight (d : Fin 6) (r : AbortReason) (n : DecState) (st : Option Staging) (s : State) : (s.abort d r n st).backlight = s.backlight := by
  simp [State.abort]
@[simp] theorem State.abort_port (d : Fin 6) (r : AbortReason) (n : DecState) (st : Option Staging) (s : State) : (s.abort d r n st).port = s.port := by
  simp [State.abort]
@[simp] theorem State.abort_pending (d : Fin 6) (r : AbortReason) (n : DecState) (st : Option Staging) (s : State) : (s.abort d r n st).pending = s.pending := by
  simp [State.abort]

/-! ### abortToSyncing -/

@[simp] theorem State.abortToSyncing_clock (d : Fin 6) (r : AbortReason) (t : Nat) (s : State) : (s.abortToSyncing d r t).clock = s.clock := by
  simp [State.abortToSyncing]
@[simp] theorem State.abortToSyncing_pins (d : Fin 6) (r : AbortReason) (t : Nat) (s : State) : (s.abortToSyncing d r t).pins = s.pins := by
  simp [State.abortToSyncing]
@[simp] theorem State.abortToSyncing_pods (d : Fin 6) (r : AbortReason) (t : Nat) (s : State) : (s.abortToSyncing d r t).pods = s.pods := by
  simp [State.abortToSyncing]
@[simp] theorem State.abortToSyncing_channels (d : Fin 6) (r : AbortReason) (t : Nat) (s : State) : (s.abortToSyncing d r t).channels = s.channels := by
  simp [State.abortToSyncing]
@[simp] theorem State.abortToSyncing_meters (d : Fin 6) (r : AbortReason) (t : Nat) (s : State) : (s.abortToSyncing d r t).meters = s.meters := by
  simp [State.abortToSyncing]
@[simp] theorem State.abortToSyncing_panel (d : Fin 6) (r : AbortReason) (t : Nat) (s : State) : (s.abortToSyncing d r t).panel = s.panel := by
  simp [State.abortToSyncing]
@[simp] theorem State.abortToSyncing_backlight (d : Fin 6) (r : AbortReason) (t : Nat) (s : State) : (s.abortToSyncing d r t).backlight = s.backlight := by
  simp [State.abortToSyncing]
@[simp] theorem State.abortToSyncing_port (d : Fin 6) (r : AbortReason) (t : Nat) (s : State) : (s.abortToSyncing d r t).port = s.port := by
  simp [State.abortToSyncing]
@[simp] theorem State.abortToSyncing_pending (d : Fin 6) (r : AbortReason) (t : Nat) (s : State) : (s.abortToSyncing d r t).pending = s.pending := by
  simp [State.abortToSyncing]

/-! ### decoderPodDown -/

@[simp] theorem State.decoderPodDown_clock (p : Fin 4) (c : DownCause) (d : Fin 6) (s : State) : (State.decoderPodDown p c s d).clock = s.clock := by
  unfold State.decoderPodDown; (try dsimp only); (repeat' split) <;> simp
@[simp] theorem State.decoderPodDown_pins (p : Fin 4) (c : DownCause) (d : Fin 6) (s : State) : (State.decoderPodDown p c s d).pins = s.pins := by
  unfold State.decoderPodDown; (try dsimp only); (repeat' split) <;> simp
@[simp] theorem State.decoderPodDown_pods (p : Fin 4) (c : DownCause) (d : Fin 6) (s : State) : (State.decoderPodDown p c s d).pods = s.pods := by
  unfold State.decoderPodDown; (try dsimp only); (repeat' split) <;> simp
@[simp] theorem State.decoderPodDown_channels (p : Fin 4) (c : DownCause) (d : Fin 6) (s : State) : (State.decoderPodDown p c s d).channels = s.channels := by
  unfold State.decoderPodDown; (try dsimp only); (repeat' split) <;> simp
@[simp] theorem State.decoderPodDown_meters (p : Fin 4) (c : DownCause) (d : Fin 6) (s : State) : (State.decoderPodDown p c s d).meters = s.meters := by
  unfold State.decoderPodDown; (try dsimp only); (repeat' split) <;> simp
@[simp] theorem State.decoderPodDown_panel (p : Fin 4) (c : DownCause) (d : Fin 6) (s : State) : (State.decoderPodDown p c s d).panel = s.panel := by
  unfold State.decoderPodDown; (try dsimp only); (repeat' split) <;> simp
@[simp] theorem State.decoderPodDown_backlight (p : Fin 4) (c : DownCause) (d : Fin 6) (s : State) : (State.decoderPodDown p c s d).backlight = s.backlight := by
  unfold State.decoderPodDown; (try dsimp only); (repeat' split) <;> simp
@[simp] theorem State.decoderPodDown_port (p : Fin 4) (c : DownCause) (d : Fin 6) (s : State) : (State.decoderPodDown p c s d).port = s.port := by
  unfold State.decoderPodDown; (try dsimp only); (repeat' split) <;> simp
@[simp] theorem State.decoderPodDown_pending (p : Fin 4) (c : DownCause) (d : Fin 6) (s : State) : (State.decoderPodDown p c s d).pending = s.pending := by
  unfold State.decoderPodDown; (try dsimp only); (repeat' split) <;> simp

/-! ### decoderPodUp -/

@[simp] theorem State.decoderPodUp_clock (p : Fin 4) (d : Fin 6) (s : State) : (State.decoderPodUp p s d).clock = s.clock := by
  unfold State.decoderPodUp; (try dsimp only); (repeat' split) <;> simp
@[simp] theorem State.decoderPodUp_pins (p : Fin 4) (d : Fin 6) (s : State) : (State.decoderPodUp p s d).pins = s.pins := by
  unfold State.decoderPodUp; (try dsimp only); (repeat' split) <;> simp
@[simp] theorem State.decoderPodUp_pods (p : Fin 4) (d : Fin 6) (s : State) : (State.decoderPodUp p s d).pods = s.pods := by
  unfold State.decoderPodUp; (try dsimp only); (repeat' split) <;> simp
@[simp] theorem State.decoderPodUp_channels (p : Fin 4) (d : Fin 6) (s : State) : (State.decoderPodUp p s d).channels = s.channels := by
  unfold State.decoderPodUp; (try dsimp only); (repeat' split) <;> simp
@[simp] theorem State.decoderPodUp_store (p : Fin 4) (d : Fin 6) (s : State) : (State.decoderPodUp p s d).store = s.store := by
  unfold State.decoderPodUp; (try dsimp only); (repeat' split) <;> simp
@[simp] theorem State.decoderPodUp_meters (p : Fin 4) (d : Fin 6) (s : State) : (State.decoderPodUp p s d).meters = s.meters := by
  unfold State.decoderPodUp; (try dsimp only); (repeat' split) <;> simp
@[simp] theorem State.decoderPodUp_panel (p : Fin 4) (d : Fin 6) (s : State) : (State.decoderPodUp p s d).panel = s.panel := by
  unfold State.decoderPodUp; (try dsimp only); (repeat' split) <;> simp
@[simp] theorem State.decoderPodUp_backlight (p : Fin 4) (d : Fin 6) (s : State) : (State.decoderPodUp p s d).backlight = s.backlight := by
  unfold State.decoderPodUp; (try dsimp only); (repeat' split) <;> simp
@[simp] theorem State.decoderPodUp_port (p : Fin 4) (d : Fin 6) (s : State) : (State.decoderPodUp p s d).port = s.port := by
  unfold State.decoderPodUp; (try dsimp only); (repeat' split) <;> simp
@[simp] theorem State.decoderPodUp_pending (p : Fin 4) (d : Fin 6) (s : State) : (State.decoderPodUp p s d).pending = s.pending := by
  unfold State.decoderPodUp; (try dsimp only); (repeat' split) <;> simp

/-! ### decodersPodDown -/

@[simp] theorem State.decodersPodDown_clock (p : Fin 4) (c : DownCause) (s : State) : (s.decodersPodDown p c).clock = s.clock := by
  exact foldl_keeps State.clock _ (fun _ _ => by simp) _ _
@[simp] theorem State.decodersPodDown_pins (p : Fin 4) (c : DownCause) (s : State) : (s.decodersPodDown p c).pins = s.pins := by
  exact foldl_keeps State.pins _ (fun _ _ => by simp) _ _
@[simp] theorem State.decodersPodDown_pods (p : Fin 4) (c : DownCause) (s : State) : (s.decodersPodDown p c).pods = s.pods := by
  exact foldl_keeps State.pods _ (fun _ _ => by simp) _ _
@[simp] theorem State.decodersPodDown_channels (p : Fin 4) (c : DownCause) (s : State) : (s.decodersPodDown p c).channels = s.channels := by
  exact foldl_keeps State.channels _ (fun _ _ => by simp) _ _
@[simp] theorem State.decodersPodDown_meters (p : Fin 4) (c : DownCause) (s : State) : (s.decodersPodDown p c).meters = s.meters := by
  exact foldl_keeps State.meters _ (fun _ _ => by simp) _ _
@[simp] theorem State.decodersPodDown_panel (p : Fin 4) (c : DownCause) (s : State) : (s.decodersPodDown p c).panel = s.panel := by
  exact foldl_keeps State.panel _ (fun _ _ => by simp) _ _
@[simp] theorem State.decodersPodDown_backlight (p : Fin 4) (c : DownCause) (s : State) : (s.decodersPodDown p c).backlight = s.backlight := by
  exact foldl_keeps State.backlight _ (fun _ _ => by simp) _ _
@[simp] theorem State.decodersPodDown_port (p : Fin 4) (c : DownCause) (s : State) : (s.decodersPodDown p c).port = s.port := by
  exact foldl_keeps State.port _ (fun _ _ => by simp) _ _
@[simp] theorem State.decodersPodDown_pending (p : Fin 4) (c : DownCause) (s : State) : (s.decodersPodDown p c).pending = s.pending := by
  exact foldl_keeps State.pending _ (fun _ _ => by simp) _ _

/-! ### decodersPodUp -/

@[simp] theorem State.decodersPodUp_clock (p : Fin 4) (s : State) : (s.decodersPodUp p).clock = s.clock := by
  exact foldl_keeps State.clock _ (fun _ _ => by simp) _ _
@[simp] theorem State.decodersPodUp_pins (p : Fin 4) (s : State) : (s.decodersPodUp p).pins = s.pins := by
  exact foldl_keeps State.pins _ (fun _ _ => by simp) _ _
@[simp] theorem State.decodersPodUp_pods (p : Fin 4) (s : State) : (s.decodersPodUp p).pods = s.pods := by
  exact foldl_keeps State.pods _ (fun _ _ => by simp) _ _
@[simp] theorem State.decodersPodUp_channels (p : Fin 4) (s : State) : (s.decodersPodUp p).channels = s.channels := by
  exact foldl_keeps State.channels _ (fun _ _ => by simp) _ _
@[simp] theorem State.decodersPodUp_store (p : Fin 4) (s : State) : (s.decodersPodUp p).store = s.store := by
  exact foldl_keeps State.store _ (fun _ _ => by simp) _ _
@[simp] theorem State.decodersPodUp_meters (p : Fin 4) (s : State) : (s.decodersPodUp p).meters = s.meters := by
  exact foldl_keeps State.meters _ (fun _ _ => by simp) _ _
@[simp] theorem State.decodersPodUp_panel (p : Fin 4) (s : State) : (s.decodersPodUp p).panel = s.panel := by
  exact foldl_keeps State.panel _ (fun _ _ => by simp) _ _
@[simp] theorem State.decodersPodUp_backlight (p : Fin 4) (s : State) : (s.decodersPodUp p).backlight = s.backlight := by
  exact foldl_keeps State.backlight _ (fun _ _ => by simp) _ _
@[simp] theorem State.decodersPodUp_port (p : Fin 4) (s : State) : (s.decodersPodUp p).port = s.port := by
  exact foldl_keeps State.port _ (fun _ _ => by simp) _ _
@[simp] theorem State.decodersPodUp_pending (p : Fin 4) (s : State) : (s.decodersPodUp p).pending = s.pending := by
  exact foldl_keeps State.pending _ (fun _ _ => by simp) _ _

/-! ### setStaging -/

@[simp] theorem State.setStaging_clock (d : Fin 6) (st : Staging) (s : State) : (s.setStaging d st).clock = s.clock := by
  simp [State.setStaging]
@[simp] theorem State.setStaging_pins (d : Fin 6) (st : Staging) (s : State) : (s.setStaging d st).pins = s.pins := by
  simp [State.setStaging]
@[simp] theorem State.setStaging_pods (d : Fin 6) (st : Staging) (s : State) : (s.setStaging d st).pods = s.pods := by
  simp [State.setStaging]
@[simp] theorem State.setStaging_channels (d : Fin 6) (st : Staging) (s : State) : (s.setStaging d st).channels = s.channels := by
  simp [State.setStaging]
@[simp] theorem State.setStaging_store (d : Fin 6) (st : Staging) (s : State) : (s.setStaging d st).store = s.store := by
  simp [State.setStaging]
@[simp] theorem State.setStaging_meters (d : Fin 6) (st : Staging) (s : State) : (s.setStaging d st).meters = s.meters := by
  simp [State.setStaging]
@[simp] theorem State.setStaging_panel (d : Fin 6) (st : Staging) (s : State) : (s.setStaging d st).panel = s.panel := by
  simp [State.setStaging]
@[simp] theorem State.setStaging_backlight (d : Fin 6) (st : Staging) (s : State) : (s.setStaging d st).backlight = s.backlight := by
  simp [State.setStaging]
@[simp] theorem State.setStaging_port (d : Fin 6) (st : Staging) (s : State) : (s.setStaging d st).port = s.port := by
  simp [State.setStaging]
@[simp] theorem State.setStaging_pending (d : Fin 6) (st : Staging) (s : State) : (s.setStaging d st).pending = s.pending := by
  simp [State.setStaging]

/-! ### begin -/

@[simp] theorem State.begin_clock (d : Fin 6) (st : Staging) (s : State) : (s.begin d st).clock = s.clock := by
  simp [State.begin]
@[simp] theorem State.begin_pins (d : Fin 6) (st : Staging) (s : State) : (s.begin d st).pins = s.pins := by
  simp [State.begin]
@[simp] theorem State.begin_pods (d : Fin 6) (st : Staging) (s : State) : (s.begin d st).pods = s.pods := by
  simp [State.begin]
@[simp] theorem State.begin_channels (d : Fin 6) (st : Staging) (s : State) : (s.begin d st).channels = s.channels := by
  simp [State.begin]
@[simp] theorem State.begin_store (d : Fin 6) (st : Staging) (s : State) : (s.begin d st).store = s.store := by
  simp [State.begin]
@[simp] theorem State.begin_meters (d : Fin 6) (st : Staging) (s : State) : (s.begin d st).meters = s.meters := by
  simp [State.begin]
@[simp] theorem State.begin_panel (d : Fin 6) (st : Staging) (s : State) : (s.begin d st).panel = s.panel := by
  simp [State.begin]
@[simp] theorem State.begin_backlight (d : Fin 6) (st : Staging) (s : State) : (s.begin d st).backlight = s.backlight := by
  simp [State.begin]
@[simp] theorem State.begin_port (d : Fin 6) (st : Staging) (s : State) : (s.begin d st).port = s.port := by
  simp [State.begin]
@[simp] theorem State.begin_pending (d : Fin 6) (st : Staging) (s : State) : (s.begin d st).pending = s.pending := by
  simp [State.begin]

/-! ### twoWireClock -/

@[simp] theorem State.twoWireClock_clock (d : Fin 6) (b : Bool) (st : Staging) (s : State) : (s.twoWireClock d b st).clock = s.clock := by
  unfold State.twoWireClock; (try dsimp only); (repeat' split) <;> simp
@[simp] theorem State.twoWireClock_pins (d : Fin 6) (b : Bool) (st : Staging) (s : State) : (s.twoWireClock d b st).pins = s.pins := by
  unfold State.twoWireClock; (try dsimp only); (repeat' split) <;> simp
@[simp] theorem State.twoWireClock_pods (d : Fin 6) (b : Bool) (st : Staging) (s : State) : (s.twoWireClock d b st).pods = s.pods := by
  unfold State.twoWireClock; (try dsimp only); (repeat' split) <;> simp
@[simp] theorem State.twoWireClock_channels (d : Fin 6) (b : Bool) (st : Staging) (s : State) : (s.twoWireClock d b st).channels = s.channels := by
  unfold State.twoWireClock; (try dsimp only); (repeat' split) <;> simp
@[simp] theorem State.twoWireClock_meters (d : Fin 6) (b : Bool) (st : Staging) (s : State) : (s.twoWireClock d b st).meters = s.meters := by
  unfold State.twoWireClock; (try dsimp only); (repeat' split) <;> simp
@[simp] theorem State.twoWireClock_panel (d : Fin 6) (b : Bool) (st : Staging) (s : State) : (s.twoWireClock d b st).panel = s.panel := by
  unfold State.twoWireClock; (try dsimp only); (repeat' split) <;> simp
@[simp] theorem State.twoWireClock_backlight (d : Fin 6) (b : Bool) (st : Staging) (s : State) : (s.twoWireClock d b st).backlight = s.backlight := by
  unfold State.twoWireClock; (try dsimp only); (repeat' split) <;> simp
@[simp] theorem State.twoWireClock_port (d : Fin 6) (b : Bool) (st : Staging) (s : State) : (s.twoWireClock d b st).port = s.port := by
  unfold State.twoWireClock; (try dsimp only); (repeat' split) <;> simp
@[simp] theorem State.twoWireClock_pending (d : Fin 6) (b : Bool) (st : Staging) (s : State) : (s.twoWireClock d b st).pending = s.pending := by
  unfold State.twoWireClock; (try dsimp only); (repeat' split) <;> simp

/-! ### twoWireCondition -/

@[simp] theorem State.twoWireCondition_clock (d : Fin 6) (b : Bool) (t : Nat) (st : Staging) (s : State) : (s.twoWireCondition d b t st).clock = s.clock := by
  unfold State.twoWireCondition; (try dsimp only); (repeat' split) <;> simp
@[simp] theorem State.twoWireCondition_pins (d : Fin 6) (b : Bool) (t : Nat) (st : Staging) (s : State) : (s.twoWireCondition d b t st).pins = s.pins := by
  unfold State.twoWireCondition; (try dsimp only); (repeat' split) <;> simp
@[simp] theorem State.twoWireCondition_pods (d : Fin 6) (b : Bool) (t : Nat) (st : Staging) (s : State) : (s.twoWireCondition d b t st).pods = s.pods := by
  unfold State.twoWireCondition; (try dsimp only); (repeat' split) <;> simp
@[simp] theorem State.twoWireCondition_channels (d : Fin 6) (b : Bool) (t : Nat) (st : Staging) (s : State) : (s.twoWireCondition d b t st).channels = s.channels := by
  unfold State.twoWireCondition; (try dsimp only); (repeat' split) <;> simp
@[simp] theorem State.twoWireCondition_panel (d : Fin 6) (b : Bool) (t : Nat) (st : Staging) (s : State) : (s.twoWireCondition d b t st).panel = s.panel := by
  unfold State.twoWireCondition; (try dsimp only); (repeat' split) <;> simp
@[simp] theorem State.twoWireCondition_backlight (d : Fin 6) (b : Bool) (t : Nat) (st : Staging) (s : State) : (s.twoWireCondition d b t st).backlight = s.backlight := by
  unfold State.twoWireCondition; (try dsimp only); (repeat' split) <;> simp
@[simp] theorem State.twoWireCondition_port (d : Fin 6) (b : Bool) (t : Nat) (st : Staging) (s : State) : (s.twoWireCondition d b t st).port = s.port := by
  unfold State.twoWireCondition; (try dsimp only); (repeat' split) <;> simp
@[simp] theorem State.twoWireCondition_pending (d : Fin 6) (b : Bool) (t : Nat) (st : Staging) (s : State) : (s.twoWireCondition d b t st).pending = s.pending := by
  unfold State.twoWireCondition; (try dsimp only); (repeat' split) <;> simp

/-! ### twoWireEdge -/

@[simp] theorem State.twoWireEdge_clock (d : Fin 6) (r : Role) (l : Bool) (t : Nat) (s : State) : (s.twoWireEdge d r l t).clock = s.clock := by
  unfold State.twoWireEdge; (try dsimp only); (repeat' split) <;> simp
@[simp] theorem State.twoWireEdge_pins (d : Fin 6) (r : Role) (l : Bool) (t : Nat) (s : State) : (s.twoWireEdge d r l t).pins = s.pins := by
  unfold State.twoWireEdge; (try dsimp only); (repeat' split) <;> simp
@[simp] theorem State.twoWireEdge_pods (d : Fin 6) (r : Role) (l : Bool) (t : Nat) (s : State) : (s.twoWireEdge d r l t).pods = s.pods := by
  unfold State.twoWireEdge; (try dsimp only); (repeat' split) <;> simp
@[simp] theorem State.twoWireEdge_channels (d : Fin 6) (r : Role) (l : Bool) (t : Nat) (s : State) : (s.twoWireEdge d r l t).channels = s.channels := by
  unfold State.twoWireEdge; (try dsimp only); (repeat' split) <;> simp
@[simp] theorem State.twoWireEdge_panel (d : Fin 6) (r : Role) (l : Bool) (t : Nat) (s : State) : (s.twoWireEdge d r l t).panel = s.panel := by
  unfold State.twoWireEdge; (try dsimp only); (repeat' split) <;> simp
@[simp] theorem State.twoWireEdge_backlight (d : Fin 6) (r : Role) (l : Bool) (t : Nat) (s : State) : (s.twoWireEdge d r l t).backlight = s.backlight := by
  unfold State.twoWireEdge; (try dsimp only); (repeat' split) <;> simp
@[simp] theorem State.twoWireEdge_port (d : Fin 6) (r : Role) (l : Bool) (t : Nat) (s : State) : (s.twoWireEdge d r l t).port = s.port := by
  unfold State.twoWireEdge; (try dsimp only); (repeat' split) <;> simp
@[simp] theorem State.twoWireEdge_pending (d : Fin 6) (r : Role) (l : Bool) (t : Nat) (s : State) : (s.twoWireEdge d r l t).pending = s.pending := by
  unfold State.twoWireEdge; (try dsimp only); (repeat' split) <;> simp

/-! ### frameEnd -/

@[simp] theorem State.frameEnd_clock (d : Fin 6) (t : Nat) (st : Staging) (s : State) : (s.frameEnd d t st).clock = s.clock := by
  unfold State.frameEnd; (try dsimp only); (repeat' split) <;> simp
@[simp] theorem State.frameEnd_pins (d : Fin 6) (t : Nat) (st : Staging) (s : State) : (s.frameEnd d t st).pins = s.pins := by
  unfold State.frameEnd; (try dsimp only); (repeat' split) <;> simp
@[simp] theorem State.frameEnd_pods (d : Fin 6) (t : Nat) (st : Staging) (s : State) : (s.frameEnd d t st).pods = s.pods := by
  unfold State.frameEnd; (try dsimp only); (repeat' split) <;> simp
@[simp] theorem State.frameEnd_channels (d : Fin 6) (t : Nat) (st : Staging) (s : State) : (s.frameEnd d t st).channels = s.channels := by
  unfold State.frameEnd; (try dsimp only); (repeat' split) <;> simp
@[simp] theorem State.frameEnd_panel (d : Fin 6) (t : Nat) (st : Staging) (s : State) : (s.frameEnd d t st).panel = s.panel := by
  unfold State.frameEnd; (try dsimp only); (repeat' split) <;> simp
@[simp] theorem State.frameEnd_backlight (d : Fin 6) (t : Nat) (st : Staging) (s : State) : (s.frameEnd d t st).backlight = s.backlight := by
  unfold State.frameEnd; (try dsimp only); (repeat' split) <;> simp
@[simp] theorem State.frameEnd_port (d : Fin 6) (t : Nat) (st : Staging) (s : State) : (s.frameEnd d t st).port = s.port := by
  unfold State.frameEnd; (try dsimp only); (repeat' split) <;> simp
@[simp] theorem State.frameEnd_pending (d : Fin 6) (t : Nat) (st : Staging) (s : State) : (s.frameEnd d t st).pending = s.pending := by
  unfold State.frameEnd; (try dsimp only); (repeat' split) <;> simp

/-! ### selectInBusy -/

@[simp] theorem State.selectInBusy_clock (d : Fin 6) (k : Fin 4) (a : Bool) (t : Nat) (st : Staging) (s : State) : (s.selectInBusy d k a t st).clock = s.clock := by
  unfold State.selectInBusy; (repeat' split) <;> simp
@[simp] theorem State.selectInBusy_pins (d : Fin 6) (k : Fin 4) (a : Bool) (t : Nat) (st : Staging) (s : State) : (s.selectInBusy d k a t st).pins = s.pins := by
  unfold State.selectInBusy; (repeat' split) <;> simp
@[simp] theorem State.selectInBusy_pods (d : Fin 6) (k : Fin 4) (a : Bool) (t : Nat) (st : Staging) (s : State) : (s.selectInBusy d k a t st).pods = s.pods := by
  unfold State.selectInBusy; (repeat' split) <;> simp
@[simp] theorem State.selectInBusy_channels (d : Fin 6) (k : Fin 4) (a : Bool) (t : Nat) (st : Staging) (s : State) : (s.selectInBusy d k a t st).channels = s.channels := by
  unfold State.selectInBusy; (repeat' split) <;> simp
@[simp] theorem State.selectInBusy_panel (d : Fin 6) (k : Fin 4) (a : Bool) (t : Nat) (st : Staging) (s : State) : (s.selectInBusy d k a t st).panel = s.panel := by
  unfold State.selectInBusy; (repeat' split) <;> simp
@[simp] theorem State.selectInBusy_backlight (d : Fin 6) (k : Fin 4) (a : Bool) (t : Nat) (st : Staging) (s : State) : (s.selectInBusy d k a t st).backlight = s.backlight := by
  unfold State.selectInBusy; (repeat' split) <;> simp
@[simp] theorem State.selectInBusy_port (d : Fin 6) (k : Fin 4) (a : Bool) (t : Nat) (st : Staging) (s : State) : (s.selectInBusy d k a t st).port = s.port := by
  unfold State.selectInBusy; (repeat' split) <;> simp
@[simp] theorem State.selectInBusy_pending (d : Fin 6) (k : Fin 4) (a : Bool) (t : Nat) (st : Staging) (s : State) : (s.selectInBusy d k a t st).pending = s.pending := by
  unfold State.selectInBusy; (repeat' split) <;> simp

/-! ### clockedEdge -/

@[simp] theorem State.clockedEdge_clock (d : Fin 6) (p : ClockedParams) (r : Role) (l : Bool) (t : Nat) (s : State) : (s.clockedEdge d p r l t).clock = s.clock := by
  unfold State.clockedEdge; (try dsimp only); (repeat' split) <;> simp
@[simp] theorem State.clockedEdge_pins (d : Fin 6) (p : ClockedParams) (r : Role) (l : Bool) (t : Nat) (s : State) : (s.clockedEdge d p r l t).pins = s.pins := by
  unfold State.clockedEdge; (try dsimp only); (repeat' split) <;> simp
@[simp] theorem State.clockedEdge_pods (d : Fin 6) (p : ClockedParams) (r : Role) (l : Bool) (t : Nat) (s : State) : (s.clockedEdge d p r l t).pods = s.pods := by
  unfold State.clockedEdge; (try dsimp only); (repeat' split) <;> simp
@[simp] theorem State.clockedEdge_channels (d : Fin 6) (p : ClockedParams) (r : Role) (l : Bool) (t : Nat) (s : State) : (s.clockedEdge d p r l t).channels = s.channels := by
  unfold State.clockedEdge; (try dsimp only); (repeat' split) <;> simp
@[simp] theorem State.clockedEdge_panel (d : Fin 6) (p : ClockedParams) (r : Role) (l : Bool) (t : Nat) (s : State) : (s.clockedEdge d p r l t).panel = s.panel := by
  unfold State.clockedEdge; (try dsimp only); (repeat' split) <;> simp
@[simp] theorem State.clockedEdge_backlight (d : Fin 6) (p : ClockedParams) (r : Role) (l : Bool) (t : Nat) (s : State) : (s.clockedEdge d p r l t).backlight = s.backlight := by
  unfold State.clockedEdge; (try dsimp only); (repeat' split) <;> simp
@[simp] theorem State.clockedEdge_port (d : Fin 6) (p : ClockedParams) (r : Role) (l : Bool) (t : Nat) (s : State) : (s.clockedEdge d p r l t).port = s.port := by
  unfold State.clockedEdge; (try dsimp only); (repeat' split) <;> simp
@[simp] theorem State.clockedEdge_pending (d : Fin 6) (p : ClockedParams) (r : Role) (l : Bool) (t : Nat) (s : State) : (s.clockedEdge d p r l t).pending = s.pending := by
  unfold State.clockedEdge; (try dsimp only); (repeat' split) <;> simp

/-! ### asyncStart -/

@[simp] theorem State.asyncStart_clock (d : Fin 6) (p : AsyncParams) (t : Nat) (s : State) : (s.asyncStart d p t).clock = s.clock := by
  simp [State.asyncStart]
@[simp] theorem State.asyncStart_pins (d : Fin 6) (p : AsyncParams) (t : Nat) (s : State) : (s.asyncStart d p t).pins = s.pins := by
  simp [State.asyncStart]
@[simp] theorem State.asyncStart_pods (d : Fin 6) (p : AsyncParams) (t : Nat) (s : State) : (s.asyncStart d p t).pods = s.pods := by
  simp [State.asyncStart]
@[simp] theorem State.asyncStart_channels (d : Fin 6) (p : AsyncParams) (t : Nat) (s : State) : (s.asyncStart d p t).channels = s.channels := by
  simp [State.asyncStart]
@[simp] theorem State.asyncStart_store (d : Fin 6) (p : AsyncParams) (t : Nat) (s : State) : (s.asyncStart d p t).store = s.store := by
  simp [State.asyncStart]
@[simp] theorem State.asyncStart_meters (d : Fin 6) (p : AsyncParams) (t : Nat) (s : State) : (s.asyncStart d p t).meters = s.meters := by
  simp [State.asyncStart]
@[simp] theorem State.asyncStart_panel (d : Fin 6) (p : AsyncParams) (t : Nat) (s : State) : (s.asyncStart d p t).panel = s.panel := by
  simp [State.asyncStart]
@[simp] theorem State.asyncStart_backlight (d : Fin 6) (p : AsyncParams) (t : Nat) (s : State) : (s.asyncStart d p t).backlight = s.backlight := by
  simp [State.asyncStart]
@[simp] theorem State.asyncStart_port (d : Fin 6) (p : AsyncParams) (t : Nat) (s : State) : (s.asyncStart d p t).port = s.port := by
  simp [State.asyncStart]
@[simp] theorem State.asyncStart_pending (d : Fin 6) (p : AsyncParams) (t : Nat) (s : State) : (s.asyncStart d p t).pending = s.pending := by
  simp [State.asyncStart]

/-! ### gapEnd -/

@[simp] theorem State.gapEnd_clock (d : Fin 6) (t : Nat) (s : State) : (s.gapEnd d t).clock = s.clock := by
  simp [State.gapEnd]
@[simp] theorem State.gapEnd_pins (d : Fin 6) (t : Nat) (s : State) : (s.gapEnd d t).pins = s.pins := by
  simp [State.gapEnd]
@[simp] theorem State.gapEnd_pods (d : Fin 6) (t : Nat) (s : State) : (s.gapEnd d t).pods = s.pods := by
  simp [State.gapEnd]
@[simp] theorem State.gapEnd_channels (d : Fin 6) (t : Nat) (s : State) : (s.gapEnd d t).channels = s.channels := by
  simp [State.gapEnd]
@[simp] theorem State.gapEnd_panel (d : Fin 6) (t : Nat) (s : State) : (s.gapEnd d t).panel = s.panel := by
  simp [State.gapEnd]
@[simp] theorem State.gapEnd_backlight (d : Fin 6) (t : Nat) (s : State) : (s.gapEnd d t).backlight = s.backlight := by
  simp [State.gapEnd]
@[simp] theorem State.gapEnd_port (d : Fin 6) (t : Nat) (s : State) : (s.gapEnd d t).port = s.port := by
  simp [State.gapEnd]
@[simp] theorem State.gapEnd_pending (d : Fin 6) (t : Nat) (s : State) : (s.gapEnd d t).pending = s.pending := by
  simp [State.gapEnd]

/-! ### setGap -/

@[simp] theorem State.setGap_clock (d : Fin 6) (p : AsyncParams) (t : Nat) (s : State) : (s.setGap d p t).clock = s.clock := by
  simp [State.setGap]
@[simp] theorem State.setGap_pins (d : Fin 6) (p : AsyncParams) (t : Nat) (s : State) : (s.setGap d p t).pins = s.pins := by
  simp [State.setGap]
@[simp] theorem State.setGap_pods (d : Fin 6) (p : AsyncParams) (t : Nat) (s : State) : (s.setGap d p t).pods = s.pods := by
  simp [State.setGap]
@[simp] theorem State.setGap_channels (d : Fin 6) (p : AsyncParams) (t : Nat) (s : State) : (s.setGap d p t).channels = s.channels := by
  simp [State.setGap]
@[simp] theorem State.setGap_store (d : Fin 6) (p : AsyncParams) (t : Nat) (s : State) : (s.setGap d p t).store = s.store := by
  simp [State.setGap]
@[simp] theorem State.setGap_meters (d : Fin 6) (p : AsyncParams) (t : Nat) (s : State) : (s.setGap d p t).meters = s.meters := by
  simp [State.setGap]
@[simp] theorem State.setGap_panel (d : Fin 6) (p : AsyncParams) (t : Nat) (s : State) : (s.setGap d p t).panel = s.panel := by
  simp [State.setGap]
@[simp] theorem State.setGap_backlight (d : Fin 6) (p : AsyncParams) (t : Nat) (s : State) : (s.setGap d p t).backlight = s.backlight := by
  simp [State.setGap]
@[simp] theorem State.setGap_port (d : Fin 6) (p : AsyncParams) (t : Nat) (s : State) : (s.setGap d p t).port = s.port := by
  simp [State.setGap]
@[simp] theorem State.setGap_pending (d : Fin 6) (p : AsyncParams) (t : Nat) (s : State) : (s.setGap d p t).pending = s.pending := by
  simp [State.setGap]

/-! ### discardCharacter -/

@[simp] theorem State.discardCharacter_clock (d : Fin 6) (s : State) : (s.discardCharacter d).clock = s.clock := by
  simp [State.discardCharacter]
@[simp] theorem State.discardCharacter_pins (d : Fin 6) (s : State) : (s.discardCharacter d).pins = s.pins := by
  simp [State.discardCharacter]
@[simp] theorem State.discardCharacter_pods (d : Fin 6) (s : State) : (s.discardCharacter d).pods = s.pods := by
  simp [State.discardCharacter]
@[simp] theorem State.discardCharacter_channels (d : Fin 6) (s : State) : (s.discardCharacter d).channels = s.channels := by
  simp [State.discardCharacter]
@[simp] theorem State.discardCharacter_store (d : Fin 6) (s : State) : (s.discardCharacter d).store = s.store := by
  simp [State.discardCharacter]
@[simp] theorem State.discardCharacter_meters (d : Fin 6) (s : State) : (s.discardCharacter d).meters = s.meters := by
  simp [State.discardCharacter]
@[simp] theorem State.discardCharacter_panel (d : Fin 6) (s : State) : (s.discardCharacter d).panel = s.panel := by
  simp [State.discardCharacter]
@[simp] theorem State.discardCharacter_backlight (d : Fin 6) (s : State) : (s.discardCharacter d).backlight = s.backlight := by
  simp [State.discardCharacter]
@[simp] theorem State.discardCharacter_port (d : Fin 6) (s : State) : (s.discardCharacter d).port = s.port := by
  simp [State.discardCharacter]
@[simp] theorem State.discardCharacter_pending (d : Fin 6) (s : State) : (s.discardCharacter d).pending = s.pending := by
  simp [State.discardCharacter]

/-! ### goodCharacter -/

@[simp] theorem State.goodCharacter_clock (d : Fin 6) (p : AsyncParams) (t : Nat) (st : Staging) (s : State) : (s.goodCharacter d p t st).clock = s.clock := by
  unfold State.goodCharacter; (try dsimp only); (repeat' split) <;> simp
@[simp] theorem State.goodCharacter_pins (d : Fin 6) (p : AsyncParams) (t : Nat) (st : Staging) (s : State) : (s.goodCharacter d p t st).pins = s.pins := by
  unfold State.goodCharacter; (try dsimp only); (repeat' split) <;> simp
@[simp] theorem State.goodCharacter_pods (d : Fin 6) (p : AsyncParams) (t : Nat) (st : Staging) (s : State) : (s.goodCharacter d p t st).pods = s.pods := by
  unfold State.goodCharacter; (try dsimp only); (repeat' split) <;> simp
@[simp] theorem State.goodCharacter_channels (d : Fin 6) (p : AsyncParams) (t : Nat) (st : Staging) (s : State) : (s.goodCharacter d p t st).channels = s.channels := by
  unfold State.goodCharacter; (try dsimp only); (repeat' split) <;> simp
@[simp] theorem State.goodCharacter_panel (d : Fin 6) (p : AsyncParams) (t : Nat) (st : Staging) (s : State) : (s.goodCharacter d p t st).panel = s.panel := by
  unfold State.goodCharacter; (try dsimp only); (repeat' split) <;> simp
@[simp] theorem State.goodCharacter_backlight (d : Fin 6) (p : AsyncParams) (t : Nat) (st : Staging) (s : State) : (s.goodCharacter d p t st).backlight = s.backlight := by
  unfold State.goodCharacter; (try dsimp only); (repeat' split) <;> simp
@[simp] theorem State.goodCharacter_port (d : Fin 6) (p : AsyncParams) (t : Nat) (st : Staging) (s : State) : (s.goodCharacter d p t st).port = s.port := by
  unfold State.goodCharacter; (try dsimp only); (repeat' split) <;> simp
@[simp] theorem State.goodCharacter_pending (d : Fin 6) (p : AsyncParams) (t : Nat) (st : Staging) (s : State) : (s.goodCharacter d p t st).pending = s.pending := by
  unfold State.goodCharacter; (try dsimp only); (repeat' split) <;> simp

/-! ### judge -/

@[simp] theorem State.judge_clock (d : Fin 6) (p : AsyncParams) (t : Nat) (st : Staging) (s : State) : (s.judge d p t st).clock = s.clock := by
  unfold State.judge; (repeat' split) <;> simp
@[simp] theorem State.judge_pins (d : Fin 6) (p : AsyncParams) (t : Nat) (st : Staging) (s : State) : (s.judge d p t st).pins = s.pins := by
  unfold State.judge; (repeat' split) <;> simp
@[simp] theorem State.judge_pods (d : Fin 6) (p : AsyncParams) (t : Nat) (st : Staging) (s : State) : (s.judge d p t st).pods = s.pods := by
  unfold State.judge; (repeat' split) <;> simp
@[simp] theorem State.judge_channels (d : Fin 6) (p : AsyncParams) (t : Nat) (st : Staging) (s : State) : (s.judge d p t st).channels = s.channels := by
  unfold State.judge; (repeat' split) <;> simp
@[simp] theorem State.judge_panel (d : Fin 6) (p : AsyncParams) (t : Nat) (st : Staging) (s : State) : (s.judge d p t st).panel = s.panel := by
  unfold State.judge; (repeat' split) <;> simp
@[simp] theorem State.judge_backlight (d : Fin 6) (p : AsyncParams) (t : Nat) (st : Staging) (s : State) : (s.judge d p t st).backlight = s.backlight := by
  unfold State.judge; (repeat' split) <;> simp
@[simp] theorem State.judge_port (d : Fin 6) (p : AsyncParams) (t : Nat) (st : Staging) (s : State) : (s.judge d p t st).port = s.port := by
  unfold State.judge; (repeat' split) <;> simp
@[simp] theorem State.judge_pending (d : Fin 6) (p : AsyncParams) (t : Nat) (st : Staging) (s : State) : (s.judge d p t st).pending = s.pending := by
  unfold State.judge; (repeat' split) <;> simp

/-! ### asyncReceiving -/

@[simp] theorem State.asyncReceiving_clock (d : Fin 6) (p : AsyncParams) (h : Bool) (st : Staging) (rc : Receiver) (s : State) : (s.asyncReceiving d p h st rc).clock = s.clock := by
  unfold State.asyncReceiving; (repeat' split) <;> simp
@[simp] theorem State.asyncReceiving_pins (d : Fin 6) (p : AsyncParams) (h : Bool) (st : Staging) (rc : Receiver) (s : State) : (s.asyncReceiving d p h st rc).pins = s.pins := by
  unfold State.asyncReceiving; (repeat' split) <;> simp
@[simp] theorem State.asyncReceiving_pods (d : Fin 6) (p : AsyncParams) (h : Bool) (st : Staging) (rc : Receiver) (s : State) : (s.asyncReceiving d p h st rc).pods = s.pods := by
  unfold State.asyncReceiving; (repeat' split) <;> simp
@[simp] theorem State.asyncReceiving_channels (d : Fin 6) (p : AsyncParams) (h : Bool) (st : Staging) (rc : Receiver) (s : State) : (s.asyncReceiving d p h st rc).channels = s.channels := by
  unfold State.asyncReceiving; (repeat' split) <;> simp
@[simp] theorem State.asyncReceiving_panel (d : Fin 6) (p : AsyncParams) (h : Bool) (st : Staging) (rc : Receiver) (s : State) : (s.asyncReceiving d p h st rc).panel = s.panel := by
  unfold State.asyncReceiving; (repeat' split) <;> simp
@[simp] theorem State.asyncReceiving_backlight (d : Fin 6) (p : AsyncParams) (h : Bool) (st : Staging) (rc : Receiver) (s : State) : (s.asyncReceiving d p h st rc).backlight = s.backlight := by
  unfold State.asyncReceiving; (repeat' split) <;> simp
@[simp] theorem State.asyncReceiving_port (d : Fin 6) (p : AsyncParams) (h : Bool) (st : Staging) (rc : Receiver) (s : State) : (s.asyncReceiving d p h st rc).port = s.port := by
  unfold State.asyncReceiving; (repeat' split) <;> simp
@[simp] theorem State.asyncReceiving_pending (d : Fin 6) (p : AsyncParams) (h : Bool) (st : Staging) (rc : Receiver) (s : State) : (s.asyncReceiving d p h st rc).pending = s.pending := by
  unfold State.asyncReceiving; (repeat' split) <;> simp

/-! ### asyncNextCharacter -/

@[simp] theorem State.asyncNextCharacter_clock (d : Fin 6) (p : AsyncParams) (t : Nat) (st : Staging) (s : State) : (s.asyncNextCharacter d p t st).clock = s.clock := by
  unfold State.asyncNextCharacter; (try dsimp only); (repeat' split) <;> simp
@[simp] theorem State.asyncNextCharacter_pins (d : Fin 6) (p : AsyncParams) (t : Nat) (st : Staging) (s : State) : (s.asyncNextCharacter d p t st).pins = s.pins := by
  unfold State.asyncNextCharacter; (try dsimp only); (repeat' split) <;> simp
@[simp] theorem State.asyncNextCharacter_pods (d : Fin 6) (p : AsyncParams) (t : Nat) (st : Staging) (s : State) : (s.asyncNextCharacter d p t st).pods = s.pods := by
  unfold State.asyncNextCharacter; (try dsimp only); (repeat' split) <;> simp
@[simp] theorem State.asyncNextCharacter_channels (d : Fin 6) (p : AsyncParams) (t : Nat) (st : Staging) (s : State) : (s.asyncNextCharacter d p t st).channels = s.channels := by
  unfold State.asyncNextCharacter; (try dsimp only); (repeat' split) <;> simp
@[simp] theorem State.asyncNextCharacter_panel (d : Fin 6) (p : AsyncParams) (t : Nat) (st : Staging) (s : State) : (s.asyncNextCharacter d p t st).panel = s.panel := by
  unfold State.asyncNextCharacter; (try dsimp only); (repeat' split) <;> simp
@[simp] theorem State.asyncNextCharacter_backlight (d : Fin 6) (p : AsyncParams) (t : Nat) (st : Staging) (s : State) : (s.asyncNextCharacter d p t st).backlight = s.backlight := by
  unfold State.asyncNextCharacter; (try dsimp only); (repeat' split) <;> simp
@[simp] theorem State.asyncNextCharacter_port (d : Fin 6) (p : AsyncParams) (t : Nat) (st : Staging) (s : State) : (s.asyncNextCharacter d p t st).port = s.port := by
  unfold State.asyncNextCharacter; (try dsimp only); (repeat' split) <;> simp
@[simp] theorem State.asyncNextCharacter_pending (d : Fin 6) (p : AsyncParams) (t : Nat) (st : Staging) (s : State) : (s.asyncNextCharacter d p t st).pending = s.pending := by
  unfold State.asyncNextCharacter; (try dsimp only); (repeat' split) <;> simp

/-! ### asyncEdge -/

@[simp] theorem State.asyncEdge_clock (d : Fin 6) (p : AsyncParams) (t : Nat) (s : State) : (s.asyncEdge d p t).clock = s.clock := by
  unfold State.asyncEdge; (try dsimp only); (repeat' split) <;> simp
@[simp] theorem State.asyncEdge_pins (d : Fin 6) (p : AsyncParams) (t : Nat) (s : State) : (s.asyncEdge d p t).pins = s.pins := by
  unfold State.asyncEdge; (try dsimp only); (repeat' split) <;> simp
@[simp] theorem State.asyncEdge_pods (d : Fin 6) (p : AsyncParams) (t : Nat) (s : State) : (s.asyncEdge d p t).pods = s.pods := by
  unfold State.asyncEdge; (try dsimp only); (repeat' split) <;> simp
@[simp] theorem State.asyncEdge_channels (d : Fin 6) (p : AsyncParams) (t : Nat) (s : State) : (s.asyncEdge d p t).channels = s.channels := by
  unfold State.asyncEdge; (try dsimp only); (repeat' split) <;> simp
@[simp] theorem State.asyncEdge_panel (d : Fin 6) (p : AsyncParams) (t : Nat) (s : State) : (s.asyncEdge d p t).panel = s.panel := by
  unfold State.asyncEdge; (try dsimp only); (repeat' split) <;> simp
@[simp] theorem State.asyncEdge_backlight (d : Fin 6) (p : AsyncParams) (t : Nat) (s : State) : (s.asyncEdge d p t).backlight = s.backlight := by
  unfold State.asyncEdge; (try dsimp only); (repeat' split) <;> simp
@[simp] theorem State.asyncEdge_port (d : Fin 6) (p : AsyncParams) (t : Nat) (s : State) : (s.asyncEdge d p t).port = s.port := by
  unfold State.asyncEdge; (try dsimp only); (repeat' split) <;> simp
@[simp] theorem State.asyncEdge_pending (d : Fin 6) (p : AsyncParams) (t : Nat) (s : State) : (s.asyncEdge d p t).pending = s.pending := by
  unfold State.asyncEdge; (try dsimp only); (repeat' split) <;> simp

/-! ### roleEdge -/

@[simp] theorem State.roleEdge_clock (d : Fin 6) (t : Nat) (e : Role × Bool) (s : State) : (State.roleEdge d t s e).clock = s.clock := by
  unfold State.roleEdge; (try dsimp only); (repeat' split) <;> simp
@[simp] theorem State.roleEdge_pins (d : Fin 6) (t : Nat) (e : Role × Bool) (s : State) : (State.roleEdge d t s e).pins = s.pins := by
  unfold State.roleEdge; (try dsimp only); (repeat' split) <;> simp
@[simp] theorem State.roleEdge_pods (d : Fin 6) (t : Nat) (e : Role × Bool) (s : State) : (State.roleEdge d t s e).pods = s.pods := by
  unfold State.roleEdge; (try dsimp only); (repeat' split) <;> simp
@[simp] theorem State.roleEdge_channels (d : Fin 6) (t : Nat) (e : Role × Bool) (s : State) : (State.roleEdge d t s e).channels = s.channels := by
  unfold State.roleEdge; (try dsimp only); (repeat' split) <;> simp
@[simp] theorem State.roleEdge_panel (d : Fin 6) (t : Nat) (e : Role × Bool) (s : State) : (State.roleEdge d t s e).panel = s.panel := by
  unfold State.roleEdge; (try dsimp only); (repeat' split) <;> simp
@[simp] theorem State.roleEdge_backlight (d : Fin 6) (t : Nat) (e : Role × Bool) (s : State) : (State.roleEdge d t s e).backlight = s.backlight := by
  unfold State.roleEdge; (try dsimp only); (repeat' split) <;> simp
@[simp] theorem State.roleEdge_port (d : Fin 6) (t : Nat) (e : Role × Bool) (s : State) : (State.roleEdge d t s e).port = s.port := by
  unfold State.roleEdge; (try dsimp only); (repeat' split) <;> simp
@[simp] theorem State.roleEdge_pending (d : Fin 6) (t : Nat) (e : Role × Bool) (s : State) : (State.roleEdge d t s e).pending = s.pending := by
  unfold State.roleEdge; (try dsimp only); (repeat' split) <;> simp

/-! ### decoderEdges -/

@[simp] theorem State.decoderEdges_clock (cs : List (Fin 32)) (t : Nat) (d : Fin 6) (s : State) : (s.decoderEdges cs t d).clock = s.clock := by
  exact foldl_keeps State.clock _ (fun _ _ => by simp) _ _
@[simp] theorem State.decoderEdges_pins (cs : List (Fin 32)) (t : Nat) (d : Fin 6) (s : State) : (s.decoderEdges cs t d).pins = s.pins := by
  exact foldl_keeps State.pins _ (fun _ _ => by simp) _ _
@[simp] theorem State.decoderEdges_pods (cs : List (Fin 32)) (t : Nat) (d : Fin 6) (s : State) : (s.decoderEdges cs t d).pods = s.pods := by
  exact foldl_keeps State.pods _ (fun _ _ => by simp) _ _
@[simp] theorem State.decoderEdges_channels (cs : List (Fin 32)) (t : Nat) (d : Fin 6) (s : State) : (s.decoderEdges cs t d).channels = s.channels := by
  exact foldl_keeps State.channels _ (fun _ _ => by simp) _ _
@[simp] theorem State.decoderEdges_panel (cs : List (Fin 32)) (t : Nat) (d : Fin 6) (s : State) : (s.decoderEdges cs t d).panel = s.panel := by
  exact foldl_keeps State.panel _ (fun _ _ => by simp) _ _
@[simp] theorem State.decoderEdges_backlight (cs : List (Fin 32)) (t : Nat) (d : Fin 6) (s : State) : (s.decoderEdges cs t d).backlight = s.backlight := by
  exact foldl_keeps State.backlight _ (fun _ _ => by simp) _ _
@[simp] theorem State.decoderEdges_port (cs : List (Fin 32)) (t : Nat) (d : Fin 6) (s : State) : (s.decoderEdges cs t d).port = s.port := by
  exact foldl_keeps State.port _ (fun _ _ => by simp) _ _
@[simp] theorem State.decoderEdges_pending (cs : List (Fin 32)) (t : Nat) (d : Fin 6) (s : State) : (s.decoderEdges cs t d).pending = s.pending := by
  exact foldl_keeps State.pending _ (fun _ _ => by simp) _ _

/-! ### meterEdges -/

@[simp] theorem State.meterEdges_clock (cs : List (Fin 32)) (t : Nat) (m : Fin 8) (s : State) : (s.meterEdges cs t m).clock = s.clock := by
  unfold State.meterEdges; rw [foldl_keeps State.clock _ (fun _ _ => by simp)]
@[simp] theorem State.meterEdges_pins (cs : List (Fin 32)) (t : Nat) (m : Fin 8) (s : State) : (s.meterEdges cs t m).pins = s.pins := by
  unfold State.meterEdges; rw [foldl_keeps State.pins _ (fun _ _ => by simp)]
@[simp] theorem State.meterEdges_pods (cs : List (Fin 32)) (t : Nat) (m : Fin 8) (s : State) : (s.meterEdges cs t m).pods = s.pods := by
  unfold State.meterEdges; rw [foldl_keeps State.pods _ (fun _ _ => by simp)]
@[simp] theorem State.meterEdges_channels (cs : List (Fin 32)) (t : Nat) (m : Fin 8) (s : State) : (s.meterEdges cs t m).channels = s.channels := by
  unfold State.meterEdges; rw [foldl_keeps State.channels _ (fun _ _ => by simp)]
@[simp] theorem State.meterEdges_decoders (cs : List (Fin 32)) (t : Nat) (m : Fin 8) (s : State) : (s.meterEdges cs t m).decoders = s.decoders := by
  unfold State.meterEdges; rw [foldl_keeps State.decoders _ (fun _ _ => by simp)]
@[simp] theorem State.meterEdges_store (cs : List (Fin 32)) (t : Nat) (m : Fin 8) (s : State) : (s.meterEdges cs t m).store = s.store := by
  unfold State.meterEdges; rw [foldl_keeps State.store _ (fun _ _ => by simp)]
@[simp] theorem State.meterEdges_panel (cs : List (Fin 32)) (t : Nat) (m : Fin 8) (s : State) : (s.meterEdges cs t m).panel = s.panel := by
  unfold State.meterEdges; rw [foldl_keeps State.panel _ (fun _ _ => by simp)]
@[simp] theorem State.meterEdges_backlight (cs : List (Fin 32)) (t : Nat) (m : Fin 8) (s : State) : (s.meterEdges cs t m).backlight = s.backlight := by
  unfold State.meterEdges; rw [foldl_keeps State.backlight _ (fun _ _ => by simp)]
@[simp] theorem State.meterEdges_port (cs : List (Fin 32)) (t : Nat) (m : Fin 8) (s : State) : (s.meterEdges cs t m).port = s.port := by
  unfold State.meterEdges; rw [foldl_keeps State.port _ (fun _ _ => by simp)]
@[simp] theorem State.meterEdges_pending (cs : List (Fin 32)) (t : Nat) (m : Fin 8) (s : State) : (s.meterEdges cs t m).pending = s.pending := by
  unfold State.meterEdges; rw [foldl_keeps State.pending _ (fun _ _ => by simp)]

/-! ### taken -/

@[simp] theorem State.taken_clock (cs : List (Fin 32)) (t : Nat) (k : Taker) (s : State) : (State.taken cs t s k).clock = s.clock := by
  cases k <;> simp [State.taken]
@[simp] theorem State.taken_pins (cs : List (Fin 32)) (t : Nat) (k : Taker) (s : State) : (State.taken cs t s k).pins = s.pins := by
  cases k <;> simp [State.taken]
@[simp] theorem State.taken_pods (cs : List (Fin 32)) (t : Nat) (k : Taker) (s : State) : (State.taken cs t s k).pods = s.pods := by
  cases k <;> simp [State.taken]
@[simp] theorem State.taken_channels (cs : List (Fin 32)) (t : Nat) (k : Taker) (s : State) : (State.taken cs t s k).channels = s.channels := by
  cases k <;> simp [State.taken]
@[simp] theorem State.taken_panel (cs : List (Fin 32)) (t : Nat) (k : Taker) (s : State) : (State.taken cs t s k).panel = s.panel := by
  cases k <;> simp [State.taken]
@[simp] theorem State.taken_backlight (cs : List (Fin 32)) (t : Nat) (k : Taker) (s : State) : (State.taken cs t s k).backlight = s.backlight := by
  cases k <;> simp [State.taken]
@[simp] theorem State.taken_port (cs : List (Fin 32)) (t : Nat) (k : Taker) (s : State) : (State.taken cs t s k).port = s.port := by
  cases k <;> simp [State.taken]
@[simp] theorem State.taken_pending (cs : List (Fin 32)) (t : Nat) (k : Taker) (s : State) : (State.taken cs t s k).pending = s.pending := by
  cases k <;> simp [State.taken]

/-! ### deliver -/

@[simp] theorem State.deliver_clock (cs : List (Fin 32)) (t : Nat) (l : List Taker) (s : State) : (s.deliver cs t l).clock = s.clock := by
  exact foldl_keeps State.clock _ (fun _ _ => by simp) _ _
@[simp] theorem State.deliver_pins (cs : List (Fin 32)) (t : Nat) (l : List Taker) (s : State) : (s.deliver cs t l).pins = s.pins := by
  exact foldl_keeps State.pins _ (fun _ _ => by simp) _ _
@[simp] theorem State.deliver_pods (cs : List (Fin 32)) (t : Nat) (l : List Taker) (s : State) : (s.deliver cs t l).pods = s.pods := by
  exact foldl_keeps State.pods _ (fun _ _ => by simp) _ _
@[simp] theorem State.deliver_channels (cs : List (Fin 32)) (t : Nat) (l : List Taker) (s : State) : (s.deliver cs t l).channels = s.channels := by
  exact foldl_keeps State.channels _ (fun _ _ => by simp) _ _
@[simp] theorem State.deliver_panel (cs : List (Fin 32)) (t : Nat) (l : List Taker) (s : State) : (s.deliver cs t l).panel = s.panel := by
  exact foldl_keeps State.panel _ (fun _ _ => by simp) _ _
@[simp] theorem State.deliver_backlight (cs : List (Fin 32)) (t : Nat) (l : List Taker) (s : State) : (s.deliver cs t l).backlight = s.backlight := by
  exact foldl_keeps State.backlight _ (fun _ _ => by simp) _ _
@[simp] theorem State.deliver_port (cs : List (Fin 32)) (t : Nat) (l : List Taker) (s : State) : (s.deliver cs t l).port = s.port := by
  exact foldl_keeps State.port _ (fun _ _ => by simp) _ _
@[simp] theorem State.deliver_pending (cs : List (Fin 32)) (t : Nat) (l : List Taker) (s : State) : (s.deliver cs t l).pending = s.pending := by
  exact foldl_keeps State.pending _ (fun _ _ => by simp) _ _

/-! ### podMoves -/

@[simp] theorem State.podMoves_clock (p : Fin 4) (new : Pod) (c : DownCause) (s : State) : (s.podMoves p new c).clock = s.clock := by
  unfold State.podMoves; (try dsimp only); (repeat' split) <;> simp
@[simp] theorem State.podMoves_pins (p : Fin 4) (new : Pod) (c : DownCause) (s : State) : (s.podMoves p new c).pins = s.pins := by
  unfold State.podMoves; (try dsimp only); (repeat' split) <;> simp
@[simp] theorem State.podMoves_panel (p : Fin 4) (new : Pod) (c : DownCause) (s : State) : (s.podMoves p new c).panel = s.panel := by
  unfold State.podMoves; (try dsimp only); (repeat' split) <;> simp
@[simp] theorem State.podMoves_backlight (p : Fin 4) (new : Pod) (c : DownCause) (s : State) : (s.podMoves p new c).backlight = s.backlight := by
  unfold State.podMoves; (try dsimp only); (repeat' split) <;> simp
@[simp] theorem State.podMoves_port (p : Fin 4) (new : Pod) (c : DownCause) (s : State) : (s.podMoves p new c).port = s.port := by
  unfold State.podMoves; (try dsimp only); (repeat' split) <;> simp
@[simp] theorem State.podMoves_pending (p : Fin 4) (new : Pod) (c : DownCause) (s : State) : (s.podMoves p new c).pending = s.pending := by
  unfold State.podMoves; (try dsimp only); (repeat' split) <;> simp

/-! ### podUp -/

@[simp] theorem State.podUp_clock (p : Fin 4) (new : Pod) (s : State) : (s.podUp p new).clock = s.clock := by
  simp [State.podUp]
@[simp] theorem State.podUp_pins (p : Fin 4) (new : Pod) (s : State) : (s.podUp p new).pins = s.pins := by
  simp [State.podUp]
@[simp] theorem State.podUp_store (p : Fin 4) (new : Pod) (s : State) : (s.podUp p new).store = s.store := by
  simp [State.podUp]
@[simp] theorem State.podUp_meters (p : Fin 4) (new : Pod) (s : State) : (s.podUp p new).meters = s.meters := by
  simp [State.podUp]
@[simp] theorem State.podUp_panel (p : Fin 4) (new : Pod) (s : State) : (s.podUp p new).panel = s.panel := by
  simp [State.podUp]
@[simp] theorem State.podUp_backlight (p : Fin 4) (new : Pod) (s : State) : (s.podUp p new).backlight = s.backlight := by
  simp [State.podUp]
@[simp] theorem State.podUp_port (p : Fin 4) (new : Pod) (s : State) : (s.podUp p new).port = s.port := by
  simp [State.podUp]
@[simp] theorem State.podUp_pending (p : Fin 4) (new : Pod) (s : State) : (s.podUp p new).pending = s.pending := by
  simp [State.podUp]

/-! ### podGoOne -/

@[simp] theorem State.podGoOne_clock (p : Fin 4) (s : State) : (State.podGoOne s p).clock = s.clock := by
  simp [State.podGoOne]
@[simp] theorem State.podGoOne_pins (p : Fin 4) (s : State) : (State.podGoOne s p).pins = s.pins := by
  simp [State.podGoOne]
@[simp] theorem State.podGoOne_panel (p : Fin 4) (s : State) : (State.podGoOne s p).panel = s.panel := by
  simp [State.podGoOne]
@[simp] theorem State.podGoOne_backlight (p : Fin 4) (s : State) : (State.podGoOne s p).backlight = s.backlight := by
  simp [State.podGoOne]
@[simp] theorem State.podGoOne_port (p : Fin 4) (s : State) : (State.podGoOne s p).port = s.port := by
  simp [State.podGoOne]
@[simp] theorem State.podGoOne_pending (p : Fin 4) (s : State) : (State.podGoOne s p).pending = s.pending := by
  simp [State.podGoOne]


end Sys2Proof.Machine
end

