-- ==== Sys2Proof/Laws/Display.lean ====
section
/-! SUPPORT. What the Panel Link and the Compositor leave alone, and the runs of LSCK over a burst. -/

namespace Sys2Proof.Machine

/-! ### startBurst -/

@[simp] theorem State.startBurst_clock (s : State) : (s.startBurst).clock = s.clock := by
  unfold State.startBurst; (repeat' split) <;> simp
@[simp] theorem State.startBurst_pins (s : State) : (s.startBurst).pins = s.pins := by
  unfold State.startBurst; (repeat' split) <;> simp
@[simp] theorem State.startBurst_pods (s : State) : (s.startBurst).pods = s.pods := by
  unfold State.startBurst; (repeat' split) <;> simp
@[simp] theorem State.startBurst_channels (s : State) : (s.startBurst).channels = s.channels := by
  unfold State.startBurst; (repeat' split) <;> simp
@[simp] theorem State.startBurst_decoders (s : State) : (s.startBurst).decoders = s.decoders := by
  unfold State.startBurst; (repeat' split) <;> simp
@[simp] theorem State.startBurst_store (s : State) : (s.startBurst).store = s.store := by
  unfold State.startBurst; (repeat' split) <;> simp
@[simp] theorem State.startBurst_meters (s : State) : (s.startBurst).meters = s.meters := by
  unfold State.startBurst; (repeat' split) <;> simp
@[simp] theorem State.startBurst_watch (s : State) : (s.startBurst).watch = s.watch := by
  unfold State.startBurst; (repeat' split) <;> simp
@[simp] theorem State.startBurst_display (s : State) : (s.startBurst).display = s.display := by
  unfold State.startBurst; (repeat' split) <;> simp
@[simp] theorem State.startBurst_backlight (s : State) : (s.startBurst).backlight = s.backlight := by
  unfold State.startBurst; (repeat' split) <;> simp
@[simp] theorem State.startBurst_port (s : State) : (s.startBurst).port = s.port := by
  unfold State.startBurst; (repeat' split) <;> simp
@[simp] theorem State.startBurst_pending (s : State) : (s.startBurst).pending = s.pending := by
  unfold State.startBurst; (repeat' split) <;> simp

/-! ### panelTest -/

@[simp] theorem State.panelTest_clock (lbusy : Bool) (s : State) : (s.panelTest lbusy).clock = s.clock := by
  unfold State.panelTest; (repeat' split) <;> simp
@[simp] theorem State.panelTest_pods (lbusy : Bool) (s : State) : (s.panelTest lbusy).pods = s.pods := by
  unfold State.panelTest; (repeat' split) <;> simp
@[simp] theorem State.panelTest_channels (lbusy : Bool) (s : State) : (s.panelTest lbusy).channels = s.channels := by
  unfold State.panelTest; (repeat' split) <;> simp
@[simp] theorem State.panelTest_decoders (lbusy : Bool) (s : State) : (s.panelTest lbusy).decoders = s.decoders := by
  unfold State.panelTest; (repeat' split) <;> simp
@[simp] theorem State.panelTest_store (lbusy : Bool) (s : State) : (s.panelTest lbusy).store = s.store := by
  unfold State.panelTest; (repeat' split) <;> simp
@[simp] theorem State.panelTest_meters (lbusy : Bool) (s : State) : (s.panelTest lbusy).meters = s.meters := by
  unfold State.panelTest; (repeat' split) <;> simp
@[simp] theorem State.panelTest_watch (lbusy : Bool) (s : State) : (s.panelTest lbusy).watch = s.watch := by
  unfold State.panelTest; (repeat' split) <;> simp
@[simp] theorem State.panelTest_display (lbusy : Bool) (s : State) : (s.panelTest lbusy).display = s.display := by
  unfold State.panelTest; (repeat' split) <;> simp
@[simp] theorem State.panelTest_backlight (lbusy : Bool) (s : State) : (s.panelTest lbusy).backlight = s.backlight := by
  unfold State.panelTest; (repeat' split) <;> simp
@[simp] theorem State.panelTest_port (lbusy : Bool) (s : State) : (s.panelTest lbusy).port = s.port := by
  unfold State.panelTest; (repeat' split) <;> simp
@[simp] theorem State.panelTest_pending (lbusy : Bool) (s : State) : (s.panelTest lbusy).pending = s.pending := by
  unfold State.panelTest; (repeat' split) <;> simp

/-- The test for a burst changes no pin but LBUSY, which it may read (R179, R181). -/
theorem State.panelTest_pins (lbusy : Bool) (s : State) :
    (s.panelTest lbusy).pins = if s.panel.link = .idle ∧ s.panel.dirty ≠ 0 then { s.pins with lbusy } else s.pins := by
  unfold State.panelTest
  split
  · cases lbusy <;> simp [State.setLbusy]
  · rfl

/-- Outside IDLE, and with no row waiting, the test for a burst does nothing (R179). -/
theorem State.panelTest_quiet (lbusy : Bool) (s : State) (h : ¬(s.panel.link = .idle ∧ s.panel.dirty ≠ 0)) :
    s.panelTest lbusy = s := if_neg h

/-- In IDLE with rows waiting, a high LBUSY starts the wait (R181). -/
theorem State.panelTest_high (s : State) (h : s.panel.link = .idle) (k : s.panel.dirty ≠ 0) :
    s.panelTest true = { s.setLbusy true with panel := s.panel.startWait s.clock.now } := by
  simp only [State.panelTest, h, k, ne_eq, not_false_eq_true, and_self, if_true]

/-- In IDLE with rows waiting, a low LBUSY starts a burst (R181). -/
theorem State.panelTest_low (s : State) (h : s.panel.link = .idle) (k : s.panel.dirty ≠ 0) :
    s.panelTest false = (s.setLbusy false).startBurst := by
  simp only [State.panelTest, h, k, ne_eq, not_false_eq_true, and_self, if_true, Bool.false_eq_true, if_false]

/-! ### LSCK over a burst -/

/-- The shape of a bit period: LSCK is away from its idle level for at least one sample period, comes back within the bit period, and is at it for at least one sample period before it leaves again. -/
theorem Rate.pulse_bounds (r : Rate) :
    r.pulseStart + r.mhz ≤ r.pulseEnd ∧ r.pulseEnd ≤ 250 ∧ r.pulseEnd + r.mhz ≤ r.pulseStart + 250 := by
  have w := (Config.lsckSlack r.mhz).isLt
  have a := (Config.lsckStart r.mhz).isLt
  have m : 2 * r.mhz ≤ 250 := by cases r <;> decide
  simp only [Rate.pulseEnd, Rate.pulseStart]
  omega

/-- The first sample at or after a phase of the `k`-th bit period, counted from the start of the burst. -/
def Rate.sampleAt (r : Rate) (k phase : Nat) : Nat := (250 * k + phase + (r.mhz - 1)) / r.mhz

theorem Rate.sampleAt_le (r : Rate) (k phase n : Nat) : r.sampleAt k phase ≤ n ↔ 250 * k + phase ≤ n * r.mhz := by
  cases r <;> simp only [Rate.sampleAt, Rate.mhz] <;> omega

/-- Two phases at least one sample period apart have different first samples. -/
theorem Rate.sampleAt_lt (r : Rate) {k l p q : Nat} (h : 250 * k + p + r.mhz ≤ 250 * l + q) :
    r.sampleAt k p < r.sampleAt l q := by
  revert h
  cases r <;> simp only [Rate.sampleAt, Rate.mhz] <;> omega

/-- In a burst LSCK is away from its idle level at the samples of 648 runs, one for each bit (R179, R182). -/
theorem Burst.clocked_iff_run (b : Burst) (start now : Nat) (h : b.endsAt = start + b.rate.burstTime) (lo : start ≤ now) :
    b.clocked now = true ↔ ∃ k, k < 648 ∧
      start + b.rate.sampleAt k b.rate.pulseStart ≤ now ∧ now < start + b.rate.sampleAt k b.rate.pulseEnd := by
  obtain ⟨n, rfl⟩ := Nat.exists_eq_add_of_le lo
  have e := b.rate.pulse_bounds.2.1
  have z : start + n - (start + b.rate.burstTime - b.rate.burstTime) = n := by omega
  have le := fun k p => b.rate.sampleAt_le k p n
  simp only [Burst.clocked, Burst.bitAt, Burst.phase, h, z, Config.burstBits, Config.samplesPerMicrosecond,
    decide_eq_true_eq, Nat.add_le_add_iff_left, ← Nat.not_le, le]
  generalize n * b.rate.mhz = x
  constructor
  · intro i
    exact ⟨x / 250, by omega, by omega, by omega⟩
  · rintro ⟨k, i⟩
    omega

/-- The runs of LSCK stand apart, the `k`-th within the `k`-th bit period. -/
theorem Rate.runs_apart (r : Rate) (k : Nat) :
    250 * k ≤ r.sampleAt k r.pulseStart * r.mhz ∧
      r.sampleAt k r.pulseStart < r.sampleAt k r.pulseEnd ∧
      (r.sampleAt k r.pulseEnd - 1) * r.mhz < 250 * (k + 1) ∧
      r.sampleAt k r.pulseEnd < r.sampleAt (k + 1) r.pulseStart := by
  obtain ⟨away, inside, idle⟩ := r.pulse_bounds
  refine ⟨?_, r.sampleAt_lt (by omega), ?_, r.sampleAt_lt (by omega)⟩
  · have := (r.sampleAt_le k r.pulseStart _).1 (Nat.le_refl _)
    omega
  · have : ¬ 250 * k + r.pulseEnd ≤ (r.sampleAt k r.pulseEnd - 1) * r.mhz := fun h => by
      have := (r.sampleAt_le k r.pulseEnd _).2 h
      have := r.sampleAt_lt (k := k) (l := k) (p := r.pulseStart) (q := r.pulseEnd) (by omega)
      omega
    omega

/-! ### vacateRect -/

@[simp] theorem State.vacateRect_clock (p : Pane) (s : State) : (s.vacateRect p).clock = s.clock := by
  unfold State.vacateRect; (repeat' split) <;> simp
@[simp] theorem State.vacateRect_pins (p : Pane) (s : State) : (s.vacateRect p).pins = s.pins := by
  unfold State.vacateRect; (repeat' split) <;> simp
@[simp] theorem State.vacateRect_pods (p : Pane) (s : State) : (s.vacateRect p).pods = s.pods := by
  unfold State.vacateRect; (repeat' split) <;> simp
@[simp] theorem State.vacateRect_channels (p : Pane) (s : State) : (s.vacateRect p).channels = s.channels := by
  unfold State.vacateRect; (repeat' split) <;> simp
@[simp] theorem State.vacateRect_decoders (p : Pane) (s : State) : (s.vacateRect p).decoders = s.decoders := by
  unfold State.vacateRect; (repeat' split) <;> simp
@[simp] theorem State.vacateRect_store (p : Pane) (s : State) : (s.vacateRect p).store = s.store := by
  unfold State.vacateRect; (repeat' split) <;> simp
@[simp] theorem State.vacateRect_meters (p : Pane) (s : State) : (s.vacateRect p).meters = s.meters := by
  unfold State.vacateRect; (repeat' split) <;> simp
@[simp] theorem State.vacateRect_watch (p : Pane) (s : State) : (s.vacateRect p).watch = s.watch := by
  unfold State.vacateRect; (repeat' split) <;> simp
@[simp] theorem State.vacateRect_backlight (p : Pane) (s : State) : (s.vacateRect p).backlight = s.backlight := by
  unfold State.vacateRect; (repeat' split) <;> simp
@[simp] theorem State.vacateRect_port (p : Pane) (s : State) : (s.vacateRect p).port = s.port := by
  unfold State.vacateRect; (repeat' split) <;> simp
@[simp] theorem State.vacateRect_pending (p : Pane) (s : State) : (s.vacateRect p).pending = s.pending := by
  unfold State.vacateRect; (repeat' split) <;> simp

/-! ### renderPane -/

@[simp] theorem State.renderPane_clock (i : Fin 16) (s : State) : (State.renderPane s i).clock = s.clock := by
  unfold State.renderPane; (try dsimp only); (repeat' split) <;> simp
@[simp] theorem State.renderPane_pins (i : Fin 16) (s : State) : (State.renderPane s i).pins = s.pins := by
  unfold State.renderPane; (try dsimp only); (repeat' split) <;> simp
@[simp] theorem State.renderPane_pods (i : Fin 16) (s : State) : (State.renderPane s i).pods = s.pods := by
  unfold State.renderPane; (try dsimp only); (repeat' split) <;> simp
@[simp] theorem State.renderPane_channels (i : Fin 16) (s : State) : (State.renderPane s i).channels = s.channels := by
  unfold State.renderPane; (try dsimp only); (repeat' split) <;> simp
@[simp] theorem State.renderPane_decoders (i : Fin 16) (s : State) : (State.renderPane s i).decoders = s.decoders := by
  unfold State.renderPane; (try dsimp only); (repeat' split) <;> simp
@[simp] theorem State.renderPane_store (i : Fin 16) (s : State) : (State.renderPane s i).store = s.store := by
  unfold State.renderPane; (try dsimp only); (repeat' split) <;> simp
@[simp] theorem State.renderPane_meters (i : Fin 16) (s : State) : (State.renderPane s i).meters = s.meters := by
  unfold State.renderPane; (try dsimp only); (repeat' split) <;> simp
@[simp] theorem State.renderPane_watch (i : Fin 16) (s : State) : (State.renderPane s i).watch = s.watch := by
  unfold State.renderPane; (try dsimp only); (repeat' split) <;> simp
@[simp] theorem State.renderPane_backlight (i : Fin 16) (s : State) : (State.renderPane s i).backlight = s.backlight := by
  unfold State.renderPane; (try dsimp only); (repeat' split) <;> simp
@[simp] theorem State.renderPane_port (i : Fin 16) (s : State) : (State.renderPane s i).port = s.port := by
  unfold State.renderPane; (try dsimp only); (repeat' split) <;> simp
@[simp] theorem State.renderPane_pending (i : Fin 16) (s : State) : (State.renderPane s i).pending = s.pending := by
  unfold State.renderPane; (try dsimp only); (repeat' split) <;> simp

/-! ### render -/

@[simp] theorem State.render_clock (s : State) : (s.render).clock = s.clock := by
  unfold State.render; rw [foldl_keeps State.clock _ (fun _ _ => by simp)]; simp
@[simp] theorem State.render_pins (s : State) : (s.render).pins = s.pins := by
  unfold State.render; rw [foldl_keeps State.pins _ (fun _ _ => by simp)]; simp
@[simp] theorem State.render_pods (s : State) : (s.render).pods = s.pods := by
  unfold State.render; rw [foldl_keeps State.pods _ (fun _ _ => by simp)]; simp
@[simp] theorem State.render_channels (s : State) : (s.render).channels = s.channels := by
  unfold State.render; rw [foldl_keeps State.channels _ (fun _ _ => by simp)]; simp
@[simp] theorem State.render_decoders (s : State) : (s.render).decoders = s.decoders := by
  unfold State.render; rw [foldl_keeps State.decoders _ (fun _ _ => by simp)]; simp
@[simp] theorem State.render_store (s : State) : (s.render).store = s.store := by
  unfold State.render; rw [foldl_keeps State.store _ (fun _ _ => by simp)]; simp
@[simp] theorem State.render_meters (s : State) : (s.render).meters = s.meters := by
  unfold State.render; rw [foldl_keeps State.meters _ (fun _ _ => by simp)]; simp
@[simp] theorem State.render_watch (s : State) : (s.render).watch = s.watch := by
  unfold State.render; rw [foldl_keeps State.watch _ (fun _ _ => by simp)]; simp
@[simp] theorem State.render_backlight (s : State) : (s.render).backlight = s.backlight := by
  unfold State.render; rw [foldl_keeps State.backlight _ (fun _ _ => by simp)]; simp
@[simp] theorem State.render_port (s : State) : (s.render).port = s.port := by
  unfold State.render; rw [foldl_keeps State.port _ (fun _ _ => by simp)]; simp
@[simp] theorem State.render_pending (s : State) : (s.render).pending = s.pending := by
  unfold State.render; rw [foldl_keeps State.pending _ (fun _ _ => by simp)]; simp


end Sys2Proof.Machine
end

