-- ==== Sys2Proof/Laws/UpTo.lean ====
section
/-! SUPPORT. What a report does, said once: the state after it agrees with the state before up to reports, its watches are the evaluated ones, and what the Watch Unit derives is derived. -/

namespace Sys2Proof.Machine

/-! ### Agreement up to reports -/

theorem Watch.SameSetting.refl (w : Watch) : w.SameSetting w := ⟨rfl, rfl, rfl, rfl, rfl⟩

theorem Watch.SameSetting.trans {a b c : Watch} (h : a.SameSetting b) (k : b.SameSetting c) : a.SameSetting c :=
  ⟨k.subject.trans h.subject, k.condition.trans h.condition, k.level.trans h.level, k.freezes.trans h.freezes,
    k.marks.trans h.marks⟩

theorem Pane.SameSetting.refl (p : Pane) : p.SameSetting p := ⟨rfl, rfl, rfl, rfl, rfl⟩

theorem Pane.SameSetting.trans {a b c : Pane} (h : a.SameSetting b) (k : b.SameSetting c) : a.SameSetting c :=
  ⟨k.state.trans h.state, k.rect.trans h.rect, k.subject.trans h.subject, k.format.trans h.format, k.label.trans h.label⟩

theorem UpToReports.refl (s : State) : UpToReports s s where
  clock := rfl
  pins := rfl
  pods := rfl
  channels := rfl
  decoders := rfl
  store := rfl
  meters := rfl
  panel := rfl
  backlight := rfl
  port := rfl
  pending := rfl
  grid := rfl
  interval := rfl
  nextTick := rfl
  panes _ := Pane.SameSetting.refl _
  quietPanes _ _ := rfl
  watches _ := Watch.SameSetting.refl _
  quiet _ _ := rfl
  podFault := rfl
  podChange := rfl
  panelLost := rfl
  storeFull := rfl
  cellsFull := rfl
  attention := rfl
  level := rfl
  hold := rfl

theorem UpToReports.trans {s t u : State} (h : UpToReports s t) (k : UpToReports t u) : UpToReports s u where
  clock := k.clock.trans h.clock
  pins := k.pins.trans h.pins
  pods := k.pods.trans h.pods
  channels := k.channels.trans h.channels
  decoders := k.decoders.trans h.decoders
  store := k.store.trans h.store
  meters := k.meters.trans h.meters
  panel := k.panel.trans h.panel
  backlight := k.backlight.trans h.backlight
  port := k.port.trans h.port
  pending := k.pending.trans h.pending
  grid := k.grid.trans h.grid
  interval := k.interval.trans h.interval
  nextTick := k.nextTick.trans h.nextTick
  panes i := (h.panes i).trans (k.panes i)
  quietPanes i hi := by
    have e := h.quietPanes i hi
    rw [k.quietPanes i (by rw [e]; exact hi), e]
  watches i := (h.watches i).trans (k.watches i)
  quiet i hi := by
    have e := h.quiet i hi
    rw [k.quiet i (by rw [e]; exact hi), e]
  podFault := k.podFault.trans h.podFault
  podChange := k.podChange.trans h.podChange
  panelLost := k.panelLost.trans h.panelLost
  storeFull := k.storeFull.trans h.storeFull
  cellsFull := k.cellsFull.trans h.cellsFull
  attention := k.attention.trans h.attention
  level := k.level.trans h.level
  hold := k.hold.trans h.hold

theorem UpToReports.of_eq {s t : State} (h : t = s) : UpToReports s t := h ▸ UpToReports.refl s

/-! ### Agreement is kept by equal updates -/

theorem UpToReports.withClock {s t : State} (h : UpToReports s t) (x : Clock) :
    UpToReports { s with clock := x } { t with clock := x } := { h with clock := rfl }

theorem UpToReports.withPins {s t : State} (h : UpToReports s t) (x : Pins) :
    UpToReports { s with pins := x } { t with pins := x } := { h with pins := rfl }

theorem UpToReports.withPods {s t : State} (h : UpToReports s t) (x : Vector Pod 4) :
    UpToReports { s with pods := x } { t with pods := x } := { h with pods := rfl }

theorem UpToReports.withChannels {s t : State} (h : UpToReports s t) (x : Vector Channel 32) :
    UpToReports { s with channels := x } { t with channels := x } := { h with channels := rfl }

theorem UpToReports.withDecoders {s t : State} (h : UpToReports s t) (x : Vector Decoder 6) :
    UpToReports { s with decoders := x } { t with decoders := x } := { h with decoders := rfl }

theorem UpToReports.withStore {s t : State} (h : UpToReports s t) (x : Store) :
    UpToReports { s with store := x } { t with store := x } := { h with store := rfl }

theorem UpToReports.withMeters {s t : State} (h : UpToReports s t) (x : Vector Meter 8) :
    UpToReports { s with meters := x } { t with meters := x } := { h with meters := rfl }

theorem UpToReports.withPort {s t : State} (h : UpToReports s t) (x : Port) :
    UpToReports { s with port := x } { t with port := x } := { h with port := rfl }

theorem UpToReports.withPanel {s t : State} (h : UpToReports s t) (x : Panel) :
    UpToReports { s with panel := x } { t with panel := x } := { h with panel := rfl }

theorem UpToReports.answered {s t : State} (h : UpToReports s t) (st : Status) (p : List Byte) :
    UpToReports (s.answered st p) (t.answered st p) := by
  have e : (t.answered st p).port = (s.answered st p).port := by simp only [State.answered, h.port]
  exact { h with port := e }

theorem UpToReports.ok {s t : State} (h : UpToReports s t) : UpToReports s.ok t.ok := h.answered .ok []

/-! ### The derivation -/

@[simp] theorem WatchUnit.derived_watches (u : WatchUnit) : u.derived.watches = u.watches := rfl
@[simp] theorem WatchUnit.derived_podFault (u : WatchUnit) : u.derived.podFault = u.podFault := rfl
@[simp] theorem WatchUnit.derived_podChange (u : WatchUnit) : u.derived.podChange = u.podChange := rfl

theorem WatchUnit.derived_derived (u : WatchUnit) : u.derived.Derived := ⟨rfl, rfl, rfl, rfl⟩

@[simp] theorem State.derive_watch (s : State) : s.derive.watch = s.watch.derived := by
  unfold State.derive
  dsimp only
  split <;> rfl

theorem State.derive_derived (s : State) : s.derive.watch.Derived := by
  rw [State.derive_watch]
  exact s.watch.derived_derived

/-! ### Marking and highlighting panes -/

theorem Pane.report_same (c : PaneSubject → Bool) (p : Pane) : p.SameSetting (p.report c) := by
  unfold Pane.report
  split <;> exact ⟨rfl, rfl, rfl, rfl, rfl⟩

theorem Pane.report_quiet (c : PaneSubject → Bool) (p : Pane) (h : p.state ≠ .live) : p.report c = p := by
  unfold Pane.report
  rw [if_neg (fun e => h e.1)]

theorem WatchUnit.rehighlight_same (u : WatchUnit) (p : Pane) : p.SameSetting (u.rehighlight p) := by
  unfold WatchUnit.rehighlight
  split <;> exact ⟨rfl, rfl, rfl, rfl, rfl⟩

theorem WatchUnit.rehighlight_quiet (u : WatchUnit) (p : Pane) (h : p.state ≠ .live) : u.rehighlight p = p := by
  unfold WatchUnit.rehighlight
  rw [if_neg (fun e => h e.1)]

theorem UpToReports.of_panes (s : State) (ps : Vector Pane 16) (h : ∀ i : Fin 16, s.display.panes[i].SameSetting ps[i])
    (k : ∀ i : Fin 16, s.display.panes[i].state ≠ .live → ps[i] = s.display.panes[i]) : UpToReports s (s.withPanes ps) :=
  { UpToReports.refl s with panes := h, quietPanes := k }

theorem State.markPanes_upTo (c : PaneSubject → Bool) (s : State) : UpToReports s (s.markPanes c) := by
  refine UpToReports.of_panes s _ (fun i => ?_) (fun i hi => ?_)
  · rw [tab_get]
    exact Pane.report_same c _
  · rw [tab_get]
    exact Pane.report_quiet c _ hi

theorem State.deriveHighlights_upTo (s : State) : UpToReports s s.deriveHighlights := by
  refine UpToReports.of_panes s _ (fun i => ?_) (fun i hi => ?_)
  · rw [tab_get]
    exact s.watch.rehighlight_same _
  · rw [tab_get]
    exact s.watch.rehighlight_quiet _ hi

theorem UpToReports.of_derived (s : State) : UpToReports s { s with watch := s.watch.derived } :=
  { UpToReports.refl s with
    watches := fun _ => Watch.SameSetting.refl _
    quiet := fun _ _ => rfl }

/-- A derivation is a report. -/
theorem State.derive_upTo (s : State) : UpToReports s s.derive := by
  have h := UpToReports.of_derived s
  unfold State.derive
  dsimp only
  split
  · exact h.trans (State.markPanes_upTo _ _)
  · exact h

/-! ### The watch table -/

theorem State.watchReport_upTo (c : Fin 32 → Bool) (s : State) : UpToReports s (s.watchReport c) := by
  unfold State.watchReport
  split
  · exact (State.markPanes_upTo _ _).trans (State.deriveHighlights_upTo _)
  · exact UpToReports.refl s

@[simp] theorem State.watchReport_watch (c : Fin 32 → Bool) (s : State) : (s.watchReport c).watch = s.watch := by
  unfold State.watchReport
  split <;> rfl

/-- The watch table is replaced; all else is a report. -/
theorem State.setWatches_upTo (ws : Vector Watch 32) (s : State) :
    UpToReports { s with watch := { s.watch with watches := ws } } (s.setWatches ws) :=
  (State.watchReport_upTo _ _).trans (State.derive_upTo _)

theorem State.setWatches_watch (ws : Vector Watch 32) (s : State) :
    (s.setWatches ws).watch = ({ s.watch with watches := ws } : WatchUnit).derived := by
  unfold State.setWatches
  rw [State.derive_watch, State.watchReport_watch]

@[simp] theorem State.setWatches_watches (ws : Vector Watch 32) (s : State) : (s.setWatches ws).watch.watches = ws := by
  rw [State.setWatches_watch]
  rfl

theorem State.setWatches_derived (ws : Vector Watch 32) (s : State) : (s.setWatches ws).watch.Derived := by
  rw [State.setWatches_watch]
  exact WatchUnit.derived_derived _

/-! ### Evaluation -/

theorem Watch.trip_same (ms : Word) (w : Watch) : w.SameSetting (w.trip ms) := ⟨rfl, rfl, rfl, rfl, rfl⟩

theorem Watch.moveLevel_same (ms : Word) (now : Sample) (w : Watch) : w.SameSetting (w.moveLevel ms now) := by
  unfold Watch.moveLevel
  split <;> exact ⟨rfl, rfl, rfl, rfl, rfl⟩

theorem Watch.moveChange_same (ms : Word) (now : Sample) (w : Watch) : w.SameSetting (w.moveChange ms now) := by
  unfold Watch.moveChange
  split
  · split <;> exact ⟨rfl, rfl, rfl, rfl, rfl⟩
  · exact Watch.SameSetting.refl w

theorem Watch.evaluate_same (ms : Word) (now : Sample) (w : Watch) : w.SameSetting (w.evaluate ms now) := by
  unfold Watch.evaluate
  split
  · exact (w.moveChange_same ms now).trans ⟨rfl, rfl, rfl, rfl, rfl⟩
  · exact (w.moveLevel_same ms now).trans ⟨rfl, rfl, rfl, rfl, rfl⟩

/-- A TRIPPED watch stays TRIPPED through an evaluation (R131, R132). -/
theorem Watch.evaluate_tripped (ms : Word) (now : Sample) (w : Watch) (h : w.state = .tripped) :
    (w.evaluate ms now).state = .tripped := by
  unfold Watch.evaluate
  dsimp only
  split
  · unfold Watch.moveChange
    rw [h]
    split
    · rfl
    · exact h
  · unfold Watch.moveLevel
    rw [h]
    exact h

/-- An active watch stays active through an evaluation (R131, R132). -/
theorem Watch.evaluate_active (ms : Word) (now : Sample) (w : Watch) :
    (w.evaluate ms now).state.active = w.state.active := by
  unfold Watch.evaluate
  dsimp only
  split
  · unfold Watch.moveChange
    split
    · split <;> rename_i h <;> simp only [Watch.trip, h, WatchState.active]
    · rfl
  · unfold Watch.moveLevel
    split <;> rename_i h _ <;> simp only [Watch.trip, h, WatchState.active]

/-- The watches after the evaluation of a report. -/
theorem State.evaluate_get (c : Subject → Bool) (s : State) (i : Fin 32) :
    (s.evaluate c).watch.watches[i] =
      if s.watch.watches[i].state.active && c s.watch.watches[i].subject then
        s.watch.watches[i].evaluate s.clock.ms (s.subjectSample s.watch.watches[i].subject)
      else s.watch.watches[i] := by
  unfold State.evaluate
  rw [State.setWatches_watches, tab_get]

/-- The evaluation of a report is a report. -/
theorem State.evaluate_upTo (c : Subject → Bool) (s : State) : UpToReports s (s.evaluate c) := by
  refine UpToReports.trans (t := { s with watch := { s.watch with watches := _ } }) ?_ (State.setWatches_upTo _ s)
  refine { UpToReports.refl s with watches := fun i => ?_, quiet := fun i hi => ?_ }
  · dsimp only
    rw [tab_get]
    split
    · exact Watch.evaluate_same _ _ _
    · exact Watch.SameSetting.refl _
  · dsimp only
    rw [tab_get]
    simp only [hi, Bool.false_and]
    rfl

theorem State.evaluate_derived (c : Subject → Bool) (s : State) : (s.evaluate c).watch.Derived :=
  State.setWatches_derived _ _

/-! ### The freeze through a report (R148) -/

theorem WatchUnit.freezeOf_iff (u : WatchUnit) : u.freezeOf = true ↔ u.hold = true ∨ u.podFault ≠ 0 ∨
    ∃ i : Fin 32, u.watches[i].isCause u.freezeLevel = true := by
  unfold WatchUnit.freezeOf
  simp only [Bool.or_eq_true, bne_iff_ne, ne_eq, or_assoc]
  refine or_congr Iff.rfl (or_congr Iff.rfl ?_)
  rw [← ne_eq, mask_ne_zero]
  unfold WatchUnit.causeOf
  simp only [maskOf_getLsbD]

theorem Watch.evaluate_isCause (ms : Word) (now : Sample) (l : Byte) (w : Watch) (h : w.isCause l = true) :
    (w.evaluate ms now).isCause l = true := by
  have k := w.evaluate_same ms now
  unfold Watch.isCause at h ⊢
  simp only [Bool.and_eq_true, beq_iff_eq, decide_eq_true_eq] at h ⊢
  exact ⟨⟨w.evaluate_tripped ms now h.1.1, k.freezes.trans h.1.2⟩, k.level ▸ h.2⟩

/-- A report does not end a freeze. -/
theorem State.evaluate_freeze (c : Subject → Bool) (s : State) (hd : s.watch.Derived) (hf : s.watch.freeze = true) :
    (s.evaluate c).watch.freeze = true := by
  have u := s.evaluate_upTo c
  rw [(s.evaluate_derived c).freeze, WatchUnit.freezeOf_iff, u.hold, u.podFault, u.level]
  rw [hd.freeze, WatchUnit.freezeOf_iff] at hf
  rcases hf with h | h | ⟨i, hi⟩
  · exact Or.inl h
  · exact Or.inr (Or.inl h)
  · refine Or.inr (Or.inr ⟨i, ?_⟩)
    rw [State.evaluate_get]
    split
    · exact Watch.evaluate_isCause _ _ _ _ hi
    · exact hi

/-! ### Writing an owner's record -/

/-- A decoder is written; all else is a report. -/
theorem State.putDecoder_upTo (d : Fin 6) (new : Decoder) (s : State) :
    UpToReports { s with decoders := s.decoders.set d new } (s.putDecoder d new) := by
  unfold State.putDecoder
  dsimp only
  by_cases h1 : s.decoders[d].aborted ≠ new.aborted ∨ s.decoders[d].unknown ≠ new.unknown
  · rw [if_pos h1]
    split
    · exact (State.evaluate_upTo _ _).trans (State.markPanes_upTo _ _)
    · exact State.evaluate_upTo _ _
  · rw [if_neg h1]
    split
    · exact State.markPanes_upTo _ _
    · exact UpToReports.refl _

/-- A decoder whose reported fields keep their values is written with no report. -/
theorem State.putDecoder_silent (d : Fin 6) (new : Decoder) (s : State) (h1 : new.state = s.decoders[d].state)
    (h2 : new.applied = s.decoders[d].applied) (h3 : new.aborted = s.decoders[d].aborted)
    (h4 : new.unknown = s.decoders[d].unknown) : s.putDecoder d new = { s with decoders := s.decoders.set d new } := by
  unfold State.putDecoder
  dsimp only
  rw [h1, h2, h3, h4]
  simp only [ne_eq, not_true_eq_false, or_self, if_false]

/-- A meter is written; all else is a report. -/
theorem State.putMeter_upTo (m : Fin 8) (new : Meter) (s : State) :
    UpToReports { s with meters := s.meters.set m new } (s.putMeter m new) := by
  unfold State.putMeter
  dsimp only
  split
  · exact UpToReports.refl _
  · exact (State.evaluate_upTo _ _).trans (State.markPanes_upTo _ _)

/-- A meter whose record keeps its value is written with no report. -/
theorem State.putMeter_silent (m : Fin 8) (new : Meter) (s : State) (h : new.record = s.meters[m].record) :
    s.putMeter m new = { s with meters := s.meters.set m new } := by
  unfold State.putMeter
  dsimp only
  rw [if_pos]
  unfold MeterRecord.reportedSame
  rw [h]
  simp

theorem State.setMeterState_eq (m : Fin 8) (st : MeterState) (s : State) :
    s.setMeterState m st = { s with meters := s.meters.set m { s.meters[m] with state := st } } :=
  State.putMeter_silent m _ s rfl

theorem State.putDecoder_keeps (P : WatchUnit → Prop) (d : Fin 6) (new : Decoder) (s : State) (h : P s.watch)
    (he : ∀ (c : Subject → Bool) (t : State), t.watch = s.watch → P (t.evaluate c).watch) : P (s.putDecoder d new).watch := by
  unfold State.putDecoder
  dsimp only
  by_cases h1 : s.decoders[d].aborted ≠ new.aborted ∨ s.decoders[d].unknown ≠ new.unknown
  · rw [if_pos h1]
    split
    · rw [State.markPanes_watch]
      exact he _ _ rfl
    · exact he _ _ rfl
  · rw [if_neg h1]
    split
    · rw [State.markPanes_watch]
      exact h
    · exact h

theorem State.putMeter_keeps (P : WatchUnit → Prop) (m : Fin 8) (new : Meter) (s : State) (h : P s.watch)
    (he : ∀ (c : Subject → Bool) (t : State), t.watch = s.watch → P (t.evaluate c).watch) : P (s.putMeter m new).watch := by
  unfold State.putMeter
  dsimp only
  split
  · exact h
  · rw [State.markPanes_watch]
    exact he _ _ rfl

theorem State.putDecoder_derived (d : Fin 6) (new : Decoder) (s : State) (h : s.watch.Derived) :
    (s.putDecoder d new).watch.Derived :=
  State.putDecoder_keeps WatchUnit.Derived d new s h fun c t _ => t.evaluate_derived c

theorem State.putMeter_derived (m : Fin 8) (new : Meter) (s : State) (h : s.watch.Derived) :
    (s.putMeter m new).watch.Derived :=
  State.putMeter_keeps WatchUnit.Derived m new s h fun c t _ => t.evaluate_derived c

theorem State.putDecoder_freeze (d : Fin 6) (new : Decoder) (s : State) (h : s.watch.Derived) (hf : s.watch.freeze = true) :
    (s.putDecoder d new).watch.freeze = true :=
  State.putDecoder_keeps (fun u => u.freeze = true) d new s hf fun c t e =>
    t.evaluate_freeze c (by rw [e]; exact h) (by rw [e]; exact hf)

theorem State.putMeter_freeze (m : Fin 8) (new : Meter) (s : State) (h : s.watch.Derived) (hf : s.watch.freeze = true) :
    (s.putMeter m new).watch.freeze = true :=
  State.putMeter_keeps (fun u => u.freeze = true) m new s hf fun c t e =>
    t.evaluate_freeze c (by rw [e]; exact h) (by rw [e]; exact hf)

theorem UpToReports.withPodFault {s t : State} (h : UpToReports s t) (x : BitVec 4) :
    UpToReports { s with watch := { s.watch with podFault := x } } { t with watch := { t.watch with podFault := x } } :=
  { h with podFault := rfl }

/-- A report of a fault mark sets the mask's bit; all else is a report. -/
theorem State.faultReport_upTo (p : Fin 4) (mark : Bool) {s t : State} (h : UpToReports s t) :
    UpToReports { s with watch := { s.watch with
      podFault := maskOf fun i => if i = p then mark else s.watch.podFault.getLsbD i } } (t.faultReport p mark) := by
  unfold State.faultReport
  rw [h.podFault]
  exact (h.withPodFault _).trans (State.derive_upTo _)

/-- A pod is written, its mark copied into the POD_FAULT mask; all else is a report. -/
theorem State.putPod_upTo (p : Fin 4) (new : Pod) (s : State) (h : s.watch.podFault.getLsbD p = s.pods[p].faultMark) :
    UpToReports (s.withPod p new) (s.putPod p new) := by
  unfold State.putPod
  dsimp only
  split
  · unfold State.podReport
    dsimp only
    rw [vset_same]
    exact State.faultReport_upTo (s := { s with pods := s.pods.set p new }) p new.faultMark
      ((State.evaluate_upTo _ _).trans (State.markPanes_upTo _ _))
  · rename_i hs
    simp only [not_or, ne_eq, not_not] at hs
    refine UpToReports.trans (t := { s with pods := s.pods.set p new }) ?_ (UpToReports.refl _)
    refine { UpToReports.refl _ with podFault := ?_, watches := fun i => Watch.SameSetting.refl _, quiet := fun i _ => rfl }
    simp only [State.withPod]
    apply mask_ext
    intro q
    rw [maskOf_getLsbD]
    by_cases hq : q = p
    · subst hq
      rw [if_pos rfl, h, hs.2.2]
    · rw [if_neg hq]

end Sys2Proof.Machine
end

