-- ==== Sys2Proof/Laws/Moves.lean ====
section
/-! SUPPORT. What an event at a decoder or a meter is made of, said once: a relation that the few primitive updates keep is kept by every edge, expiry, end and pod event. -/

namespace Sys2Proof.Machine

/-! ### Meters -/

/-- A relation between states that meter `m`'s writes keep. -/
structure MeterClosed (m : Fin 8) (R : State → State → Prop) : Prop where
  refl  : ∀ s, R s s
  trans : ∀ s t u, R s t → R t u → R s u
  put   : ∀ new s, R s (s.putMeter m new)

namespace MeterClosed

variable {m : Fin 8} {R : State → State → Prop} (h : MeterClosed m R)
include h

theorem result (o : MeterOutcome) (next : MeterState) (s : State) : R s (s.meterResult m o next) := h.put _ _

theorem disturb (s : State) : R s (s.disturb m) := h.put _ _

theorem setState (st : MeterState) (s : State) : R s (s.setMeterState m st) := h.put _ _

theorem armedEdge (ch : Fin 32) (rising : Bool) (stamp : Nat) (held : Option Nat) (s : State) :
    R s (s.armedEdge m ch rising stamp held) := by
  unfold State.armedEdge
  dsimp only
  split
  all_goals first
    | exact h.refl s
    | (split
       · exact h.setState _ s
       · exact h.refl s)

theorem timingEdge (ch : Fin 32) (rising : Bool) (stamp start : Nat) (s : State) :
    R s (s.timingEdge m ch rising stamp start) := by
  unfold State.timingEdge
  dsimp only
  split
  · exact h.refl s
  · split
    all_goals first
      | exact h.refl s
      | (split
         · exact h.result _ _ s
         · exact h.refl s)

theorem countingEdge (ch : Fin 32) (rising : Bool) (stamp openAt edges : Nat) (held : Option Nat) (s : State) :
    R s (s.countingEdge m ch rising stamp openAt edges held) := by
  unfold State.countingEdge
  dsimp only
  split
  · split
    · exact h.setState _ s
    · split
      · exact h.setState _ s
      · exact h.refl s
  · exact h.refl s

theorem overrangeFirst (stamp : Nat) (s : State) : R s (s.overrangeFirst m stamp) := by
  unfold State.overrangeFirst
  split
  · split
    · exact h.result _ _ s
    · exact h.refl s
  · exact h.refl s

theorem takeEdge (ch : Fin 32) (rising : Bool) (stamp : Nat) (s : State) : R s (s.takeEdge m ch rising stamp) := by
  unfold State.takeEdge
  split
  · exact h.refl s
  · exact h.refl s
  · exact h.armedEdge _ _ _ _ s
  · exact h.timingEdge _ _ _ _ s
  · exact h.countingEdge _ _ _ _ _ _ s

theorem meterEdge (ch : Fin 32) (rising : Bool) (stamp : Nat) (s : State) : R s (s.meterEdge m ch rising stamp) := by
  unfold State.meterEdge
  split
  · exact h.trans _ _ _ (h.overrangeFirst _ s) (h.takeEdge _ _ _ _)
  · exact h.refl s

theorem takeStart (stamp : Nat) (s : State) : R s (s.takeStart m stamp) := by
  unfold State.takeStart
  split
  · split
    · exact h.setState _ s
    · exact h.refl s
  · exact h.refl s

theorem meterEdges (channels : List (Fin 32)) (stamp : Nat) (s : State) : R s (s.meterEdges channels stamp m) := by
  unfold State.meterEdges
  induction channels generalizing s with
  | nil => exact h.refl s
  | cons c cs ih => exact h.trans _ _ _ (h.meterEdge _ _ _ s) (ih _)

theorem meterCleanEnd (d : Fin 6) (a : Byte) (stamp : Nat) (s : State) : R s (s.meterCleanEnd d a stamp m) := by
  unfold State.meterCleanEnd
  split
  · exact h.trans _ _ _ (h.overrangeFirst _ s) (h.takeStart _ _)
  · exact h.refl s

theorem followerOpen (g : Fin 8) (stamp : Nat) (s : State) : R s (s.followerOpen g stamp m) := by
  unfold State.followerOpen
  split
  · split
    · split
      · exact h.setState _ s
      · exact h.setState _ s
    · exact h.refl s
  · exact h.refl s

theorem followerEnd (g : Fin 8) (stamp : Nat) (reopens : Bool) (s : State) : R s (s.followerEnd g stamp reopens m) := by
  unfold State.followerEnd
  split
  · split
    · exact h.result _ _ s
    · split
      · exact h.followerOpen _ _ s
      · exact h.refl s
    · exact h.refl s
  · exact h.refl s

theorem followerStop (g : Fin 8) (s : State) : R s (s.followerStop g m) := by
  unfold State.followerStop
  split
  · split
    · exact h.disturb s
    · exact h.refl s
  · exact h.refl s

theorem meterPodDown (p : Fin 4) (s : State) : R s (s.meterPodDown p m) := by
  unfold State.meterPodDown
  dsimp only
  split
  · split
    · exact h.disturb s
    · exact h.refl s
  · split
    · exact h.disturb s
    · exact h.refl s
  · exact h.refl s

end MeterClosed

/-- A fold over meters keeps what every meter's update keeps. -/
theorem fold_closed {α : Type} {R : State → State → Prop} (hr : ∀ s, R s s) (ht : ∀ s t u, R s t → R t u → R s u)
    (f : State → α → State) (hf : ∀ s a, R s (f s a)) (l : List α) (s : State) : R s (l.foldl f s) := by
  induction l generalizing s with
  | nil => exact hr s
  | cons a l ih => exact ht _ _ _ (hf s a) (ih _)

/-! ### Decoders -/

/-- A relation between states that decoder `d`'s writes, its hand-overs to the store and its clean-end events keep. -/
structure DecoderClosed (d : Fin 6) (R : State → State → Prop) : Prop where
  refl  : ∀ s, R s s
  trans : ∀ s t u, R s t → R t u → R s u
  put   : ∀ new s, R s (s.putDecoder d new)
  apply : ∀ a s, R s (s.apply a).1
  error : ∀ a reason s, R s (s.errorReport d a reason)
  event : ∀ a stamp s, R s (s.cleanEndEvent d a stamp)

namespace DecoderClosed

variable {d : Fin 6} {R : State → State → Prop} (h : DecoderClosed d R)
include h

theorem setStaging (st : Staging) (s : State) : R s (s.setStaging d st) := h.put _ _

theorem begin (st : Staging) (s : State) : R s (s.begin d st) := h.put _ _

theorem discard (next : DecState) (st : Option Staging) (s : State) : R s (s.discard d next st) := h.put _ _

theorem cleanEnd (stamp : Nat) (next : DecState) (st : Option Staging) (s : State) : R s (s.cleanEnd d stamp next st) := by
  unfold State.cleanEnd
  dsimp only
  split
  · exact h.discard _ _ s
  · split
    · exact h.trans _ _ _ (h.trans _ _ _ (h.apply _ s) (h.put _ _)) (h.event _ _ _)
    · exact h.discard _ _ s

theorem abortReport (reason : AbortReason) (st : Option Staging) (s : State) : R s (s.abortReport d reason st) := by
  unfold State.abortReport
  split
  · exact h.refl s
  · split
    · exact h.refl s
    · split
      · exact h.error _ _ s
      · exact h.refl s

theorem abortTo (reason : AbortReason) (f : Decoder → Decoder) (s : State) : R s (s.abortTo d reason f) :=
  h.trans _ _ _ (h.put _ _) (h.abortReport _ _ _)

theorem abort (reason : AbortReason) (next : DecState) (st : Option Staging) (s : State) : R s (s.abort d reason next st) :=
  h.abortTo _ _ _

theorem abortToSyncing (reason : AbortReason) (stamp : Nat) (s : State) : R s (s.abortToSyncing d reason stamp) :=
  h.abortTo _ _ _

theorem twoWireClock (bit : Bool) (st : Staging) (s : State) : R s (s.twoWireClock d bit st) := by
  unfold State.twoWireClock
  dsimp only
  generalize (if 9 ≤ st.slot then 1 else st.slot + 1) = slot
  split
  · exact h.setStaging _ s
  · split
    · split
      · exact h.abort _ _ _ s
      · exact h.setStaging _ s
    · exact h.setStaging _ s

theorem twoWireCondition (stop : Bool) (stamp : Nat) (st : Staging) (s : State) :
    R s (s.twoWireCondition d stop stamp st) := by
  unfold State.twoWireCondition
  dsimp only
  split
  · split
    · exact h.cleanEnd _ _ _ s
    · exact h.discard _ _ s
  · exact h.abort _ _ _ s

theorem twoWireEdge (r : Role) (level : Bool) (stamp : Nat) (s : State) : R s (s.twoWireEdge d r level stamp) := by
  unfold State.twoWireEdge
  dsimp only
  split
  · split
    · exact h.put _ s
    · exact h.put _ s
  · split
    · exact h.begin _ s
    · exact h.refl s
  · split
    · exact h.refl s
    · split
      · exact h.twoWireCondition _ _ _ s
      · split
        · exact h.twoWireClock _ _ s
        · exact h.refl s
  · exact h.refl s
  · exact h.refl s

theorem frameEnd (stamp : Nat) (st : Staging) (s : State) : R s (s.frameEnd d stamp st) := by
  have k : R s (if st.bits.isEmpty then s else s.putDecoder d { s.decoders[d] with ragged := satInc s.decoders[d].ragged }) := by
    split
    · exact h.refl s
    · exact h.put _ s
  unfold State.frameEnd
  dsimp only
  split
  · exact h.trans _ _ _ k (h.cleanEnd _ _ _ _)
  · exact h.trans _ _ _ k (h.discard _ _ _)

theorem selectInBusy (k : Fin 4) (active : Bool) (stamp : Nat) (st : Staging) (s : State) :
    R s (s.selectInBusy d k active stamp st) := by
  unfold State.selectInBusy
  split
  · split
    · exact h.refl s
    · exact h.frameEnd _ _ s
  · split
    · exact h.abortToSyncing _ _ s
    · exact h.refl s

theorem clockedEdge (p : ClockedParams) (r : Role) (level : Bool) (stamp : Nat) (s : State) :
    R s (s.clockedEdge d p r level stamp) := by
  unfold State.clockedEdge
  dsimp only
  split
  · split
    · split
      · exact h.put _ s
      · exact h.refl s
    · split
      · exact h.begin _ s
      · exact h.refl s
    · split
      · exact h.refl s
      · exact h.selectInBusy _ _ _ _ s
    · exact h.refl s
    · exact h.refl s
  · split
    · split
      · exact h.setStaging _ s
      · exact h.refl s
    · exact h.refl s

theorem setGap (p : AsyncParams) (start : Nat) (s : State) : R s (s.setGap d p start) := h.put _ _

theorem asyncStart (p : AsyncParams) (stamp : Nat) (s : State) : R s (s.asyncStart d p stamp) := h.put _ _

theorem gapEnd (stamp : Nat) (s : State) : R s (s.gapEnd d stamp) := h.cleanEnd _ _ _ s

theorem goodCharacter (p : AsyncParams) (start : Nat) (st : Staging) (s : State) : R s (s.goodCharacter d p start st) := by
  unfold State.goodCharacter
  dsimp only
  split
  · split
    · exact h.trans _ _ _ (h.setStaging _ s) (h.setGap _ _ _)
    · exact h.trans _ _ _ (h.cleanEnd _ _ _ s) (h.setGap _ _ _)
  · split
    · exact h.trans _ _ _ (h.setStaging _ s) (h.setGap _ _ _)
    · exact h.put _ s

theorem judge (p : AsyncParams) (start : Nat) (st : Staging) (s : State) : R s (s.judge d p start st) := by
  unfold State.judge
  split
  · exact h.abort _ _ _ s
  · split
    · exact h.abort _ _ _ s
    · exact h.goodCharacter _ _ _ s

theorem asyncReceiving (p : AsyncParams) (high : Bool) (st : Staging) (rc : Receiver) (s : State) :
    R s (s.asyncReceiving d p high st rc) := by
  unfold State.asyncReceiving
  split
  · exact h.judge _ _ _ s
  · exact h.setStaging _ s

theorem asyncNextCharacter (p : AsyncParams) (stamp : Nat) (st : Staging) (s : State) :
    R s (s.asyncNextCharacter d p stamp st) := by
  unfold State.asyncNextCharacter
  split
  · split
    · exact h.trans _ _ _ (h.gapEnd _ s) (h.asyncStart _ _ _)
    · exact h.put _ s
  · exact h.put _ s

theorem asyncEdge (p : AsyncParams) (stamp : Nat) (s : State) : R s (s.asyncEdge d p stamp) := by
  unfold State.asyncEdge
  dsimp only
  split
  · exact h.put _ s
  · split
    · exact h.refl s
    · exact h.asyncStart _ _ s
  · split
    · exact h.refl s
    · split
      · exact h.asyncReceiving _ _ _ _ s
      · split
        · exact h.refl s
        · exact h.asyncNextCharacter _ _ _ s
  · exact h.refl s
  · exact h.refl s

theorem profileEdge (e : Role × Bool) (stamp : Nat) (ps : Params) (s t : State) (k : R s t) : R s (match ps with
    | .none => s
    | .twoWire => t.twoWireEdge d e.1 e.2 stamp
    | .clocked p => t.clockedEdge d p e.1 e.2 stamp
    | .async p => t.asyncEdge d p stamp) := by
  cases ps with
  | none => exact h.refl s
  | twoWire => exact h.trans _ _ _ k (h.twoWireEdge _ _ _ t)
  | clocked p => exact h.trans _ _ _ k (h.clockedEdge _ _ _ _ t)
  | async p => exact h.trans _ _ _ k (h.asyncEdge _ _ t)

theorem roleEdge (stamp : Nat) (s : State) (e : Role × Bool) : R s (s.roleEdge d stamp e) := by
  have k : R s (if s.decoders[d].level e.1 = e.2 then s else
      match s.decoders[d].params with
      | .none => s
      | .twoWire => (s.putDecoder d (s.decoders[d].withLevel e.1 e.2)).twoWireEdge d e.1 e.2 stamp
      | .clocked p => (s.putDecoder d (s.decoders[d].withLevel e.1 e.2)).clockedEdge d p e.1 e.2 stamp
      | .async p => (s.putDecoder d (s.decoders[d].withLevel e.1 e.2)).asyncEdge d p stamp) := by
    split
    · exact h.refl s
    · exact h.profileEdge e stamp _ s _ (h.put _ s)
  unfold State.roleEdge
  dsimp only
  cases s.decoders[d].state
  · exact h.refl s
  · exact h.refl s
  · exact k
  · exact k
  · exact k

theorem decoderEdges (channels : List (Fin 32)) (stamp : Nat) (s : State) : R s (s.decoderEdges channels stamp d) :=
  fold_closed h.refl h.trans _ (h.roleEdge stamp) _ s

theorem decoderPodDown (p : Fin 4) (cause : DownCause) (s : State) : R s (s.decoderPodDown p cause d) := by
  unfold State.decoderPodDown
  dsimp only
  split
  · split
    · exact h.abort _ _ _ s
    · exact h.put _ s
    · exact h.put _ s
    · exact h.refl s
    · exact h.refl s
  · exact h.refl s

theorem syncDecoder (s : State) : R s (s.syncDecoder d) := h.put _ s

theorem decoderPodUp (p : Fin 4) (s : State) : R s (s.decoderPodUp p d) := by
  unfold State.decoderPodUp
  dsimp only
  split
  · exact h.syncDecoder s
  · exact h.refl s

/-! Expiries: with time as well. -/

theorem atExpiry (ha : ∀ t s, R s (s.advance t)) (t : Nat) (levels : List (Role × Bool)) (s : State) :
    R s (s.atExpiry d t levels) :=
  h.trans _ _ _ (ha t s) (levels.foldlRecOn _ (motive := fun u => R (s.advance t) u) (h.refl _)
    fun u hu e _ => h.trans _ _ _ hu (h.roleEdge t u e))

theorem idleAt (t : Nat) (s : State) : R s (s.idleAt d t) := by
  unfold State.idleAt
  split
  · exact h.put _ s
  · exact h.refl s

theorem takeSample (s : State) : R s (s.takeSample d) := by
  unfold State.takeSample
  dsimp only
  split
  · exact h.refl s
  · exact h.put _ s

theorem lastSample (s : State) : R s (s.lastSample d) := by
  unfold State.lastSample
  dsimp only
  split
  · exact h.refl s
  · split
    · exact h.trans _ _ _ (h.put _ s) (h.judge _ _ _ _)
    · exact h.put _ s

theorem breakTest (t : Nat) (s : State) : R s (s.breakTest d t) := by
  unfold State.breakTest
  dsimp only
  split
  · exact h.refl s
  · split
    · exact h.refl s
    · exact h.abortToSyncing _ _ s

end DecoderClosed

/-! ### All takers -/

/-- The delivery of the edges of one sample keeps what every decoder's and meter's moves keep. -/
theorem deliver_closed {R : State → State → Prop} (hd : ∀ d, DecoderClosed d R) (hm : ∀ m, MeterClosed m R)
    (channels : List (Fin 32)) (stamp : Nat) (order : List Taker) (s : State) : R s (s.deliver channels stamp order) := by
  refine fold_closed (hd 0).refl (hd 0).trans _ (fun s t => ?_) _ s
  cases t with
  | decoder d => exact (hd d).decoderEdges _ _ s
  | meter m => exact (hm m).meterEdges _ _ s

end Sys2Proof.Machine
end

