-- ==== Sys2Proof/Laws/Ends.lean ====
section
/-! SUPPORT. What the ends of transactions do, said once: error reports, applications and clean-end events agree with their plain updates up to reports. -/

namespace Sys2Proof.Machine

/-! ### Reports of the store -/

theorem State.markTarget_upTo (h : Handle) (s : State) : UpToReports s (s.markTarget h) := State.markPanes_upTo _ s

theorem State.targetReport_upTo (h : Handle) (regs : List Byte) (fields : List TargetField) (s : State) :
    UpToReports s (s.targetReport h regs fields) := (State.evaluate_upTo _ s).trans (State.markPanes_upTo _ _)

theorem UpToReports.withCellsFull {s t : State} (h : UpToReports s t) (x : Bool) :
    UpToReports { s with watch := { s.watch with cellsFull := x } } { t with watch := { t.watch with cellsFull := x } } :=
  { h with cellsFull := rfl }

theorem State.raiseCellsFull_upTo (s : State) :
    UpToReports { s with watch := { s.watch with cellsFull := true } } s.raiseCellsFull := State.derive_upTo _

theorem State.raiseStoreFull_upTo (s : State) :
    UpToReports { s with watch := { s.watch with storeFull := true } } s.raiseStoreFull := State.derive_upTo _

theorem State.raisePanelLost_upTo (s : State) :
    UpToReports { s with watch := { s.watch with panelLost := true } } s.raisePanelLost := State.derive_upTo _

theorem State.raisePodChange_upTo (p : Fin 4) (s : State) : UpToReports (s.withPodChange p) (s.raisePodChange p) :=
  State.derive_upTo _

/-! ### Error reports (R38) -/

theorem State.errorReport_store (d : Fin 6) (a : Byte) (reason : AbortReason) (s : State) :
    (s.errorReport d a reason).store = s.store.afterError s.watch.freeze d (some a) (reason == .unanswered) := by
  unfold State.errorReport Store.afterError
  dsimp only
  split
  · rfl
  · cases hf : s.store.find d a with
    | none => rfl
    | some i =>
      cases hr : s.store.slots[i].record with
      | none => simp only [hr]
      | some r =>
        have e : (r.countError reason).1 = if (reason == .unanswered) = true then
            { r with unanswered := satInc r.unanswered } else { r with errors := satInc r.errors } := by
          cases reason <;> rfl
        simp only [hr]
        rw [← e]
        split
        · rfl
        · rw [State.targetReport_store]

theorem State.errorReport_upTo (d : Fin 6) (a : Byte) (reason : AbortReason) (s : State) :
    UpToReports { s with store := s.store.afterError s.watch.freeze d (some a) (reason == .unanswered) }
      (s.errorReport d a reason) := by
  rw [← State.errorReport_store]
  unfold State.errorReport
  split
  · exact UpToReports.refl s
  · split
    · exact UpToReports.refl s
    · split
      · exact UpToReports.refl s
      · dsimp only
        split
        · exact UpToReports.refl _
        · rw [State.targetReport_store]
          exact State.targetReport_upTo _ _ _ _

/-! ### Applications (section 2.4) -/

theorem State.withhold_upTo (a : Application) (s : State) :
    UpToReports { s with store := (s.withhold a).store } (s.withhold a) := by
  unfold State.withhold
  split
  · exact UpToReports.refl s
  · split
    · exact UpToReports.refl s
    · dsimp only
      split
      · exact UpToReports.refl _
      · rw [State.markTarget_store]
        exact State.markTarget_upTo _ _

/-- The store after an application has updated the record in slot `i` (R32 to R36). -/
def Store.applied (st : Store) (a : Application) (ms : Word) (i : Fin 64) (r : Record) : Store :=
  { st.setRecord i (a.updated ms r (a.placing r st.free)) with free := (a.placing r st.free).free }

/-- The state with an application taken by the record in slot `i`, but for its reports. -/
def State.appliedTo (a : Application) (i : Fin 64) (r : Record) (s : State) : State :=
  { s with
    store := s.store.applied a s.clock.ms i r
    watch := { s.watch with cellsFull := s.watch.cellsFull || (a.placing r s.store.free).poolEmpty } }

theorem State.applyTo_upTo (a : Application) (i : Fin 64) (r : Record) (s : State) :
    UpToReports (s.appliedTo a i r) (s.applyTo a i r) := by
  unfold State.applyTo State.appliedTo Store.applied
  dsimp only
  refine UpToReports.trans ?_ (State.targetReport_upTo _ _ _ _)
  cases hp : (a.placing r s.store.free).poolEmpty
  · rw [Bool.or_false, if_neg (by simp)]
    exact UpToReports.refl _
  · rw [Bool.or_true, if_pos rfl]
    exact State.raiseCellsFull_upTo { s with store := { s.store.setRecord i _ with free := _ } }

theorem State.applyNew_upTo (a : Application) (i : Fin 64) (s : State) :
    UpToReports (State.appliedTo a i (Record.fresh a.decoder a.address false false s.clock.ms) s) (s.applyNew a i) := by
  have h := State.applyTo_upTo a i (Record.fresh a.decoder a.address false false s.clock.ms)
    { s with store := s.store.setRecord i (Record.fresh a.decoder a.address false false s.clock.ms) }
  have e : State.appliedTo a i (Record.fresh a.decoder a.address false false s.clock.ms)
      { s with store := s.store.setRecord i (Record.fresh a.decoder a.address false false s.clock.ms) } =
      State.appliedTo a i (Record.fresh a.decoder a.address false false s.clock.ms) s := by
    unfold State.appliedTo Store.applied Store.setRecord
    simp
  rw [e] at h
  exact h

/-- An application changes the store and the two notices of the store; all else is a report. -/
theorem State.apply_upTo (a : Application) (s : State) :
    UpToReports { s with
      store := (s.apply a).1.store
      watch := { s.watch with storeFull := (s.apply a).1.watch.storeFull, cellsFull := (s.apply a).1.watch.cellsFull } }
      (s.apply a).1 := by
  have key : ∀ t u : State, UpToReports t u → t.clock = s.clock → t.pins = s.pins → t.pods = s.pods →
      t.channels = s.channels → t.decoders = s.decoders → t.meters = s.meters → t.display = s.display → t.panel = s.panel →
      t.backlight = s.backlight → t.port = s.port → t.pending = s.pending →
      t.watch = { s.watch with storeFull := t.watch.storeFull, cellsFull := t.watch.cellsFull } →
      UpToReports { s with store := u.store, watch := { s.watch with storeFull := u.watch.storeFull, cellsFull := u.watch.cellsFull } } u := by
    intro t u h h1 h2 h3 h4 h5 h6 h7 h8 h9 h10 h11 h12
    have e : t = { s with store := u.store, watch := { s.watch with storeFull := u.watch.storeFull, cellsFull := u.watch.cellsFull } } := by
      rw [h.store, h.storeFull, h.cellsFull, ← h12, ← h1, ← h2, ← h3, ← h4, ← h5, ← h6, ← h7, ← h8, ← h9, ← h10, ← h11]
    rw [← e]
    exact h
  unfold State.apply
  split
  · exact key _ _ (State.withhold_upTo a s) rfl rfl rfl rfl rfl rfl rfl rfl rfl rfl rfl rfl
  · split
    · split
      · exact key _ _ (State.applyTo_upTo _ _ _ _) rfl rfl rfl rfl rfl rfl rfl rfl rfl rfl rfl rfl
      · exact key _ _ (UpToReports.refl _) rfl rfl rfl rfl rfl rfl rfl rfl rfl rfl rfl rfl
    · split
      · exact key _ _ (UpToReports.refl _) rfl rfl rfl rfl rfl rfl rfl rfl rfl rfl rfl rfl
      · split
        · exact key _ _ (State.applyNew_upTo _ _ _) rfl rfl rfl rfl rfl rfl rfl rfl rfl rfl rfl rfl
        · split
          · exact key _ _ (State.applyNew_upTo _ _ _) rfl rfl rfl rfl rfl rfl rfl rfl rfl rfl rfl rfl
          · exact key _ _ (State.raiseStoreFull_upTo _) rfl rfl rfl rfl rfl rfl rfl rfl rfl rfl rfl rfl

/-! ### Clean-end events -/

/-- A result changes nothing but the meters, up to reports. -/
theorem State.meterResult_upTo (m : Fin 8) (o : MeterOutcome) (next : MeterState) (s : State) :
    UpToReports { s with meters := (s.meterResult m o next).meters } (s.meterResult m o next) := by
  have h := State.putMeter_upTo m { s.meters[m] with
    record := s.meters[m].record.result s.watch.freeze o
    state := if s.meters[m].config.singleShot then .off else next } s
  have e : (s.meterResult m o next).meters = s.meters.set m { s.meters[m] with
    record := s.meters[m].record.result s.watch.freeze o
    state := if s.meters[m].config.singleShot then .off else next } := h.meters
  rw [e]
  exact h

/-- An agreement of all but the meters goes through one more such change. -/
theorem UpToReports.thenMeters {s t u : State} (h : UpToReports { s with meters := t.meters } t)
    (k : UpToReports { t with meters := u.meters } u) : UpToReports { s with meters := u.meters } u :=
  (h.withMeters u.meters).trans k

theorem State.overrangeFirst_upTo (m : Fin 8) (stamp : Nat) (s : State) :
    UpToReports { s with meters := (s.overrangeFirst m stamp).meters } (s.overrangeFirst m stamp) := by
  unfold State.overrangeFirst
  split
  · split
    · exact State.meterResult_upTo _ _ _ s
    · exact UpToReports.refl s
  · exact UpToReports.refl s

theorem State.takeStart_upTo (m : Fin 8) (stamp : Nat) (s : State) :
    UpToReports { s with meters := (s.takeStart m stamp).meters } (s.takeStart m stamp) := by
  unfold State.takeStart
  split
  · split
    · rw [State.setMeterState_eq]
      exact UpToReports.refl _
    · exact UpToReports.refl s
  · exact UpToReports.refl s

theorem State.meterCleanEnd_upTo (d : Fin 6) (a : Byte) (stamp : Nat) (s : State) (m : Fin 8) :
    UpToReports { s with meters := (s.meterCleanEnd d a stamp m).meters } (s.meterCleanEnd d a stamp m) := by
  unfold State.meterCleanEnd
  split
  · exact (State.overrangeFirst_upTo m stamp s).thenMeters (State.takeStart_upTo m stamp _)
  · exact UpToReports.refl s

/-- A clean-end event changes nothing but the meters, up to reports: the overrange that it comes after may be one. -/
theorem State.cleanEndEvent_upTo (d : Fin 6) (a : Byte) (stamp : Nat) (s : State) :
    UpToReports { s with meters := (s.cleanEndEvent d a stamp).meters } (s.cleanEndEvent d a stamp) :=
  fold_closed (R := fun s t => UpToReports { s with meters := t.meters } t) (fun s => UpToReports.refl s)
    (fun _ _ _ h k => h.thenMeters k) _ (fun s m => State.meterCleanEnd_upTo d a stamp s m) _ s

end Sys2Proof.Machine
end

