-- ==== Sys2Proof/Laws/Highlights.lean ====
section
/-! SUPPORT. What the reports of watches do to the panes (R134, R167), said once: a relation that the report of a watch, an orphaning and every other write keeps, so that where a watch was reported or a pane orphaned the highlights are those of the watch table. -/

namespace Sys2Proof.Machine

/-! ### The table of R167 -/

theorem WatchUnit.highlighted_iff (u : WatchUnit) (q : PaneSubject) :
    u.highlighted q = true ↔ ∃ i : Fin 32, u.watches[i].highlights q = true := by
  unfold WatchUnit.highlighted
  rw [List.any_eq_true]
  exact ⟨fun ⟨i, _, h⟩ => ⟨i, h⟩, fun ⟨i, h⟩ => ⟨i, List.mem_finRange i, h⟩⟩

theorem WatchUnit.highlighted_congr {u v : WatchUnit} (q : PaneSubject)
    (h : ∀ i : Fin 32, v.watches[i].highlights q = u.watches[i].highlights q) : v.highlighted q = u.highlighted q := by
  unfold WatchUnit.highlighted
  simp only [h]

/-! ### The relation -/

/-- What the report of R134 and the highlight of R167 read in a watch. -/
structure Watch.SameReport (a b : Watch) : Prop where
  state   : b.state = a.state
  hits    : b.hits = a.hits
  marks   : b.marks = a.marks
  subject : b.subject = a.subject

/-- A LIVE pane was LIVE with its subject before, stays stale, and is stale if its highlight changed (R167). -/
structure Pane.Follows (p q : Pane) : Prop where
  live    : p.state = .live
  subject : q.subject = p.subject
  stale   : p.stale = true → q.stale = true
  changed : q.highlight ≠ p.highlight → q.stale = true

theorem Pane.Follows.trans {p q r : Pane} (h : p.Follows q) (k : q.Follows r) : p.Follows r where
  live := h.live
  subject := k.subject.trans h.subject
  stale e := k.stale (h.stale e)
  changed e := by
    by_cases c : r.highlight = q.highlight
    · exact k.stale (h.changed (c ▸ e))
    · exact k.changed c

/-- Nothing came to pass that derives the highlights: no watch was reported and no pane orphaned. -/
structure Unreported (s t : State) : Prop where
  watches    : ∀ i : Fin 32, s.watch.watches[i].SameReport t.watch.watches[i]
  highlights : ∀ j : Fin 16, t.display.panes[j].state = .live → t.display.panes[j].highlight = s.display.panes[j].highlight
  orphans    : ∀ j : Fin 16, t.display.panes[j].state = .orphaned → s.display.panes[j].state = .orphaned

/-- Every LIVE pane's highlight is that of the watch table (R167). -/
def State.HighlightsFresh (s : State) : Prop :=
  ∀ j : Fin 16, s.display.panes[j].state = .live → s.display.panes[j].highlight = s.watch.highlighted s.display.panes[j].subject

theorem Watch.reported_iff (a b : Watch) : a.reported b = true ↔ b.state ≠ a.state ∨ b.hits ≠ a.hits := by
  simp only [Watch.reported, Bool.or_eq_true, bne_iff_ne, ne_comm]

theorem Watch.reported_split (a b c : Watch) (h : a.reported c = true) : a.reported b = true ∨ b.reported c = true := by
  rw [Watch.reported_iff] at *
  rw [Watch.reported_iff]
  by_cases k : b.state = a.state ∧ b.hits = a.hits
  · rw [k.1, k.2]
    exact Or.inr h
  · exact Or.inl (by simpa only [not_and_or] using k)

/-- `t` comes from `s` by moves that mark the panes of a reported watch stale (R134) and derive the highlights where R167 says so, a changed one stale. -/
structure HighlightsFollow (s t : State) : Prop where
  told  : ∀ (i : Fin 32) (j : Fin 16), t.display.panes[j].state = .live → t.display.panes[j].subject = .watch i →
            (s.watch.watches[i]).reported t.watch.watches[i] = true → t.display.panes[j].stale = true
  panes : ∀ j : Fin 16, t.display.panes[j].state = .live → s.display.panes[j].Follows t.display.panes[j]
  moved : Unreported s t ∨ t.HighlightsFresh

namespace HighlightsFollow

theorem of_same {s t : State} (w : t.watch.watches = s.watch.watches) (p : t.display.panes = s.display.panes) :
    HighlightsFollow s t where
  told i j _ _ h := by
    rw [w] at h
    exact absurd h (by simp [Watch.reported])
  panes j h := by
    rw [p] at h ⊢
    exact ⟨h, rfl, id, fun k => absurd rfl k⟩
  moved := Or.inl
    { watches := fun i => by rw [w]; exact ⟨rfl, rfl, rfl, rfl⟩
      highlights := fun j _ => by rw [p]
      orphans := fun j h => by rw [p] at h; exact h }

theorem refl (s : State) : HighlightsFollow s s := of_same rfl rfl

theorem trans (s t u : State) (h : HighlightsFollow s t) (k : HighlightsFollow t u) : HighlightsFollow s u where
  told i j hj e r := by
    have b := k.panes j hj
    rcases Watch.reported_split _ t.watch.watches[i] _ r with q | q
    · exact b.stale (h.told i j b.live (b.subject ▸ e) q)
    · exact k.told i j hj e q
  panes j hj := (h.panes j (k.panes j hj).live).trans (k.panes j hj)
  moved := by
    rcases k.moved with k' | k'
    · rcases h.moved with h' | h'
      · exact Or.inl
          { watches := fun i => ⟨(k'.watches i).state.trans (h'.watches i).state, (k'.watches i).hits.trans (h'.watches i).hits,
              (k'.watches i).marks.trans (h'.watches i).marks, (k'.watches i).subject.trans (h'.watches i).subject⟩
            highlights := fun j hj => (k'.highlights j hj).trans (h'.highlights j (k.panes j hj).live)
            orphans := fun j hj => h'.orphans j (k'.orphans j hj) }
      · refine Or.inr fun j hj => ?_
        have b := k.panes j hj
        rw [k'.highlights j hj, h' j b.live, b.subject]
        refine (WatchUnit.highlighted_congr _ fun i => ?_).symm
        unfold Watch.highlights
        rw [(k'.watches i).marks, (k'.watches i).state, (k'.watches i).subject]
    · exact Or.inr k'

/-- The whole of what a command says: where a watch was reported or a pane orphaned, the highlights are derived and a changed one is stale. -/
theorem derived {s t : State} (h : HighlightsFollow s t)
    (r : (∃ i : Fin 32, t.watch.watches[i].state ≠ s.watch.watches[i].state ∨ t.watch.watches[i].hits ≠ s.watch.watches[i].hits) ∨
      ∃ j : Fin 16, s.display.panes[j].state = .live ∧ t.display.panes[j].state = .orphaned)
    (j : Fin 16) (l : t.display.panes[j].state = .live) :
    t.display.panes[j].highlight = t.watch.highlighted t.display.panes[j].subject ∧
      (t.display.panes[j].highlight ≠ s.display.panes[j].highlight → t.display.panes[j].stale = true) ∧
      ∀ i : Fin 32, t.display.panes[j].subject = .watch i →
        t.watch.watches[i].state ≠ s.watch.watches[i].state ∨ t.watch.watches[i].hits ≠ s.watch.watches[i].hits →
        t.display.panes[j].stale = true := by
  refine ⟨?_, (h.panes j l).changed, fun i e q => h.told i j l e ((Watch.reported_iff _ _).2 q)⟩
  rcases h.moved with k | k
  · rcases r with ⟨i, e⟩ | ⟨i, e, f⟩
    · exact absurd e (not_or.2 ⟨not_not.2 (k.watches i).state, not_not.2 (k.watches i).hits⟩)
    · rw [k.orphans i f] at e
      exact absurd e (by decide)
  · exact k j l

end HighlightsFollow

/-! ### Marking and deriving -/

theorem Pane.report_follows (c : PaneSubject → Bool) (p : Pane) (h : (p.report c).state = .live) : p.Follows (p.report c) := by
  unfold Pane.report at h ⊢
  split at h <;> split <;> first | contradiction | exact ⟨h, rfl, fun _ => by simp_all, fun k => absurd rfl k⟩

theorem State.markPanes_follows (c : PaneSubject → Bool) (s : State) : HighlightsFollow s (s.markPanes c) := by
  have e : ∀ j : Fin 16, (s.markPanes c).display.panes[j] = s.display.panes[j].report c := fun j => tab_get _ j
  refine ⟨fun i j _ _ h => absurd h (by simp [Watch.reported]), fun j h => ?_,
    Or.inl ⟨fun i => ⟨rfl, rfl, rfl, rfl⟩, fun j _ => ?_, fun j h => ?_⟩⟩
  · rw [e] at h ⊢
    exact Pane.report_follows c _ h
  · rw [e]
    unfold Pane.report
    split <;> rfl
  · rw [e] at h
    rw [← h]
    exact (Pane.report_same c _).state.symm

theorem State.derive_follows (s : State) : HighlightsFollow s s.derive := by
  have k : HighlightsFollow s { s with watch := s.watch.derived } := HighlightsFollow.of_same rfl rfl
  unfold State.derive
  dsimp only
  split
  · exact k.trans _ _ _ (State.markPanes_follows _ _)
  · exact k

theorem WatchUnit.rehighlight_highlight (u : WatchUnit) (p : Pane) (h : p.state = .live) :
    (u.rehighlight p).highlight = u.highlighted p.subject := by
  unfold WatchUnit.rehighlight
  split
  · rfl
  · rename_i k
    simp only [h, true_and, ne_eq, not_not] at k
    exact k.symm

theorem WatchUnit.rehighlight_follows (u : WatchUnit) (p : Pane) (h : p.state = .live) : p.Follows (u.rehighlight p) := by
  unfold WatchUnit.rehighlight
  split
  · exact ⟨h, rfl, fun _ => rfl, fun _ => rfl⟩
  · exact ⟨h, rfl, id, fun k => absurd rfl k⟩

theorem State.deriveHighlights_get (s : State) (j : Fin 16) :
    s.deriveHighlights.display.panes[j] = s.watch.rehighlight s.display.panes[j] := tab_get _ j

theorem State.deriveHighlights_fresh (s : State) : s.deriveHighlights.HighlightsFresh := by
  intro j h
  rw [State.deriveHighlights_get] at h ⊢
  have l : s.display.panes[j].state = .live := (s.watch.rehighlight_same _).state.symm.trans h
  rw [s.watch.rehighlight_highlight _ l, (s.watch.rehighlight_same _).subject]
  rfl

theorem State.deriveHighlights_follows (s : State) : HighlightsFollow s s.deriveHighlights := by
  refine ⟨fun i j _ _ h => absurd h (by simp [Watch.reported]), fun j h => ?_, Or.inr s.deriveHighlights_fresh⟩
  rw [State.deriveHighlights_get] at h ⊢
  exact s.watch.rehighlight_follows _ ((s.watch.rehighlight_same _).state.symm.trans h)

/-! ### The report of a watch (R134) -/

/-- A watch table in place of another: a watch whose state and hit count are kept keeps what a highlight reads too. -/
def KeepsUnreported (s : State) (ws : Vector Watch 32) : Prop :=
  ∀ i : Fin 32, (s.watch.watches[i]).reported ws[i] = false → s.watch.watches[i].SameReport ws[i]

/-- The panes follow the report of a watch table whatever it changes. -/
theorem State.watchReport_panes (c : Fin 32 → Bool) (s : State) (j : Fin 16)
    (h : (s.watchReport c).display.panes[j].state = .live) : s.display.panes[j].Follows (s.watchReport c).display.panes[j] := by
  unfold State.watchReport at h ⊢
  split
  · rename_i e
    rw [if_pos e] at h
    exact ((State.markPanes_follows _ _).trans _ _ _ (State.deriveHighlights_follows _)).panes j h
  · rename_i e
    rw [if_neg e] at h
    exact (HighlightsFollow.refl s).panes j h

/-- A report of some watch derives the highlights. -/
theorem State.setWatches_fresh (ws : Vector Watch 32) (s : State) (h : ∃ i : Fin 32, (s.watch.watches[i]).reported ws[i] = true) :
    (s.setWatches ws).HighlightsFresh := by
  have e : (List.finRange 32).any (fun i => (s.watch.watches[i]).reported ws[i]) = true := by
    rw [List.any_eq_true]
    exact ⟨h.choose, List.mem_finRange _, h.choose_spec⟩
  have k : (State.watchReport (fun i => (s.watch.watches[i]).reported ws[i])
      { s with watch := { s.watch with watches := ws } }).HighlightsFresh := by
    unfold State.watchReport
    rw [if_pos e]
    exact State.deriveHighlights_fresh _
  have f := (State.derive_follows (State.watchReport (fun i => (s.watch.watches[i]).reported ws[i])
      { s with watch := { s.watch with watches := ws } }))
  intro j hj
  have g : HighlightsFollow _ (s.setWatches ws) := f
  rcases g.moved with m | m
  · rw [m.highlights j hj, k j (g.panes j hj).live, (g.panes j hj).subject]
    refine (WatchUnit.highlighted_congr _ fun i => ?_).symm
    unfold Watch.highlights
    rw [(m.watches i).marks, (m.watches i).state, (m.watches i).subject]
  · exact m j hj

theorem State.setWatches_panes (ws : Vector Watch 32) (s : State) (j : Fin 16)
    (h : (s.setWatches ws).display.panes[j].state = .live) : s.display.panes[j].Follows (s.setWatches ws).display.panes[j] := by
  have f := (State.derive_follows (State.watchReport (fun i => (s.watch.watches[i]).reported ws[i])
      { s with watch := { s.watch with watches := ws } })).panes j h
  exact (State.watchReport_panes _ _ j f.live).trans f

/-- A WATCH pane of a reported watch is stale (R134). -/
theorem State.setWatches_told (ws : Vector Watch 32) (s : State) (i : Fin 32) (j : Fin 16)
    (l : (s.setWatches ws).display.panes[j].state = .live) (e : (s.setWatches ws).display.panes[j].subject = .watch i)
    (r : (s.watch.watches[i]).reported ws[i] = true) : (s.setWatches ws).display.panes[j].stale = true := by
  let s1 : State := { s with watch := { s.watch with watches := ws } }
  let c : Fin 32 → Bool := fun i => (s.watch.watches[i]).reported ws[i]
  let f : PaneSubject → Bool := fun sub => match sub with | .watch i => c i | _ => false
  have d := (State.derive_follows (s1.watchReport c)).panes j l
  have some : (List.finRange 32).any c = true := by
    rw [List.any_eq_true]
    exact ⟨i, List.mem_finRange i, r⟩
  have w : s1.watchReport c = (s1.markPanes f).deriveHighlights := if_pos some
  have u : s.setWatches ws = (s1.markPanes f).deriveHighlights.derive := congrArg State.derive w
  rw [w] at d
  rw [u] at e ⊢
  have h := (State.deriveHighlights_follows (s1.markPanes f)).panes j d.live
  have m := (State.markPanes_follows f s1).panes j h.live
  refine d.stale (h.stale ?_)
  have g : (s1.markPanes f).display.panes[j] = s1.display.panes[j].report f := tab_get _ j
  have sub : s1.display.panes[j].subject = .watch i := by rw [← m.subject, ← h.subject, ← d.subject]; exact e
  rw [g]
  unfold Pane.report
  rw [if_pos ⟨m.live, by rw [sub]; exact r⟩]

theorem State.setWatches_follows (ws : Vector Watch 32) (s : State) (h : KeepsUnreported s ws) :
    HighlightsFollow s (s.setWatches ws) := by
  refine ⟨fun i j l e r => s.setWatches_told ws i j l e (by rw [State.setWatches_watches] at r; exact r), s.setWatches_panes ws, ?_⟩
  by_cases r : ∃ i : Fin 32, (s.watch.watches[i]).reported ws[i] = true
  · exact Or.inr (s.setWatches_fresh ws r)
  · have none : ∀ i : Fin 32, (s.watch.watches[i]).reported ws[i] = false := fun i => by
      rw [← Bool.not_eq_true]
      exact fun e => r ⟨i, e⟩
    have e : (List.finRange 32).any (fun i => (s.watch.watches[i]).reported ws[i]) = false := by
      rw [List.any_eq_false]
      intro i _
      rw [none i]
      decide
    refine Or.inl ?_
    have f : HighlightsFollow { s with watch := { s.watch with watches := ws } } (s.setWatches ws) := by
      unfold State.setWatches State.watchReport
      rw [if_neg (by rw [e]; decide)]
      exact State.derive_follows _
    have m : Unreported { s with watch := { s.watch with watches := ws } } (s.setWatches ws) := by
      unfold State.setWatches State.watchReport
      rw [if_neg (by rw [e]; decide)]
      have k := State.derive_upTo { s with watch := { s.watch with watches := ws } }
      refine ⟨fun i => ?_, fun j hj => ?_, fun j hj => ?_⟩
      · rw [State.derive_watch]
        exact ⟨rfl, rfl, rfl, rfl⟩
      · unfold State.derive at hj ⊢
        dsimp only at hj ⊢
        split
        · rw [State.markPanes, State.withPanes]
          dsimp only
          rw [tab_get]
          unfold Pane.report
          split <;> rfl
        · rfl
      · rw [← hj]
        exact (k.panes j).state.symm
    exact
      { watches := fun i => by
          have a := h i (none i)
          have b := m.watches i
          exact ⟨b.state.trans a.state, b.hits.trans a.hits, b.marks.trans a.marks, b.subject.trans a.subject⟩
        highlights := m.highlights
        orphans := m.orphans }

theorem State.evaluate_follows (c : Subject → Bool) (s : State) : HighlightsFollow s (s.evaluate c) := by
  refine State.setWatches_follows _ s fun i h => ?_
  have k : s.watch.watches[i].SameSetting (s.evaluate c).watch.watches[i] := (State.evaluate_upTo c s).watches i
  unfold State.evaluate at k
  rw [State.setWatches_watches] at k
  simp only [Watch.reported, Bool.or_eq_false_iff, bne_eq_false_iff_eq] at h
  exact ⟨h.1.symm, h.2.symm, k.marks, k.subject⟩

/-! ### Writes of the owners -/

/-- A change of the notices is followed by a derivation. -/
theorem State.derive_after (u : WatchUnit) (s : State) (h : u.watches = s.watch.watches) :
    HighlightsFollow s (State.derive { s with watch := u }) :=
  HighlightsFollow.trans _ _ _ (HighlightsFollow.of_same (t := { s with watch := u }) h rfl) (State.derive_follows _)

theorem State.putPod_follows (p : Fin 4) (new : Pod) (s : State) : HighlightsFollow s (s.putPod p new) := by
  have w : HighlightsFollow s { s with pods := s.pods.set p new } := HighlightsFollow.of_same rfl rfl
  unfold State.putPod
  dsimp only
  split
  · refine w.trans _ _ _ ?_
    unfold State.podReport State.faultReport
    exact ((State.evaluate_follows _ _).trans _ _ _ (State.markPanes_follows _ _)).trans _ _ _ (State.derive_after _ _ rfl)
  · exact w

theorem State.putDecoder_follows (d : Fin 6) (new : Decoder) (s : State) : HighlightsFollow s (s.putDecoder d new) := by
  have w : HighlightsFollow s { s with decoders := s.decoders.set d new } := HighlightsFollow.of_same rfl rfl
  unfold State.putDecoder
  dsimp only
  by_cases h1 : s.decoders[d].aborted ≠ new.aborted ∨ s.decoders[d].unknown ≠ new.unknown
  · rw [if_pos h1]
    have k := w.trans _ _ _ (State.evaluate_follows (fun sub => match sub with | .decoder e _ => e == d | _ => false) _)
    split
    · exact k.trans _ _ _ (State.markPanes_follows _ _)
    · exact k
  · rw [if_neg h1]
    split
    · exact w.trans _ _ _ (State.markPanes_follows _ _)
    · exact w

theorem State.putMeter_follows (m : Fin 8) (new : Meter) (s : State) : HighlightsFollow s (s.putMeter m new) := by
  have w : HighlightsFollow s { s with meters := s.meters.set m new } := HighlightsFollow.of_same rfl rfl
  unfold State.putMeter
  dsimp only
  split
  · exact w
  · exact w.trans _ _ _ ((State.evaluate_follows _ _).trans _ _ _ (State.markPanes_follows _ _))

/-! ### The store -/

theorem State.targetReport_follows (h : Handle) (regs : List Byte) (fields : List TargetField) (s : State) :
    HighlightsFollow s (s.targetReport h regs fields) :=
  (State.evaluate_follows _ _).trans _ _ _ (State.markPanes_follows _ _)

theorem State.applyTo_follows (a : Application) (i : Fin 64) (r : Record) (s : State) : HighlightsFollow s (s.applyTo a i r) := by
  unfold State.applyTo
  dsimp only
  refine HighlightsFollow.trans _ _ _ ?_ (State.targetReport_follows _ _ _ _)
  have w : ∀ st : Store, HighlightsFollow s { s with store := st } := fun _ => HighlightsFollow.of_same rfl rfl
  split
  · exact (w _).trans _ _ _ (State.derive_after _ _ rfl)
  · exact w _

theorem State.apply_follows (a : Application) (s : State) : HighlightsFollow s (s.apply a).1 := by
  have w : ∀ st : Store, HighlightsFollow s { s with store := st } := fun _ => HighlightsFollow.of_same rfl rfl
  have n : ∀ (i : Fin 64) (st : Store), HighlightsFollow s (State.applyNew a i { s with store := st }) := fun i st =>
    (w _).trans _ _ _ (State.applyTo_follows _ _ _ _)
  unfold State.apply
  split
  · show HighlightsFollow s (s.withhold a)
    unfold State.withhold
    split
    · exact HighlightsFollow.refl s
    · split
      · exact HighlightsFollow.refl s
      · dsimp only
        split
        · exact w _
        · exact (w _).trans _ _ _ (State.markPanes_follows _ _)
  · split
    · split
      · exact State.applyTo_follows _ _ _ s
      · exact HighlightsFollow.refl s
    · split
      · exact HighlightsFollow.refl s
      · split
        · exact n _ _
        · split
          · exact n _ _
          · exact State.derive_after _ _ rfl

theorem State.errorReport_follows (d : Fin 6) (a : Byte) (reason : AbortReason) (s : State) :
    HighlightsFollow s (s.errorReport d a reason) := by
  have w : ∀ st : Store, HighlightsFollow s { s with store := st } := fun _ => HighlightsFollow.of_same rfl rfl
  unfold State.errorReport
  split
  · exact HighlightsFollow.refl s
  · split
    · exact HighlightsFollow.refl s
    · split
      · exact HighlightsFollow.refl s
      · dsimp only
        split
        · exact w _
        · exact (w _).trans _ _ _ (State.targetReport_follows _ _ _ _)

/-- The retirement notice derives the highlights where it orphans a pane or makes a watch DORMANT. -/
theorem State.retireNotice_follows (h : Handle) (s : State) : HighlightsFollow s (s.retireNotice h) := by
  have live : ∀ p : Pane, (p.orphan h).state = .live → p.orphan h = p := by
    intro p e
    unfold Pane.orphan at e ⊢
    split at e
    · exact absurd e (by simp)
    · rename_i k
      rw [if_neg k]
  have same : ∀ w : Watch, w.reported (w.retire h) = false → w.SameReport (w.retire h) := by
    intro w e
    unfold Watch.retire at e ⊢
    split at e
    · rename_i k
      simp only [Watch.reported, Bool.or_eq_false_iff, bne_eq_false_iff_eq] at e
      rw [if_pos k]
      exact ⟨e.1.symm, rfl, rfl, rfl⟩
    · rename_i k
      rw [if_neg k]
      exact ⟨rfl, rfl, rfl, rfl⟩
  let s1 := s.withPanes (tab fun i => s.display.panes[i].orphan h)
  let ws := tab fun i => s1.watch.watches[i].retire h
  have get : ∀ j : Fin 16, s1.display.panes[j] = s.display.panes[j].orphan h := fun j => tab_get _ j
  have panes : ∀ j : Fin 16, (s1.setWatches ws).display.panes[j].state = .live →
      s.display.panes[j].Follows (s1.setWatches ws).display.panes[j] := by
    intro j hj
    have k := s1.setWatches_panes ws j hj
    have e : s1.display.panes[j] = s.display.panes[j] := by
      rw [get]
      exact live _ (by rw [← get]; exact k.live)
    rw [e] at k
    exact k
  unfold State.retireNotice
  dsimp only
  split
  · have k := State.deriveHighlights_follows (s1.setWatches ws)
    refine ⟨fun i j hj e r => ?_, fun j hj => (panes j (k.panes j hj).live).trans (k.panes j hj),
      Or.inr (State.deriveHighlights_fresh _)⟩
    have b := k.panes j hj
    refine b.stale (s1.setWatches_told ws i j b.live (b.subject ▸ e) ?_)
    have w : (s1.setWatches ws).watch.watches[i] = ws[i] := by rw [State.setWatches_watches]
    rw [← w]
    exact r
  · rename_i none
    have e : s1.display.panes = s.display.panes := by
      refine Vector.ext fun i hi => ?_
      have k := get ⟨i, hi⟩
      refine k.trans ?_
      unfold Pane.orphan
      rw [if_neg]
      · rfl
      · intro q
        apply none
        rw [List.any_eq_true]
        exact ⟨⟨i, hi⟩, List.mem_finRange _, by simpa [Pane.orphanedBy] using q⟩
    refine (HighlightsFollow.of_same (s := s) (t := s1) rfl e).trans _ _ _ (State.setWatches_follows ws s1 fun i hi => ?_)
    rw [tab_get] at hi ⊢
    exact same _ hi

/-! ### Decoders, meters and pods -/

theorem meters_follow (m : Fin 8) : MeterClosed m HighlightsFollow := ⟨HighlightsFollow.refl, HighlightsFollow.trans, State.putMeter_follows m⟩

theorem decoders_follow (d : Fin 6) : DecoderClosed d HighlightsFollow where
  refl := HighlightsFollow.refl
  trans := HighlightsFollow.trans
  put := State.putDecoder_follows d
  apply := State.apply_follows
  error := State.errorReport_follows d
  event _ _ s := fold_closed HighlightsFollow.refl HighlightsFollow.trans _ (fun s m => (meters_follow m).meterCleanEnd _ _ _ s) _ s

end Sys2Proof.Machine
end

