-- ==== Sys2Proof/Laws/PerInstr.lean ====
section
/-! SUPPORT. What holds of every command as syntax, constructor by constructor: the request frame of a well-formed command has a first byte that no read frame has, and at most 250 parameter bytes (R192, R212, R213). -/

namespace Sys2Proof.Laws.RequestFrame

open Sys2Proof Sys2Proof.Machine

/-- The request that a well-formed command is carried by fits a request frame. -/
def Statement (i : Instr) : Prop := i.wf = true → ∀ r, requestOf i = some r → r.1 ≠ 0 ∧ r.2.length ≤ 250

/-- A code and parameters that fit. -/
theorem fits {code : Byte} {params : List Byte} (c : code ≠ 0) (n : params.length ≤ 250) :
    (code, params).1 ≠ 0 ∧ (code, params).2.length ≤ 250 := ⟨c, n⟩

/-- The bytes of role and channel pairs. -/
theorem length_pairBytes (bs : List (Byte × Byte)) : (pairBytes bs).length = 2 * bs.length := by
  induction bs with
  | nil => rfl
  | cons b bs ih => simp only [pairBytes, List.flatMap_cons] at ih ⊢; simp [ih]; omega

theorem fullReset (sense : Option (BitVec 4)) : Statement (.fullReset sense) := by
  intro _ r h; cases h

theorem requestFrame (wave : List SerialLines) : Statement (.requestFrame wave) := by
  intro _ r h; cases h

theorem readFrame (wave : List SerialLines) : Statement (.readFrame wave) := by
  intro _ r h; cases h

theorem answer : Statement .answer := by
  intro _ r h; cases h

theorem devIdent : Statement .devIdent := by
  intro _ r h; cases h; exact fits (by decide) (Nat.le_of_ble_eq_true rfl)

theorem devStatus (later : List StatusOwner) : Statement (.devStatus later) := by
  intro _ r h; cases h; exact fits (by decide) (Nat.le_of_ble_eq_true rfl)

theorem devRestart : Statement .devRestart := by
  intro _ r h; cases h; exact fits (by decide) (Nat.le_of_ble_eq_true rfl)

theorem podSet (pod requested code : Byte) (widths : Vector Byte 8) : Statement (.podSet pod requested code widths) := by
  intro _ r h; cases h; exact fits (by decide) (by simp)

theorem podGo (mask : Byte) : Statement (.podGo mask) := by
  intro _ r h; cases h; exact fits (by decide) (Nat.le_of_ble_eq_true rfl)

theorem podRead (pod : Byte) : Statement (.podRead pod) := by
  intro _ r h; cases h; exact fits (by decide) (Nat.le_of_ble_eq_true rfl)

theorem insertionTimerStart (pod : Fin 4) : Statement (.insertionTimerStart pod) := by
  intro _ r h; cases h

theorem insertionTimerStop (pod : Fin 4) : Statement (.insertionTimerStop pod) := by
  intro _ r h; cases h

theorem insertion (pod : Fin 4) : Statement (.insertion pod) := by
  intro _ r h; cases h

theorem removal (pod : Fin 4) : Statement (.removal pod) := by
  intro _ r h; cases h

theorem overcurrent (pod : Fin 4) : Statement (.overcurrent pod) := by
  intro _ r h; cases h

theorem rampingExpiry (pod : Fin 4) : Statement (.rampingExpiry pod) := by
  intro _ r h; cases h

theorem settlingExpiry (pod : Fin 4) (levels : BitVec 8) : Statement (.settlingExpiry pod levels) := by
  intro _ r h; cases h

theorem stoppingExpiry (pod : Fin 4) : Statement (.stoppingExpiry pod) := by
  intro _ r h; cases h

theorem acceptedEdge (channel : Fin 32) (also : List (Fin 32)) (stamp : Nat) (order : List Taker) : Statement (.acceptedEdge channel also stamp order) := by
  intro _ r h; cases h

theorem twoWireIdleExpiry (d : Fin 6) (clock data : Bool) : Statement (.twoWireIdleExpiry d clock data) := by
  intro _ r h; cases h

theorem asyncIdleExpiry (d : Fin 6) (line : Bool) : Statement (.asyncIdleExpiry d line) := by
  intro _ r h; cases h

theorem characterJudged (d : Fin 6) (line : Bool) : Statement (.characterJudged d line) := by
  intro _ r h; cases h

theorem breakTimeout (d : Fin 6) (line : Bool) : Statement (.breakTimeout d line) := by
  intro _ r h; cases h

theorem idleGapExpiry (d : Fin 6) : Statement (.idleGapExpiry d) := by
  intro _ r h; cases h

theorem tgtFind (decoder address : Byte) : Statement (.tgtFind decoder address) := by
  intro _ r h; cases h; exact fits (by decide) (Nat.le_of_ble_eq_true rfl)

theorem tgtList (start filter max : Byte) : Statement (.tgtList start filter max) := by
  intro _ r h; cases h; exact fits (by decide) (Nat.le_of_ble_eq_true rfl)

theorem tgtRead (handle : Handle) (first max clear : Byte) : Statement (.tgtRead handle first max clear) := by
  intro _ r h; cases h; exact fits (by decide) (Nat.le_of_ble_eq_true rfl)

theorem tgtDeclare (decoder address pinned : Byte) : Statement (.tgtDeclare decoder address pinned) := by
  intro _ r h; cases h; exact fits (by decide) (Nat.le_of_ble_eq_true rfl)

theorem tgtSetCell (handle : Handle) (register value : Byte) : Statement (.tgtSetCell handle register value) := by
  intro _ r h; cases h; exact fits (by decide) (Nat.le_of_ble_eq_true rfl)

theorem tgtExpect (handle : Handle) (register operation value mask : Byte) : Statement (.tgtExpect handle register operation value mask) := by
  intro _ r h; cases h; exact fits (by decide) (Nat.le_of_ble_eq_true rfl)

theorem tgtDropCell (handle : Handle) (register : Byte) : Statement (.tgtDropCell handle register) := by
  intro _ r h; cases h; exact fits (by decide) (Nat.le_of_ble_eq_true rfl)

theorem tgtPin (handle : Handle) (on : Byte) : Statement (.tgtPin handle on) := by
  intro _ r h; cases h; exact fits (by decide) (Nat.le_of_ble_eq_true rfl)

theorem tgtRetire (handle : Handle) (force : Byte) : Statement (.tgtRetire handle force) := by
  intro _ r h; cases h; exact fits (by decide) (Nat.le_of_ble_eq_true rfl)

theorem decConfig (decoder profile learn : Byte) (bindings : List (Byte × Byte)) (params : List Byte) : Statement (.decConfig decoder profile learn bindings params) := by
  intro wf r h
  simp only [Instr.wf, Bool.and_eq_true, decide_eq_true_eq] at wf
  simp only [requestOf, Option.some.injEq] at h
  subst h
  refine fits (by decide) ?_
  simp only [List.length_append, List.length_cons, List.length_nil, length_pairBytes]
  omega

theorem decStart (decoder : Byte) : Statement (.decStart decoder) := by
  intro _ r h; cases h; exact fits (by decide) (Nat.le_of_ble_eq_true rfl)

theorem decStop (decoder : Byte) : Statement (.decStop decoder) := by
  intro _ r h; cases h; exact fits (by decide) (Nat.le_of_ble_eq_true rfl)

theorem decRead (decoder : Byte) : Statement (.decRead decoder) := by
  intro _ r h; cases h; exact fits (by decide) (Nat.le_of_ble_eq_true rfl)

theorem mtrConfig (meter : Byte) (config : MeterBytes) : Statement (.mtrConfig meter config) := by
  intro _ r h; cases h; exact fits (by decide) (Nat.le_of_ble_eq_true rfl)

theorem mtrStart (meter : Byte) : Statement (.mtrStart meter) := by
  intro _ r h; cases h; exact fits (by decide) (Nat.le_of_ble_eq_true rfl)

theorem mtrStop (meter : Byte) : Statement (.mtrStop meter) := by
  intro _ r h; cases h; exact fits (by decide) (Nat.le_of_ble_eq_true rfl)

theorem mtrRead (meter : Byte) : Statement (.mtrRead meter) := by
  intro _ r h; cases h; exact fits (by decide) (Nat.le_of_ble_eq_true rfl)

theorem mtrClear (meter : Byte) : Statement (.mtrClear meter) := by
  intro _ r h; cases h; exact fits (by decide) (Nat.le_of_ble_eq_true rfl)

theorem overrange (m : Fin 8) : Statement (.overrange m) := by
  intro _ r h; cases h

theorem windowExpiry (m : Fin 8) (order : List (Fin 8)) : Statement (.windowExpiry m order) := by
  intro _ r h; cases h

theorem wchSet (watch : Byte) (subject : SubjectBytes) (condition : ConditionBytes) (level actions : Byte) : Statement (.wchSet watch subject condition level actions) := by
  intro _ r h; cases h; exact fits (by decide) (Nat.le_of_ble_eq_true rfl)

theorem wchClear (watch : Byte) : Statement (.wchClear watch) := by
  intro _ r h; cases h; exact fits (by decide) (Nat.le_of_ble_eq_true rfl)

theorem wchRead (watch : Byte) : Statement (.wchRead watch) := by
  intro _ r h; cases h; exact fits (by decide) (Nat.le_of_ble_eq_true rfl)

theorem ntcRead : Statement .ntcRead := by
  intro _ r h; cases h; exact fits (by decide) (Nat.le_of_ble_eq_true rfl)

theorem ntcAckNotice (kind mask : Byte) : Statement (.ntcAckNotice kind mask) := by
  intro _ r h; cases h; exact fits (by decide) (Nat.le_of_ble_eq_true rfl)

theorem ntcAckWatch (watch : Byte) : Statement (.ntcAckWatch watch) := by
  intro _ r h; cases h; exact fits (by decide) (Nat.le_of_ble_eq_true rfl)

theorem ntcLevels (attention freeze : Byte) : Statement (.ntcLevels attention freeze) := by
  intro _ r h; cases h; exact fits (by decide) (Nat.le_of_ble_eq_true rfl)

theorem hold (on : Byte) : Statement (.hold on) := by
  intro _ r h; cases h; exact fits (by decide) (Nat.le_of_ble_eq_true rfl)

theorem paneSet (pane row column width height kind : Byte) (names : NameBytes) (format : Byte) (label : List Byte) (lbusy : Bool) : Statement (.paneSet pane row column width height kind names format label lbusy) := by
  intro wf r h
  simp only [Instr.wf, decide_eq_true_eq] at wf
  simp only [requestOf, Option.some.injEq] at h
  subst h
  refine fits (by decide) ?_
  simp only [List.length_append, List.length_cons, List.length_nil]
  omega

theorem paneClear (pane : Byte) (lbusy : Bool) : Statement (.paneClear pane lbusy) := by
  intro _ r h; cases h; exact fits (by decide) (Nat.le_of_ble_eq_true rfl)

theorem paneRead (pane : Byte) : Statement (.paneRead pane) := by
  intro _ r h; cases h; exact fits (by decide) (Nat.le_of_ble_eq_true rfl)

theorem dispInterval (interval : Half) : Statement (.dispInterval interval) := by
  intro _ r h; cases h; exact fits (by decide) (Nat.le_of_ble_eq_true rfl)

theorem refreshTick (lbusy : Bool) : Statement (.refreshTick lbusy) := by
  intro _ r h; cases h

theorem dispRepaint (lbusy : Bool) : Statement (.dispRepaint lbusy) := by
  intro _ r h; cases h; exact fits (by decide) (Nat.le_of_ble_eq_true rfl)

theorem pnlEnable (on rate : Byte) (lbusy : Bool) : Statement (.pnlEnable on rate lbusy) := by
  intro _ r h; cases h; exact fits (by decide) (Nat.le_of_ble_eq_true rfl)

theorem pnlRestart (lbusy : Bool) : Statement (.pnlRestart lbusy) := by
  intro _ r h; cases h; exact fits (by decide) (Nat.le_of_ble_eq_true rfl)

theorem bklSet (high low : Half) : Statement (.bklSet high low) := by
  intro _ r h; cases h; exact fits (by decide) (Nat.le_of_ble_eq_true rfl)

theorem lbusyLow : Statement .lbusyLow := by
  intro _ r h; cases h

theorem burstEnd (lbusy : Bool) : Statement (.burstEnd lbusy) := by
  intro _ r h; cases h

theorem waitExpiry : Statement .waitExpiry := by
  intro _ r h; cases h

theorem backlightPhaseExpiry : Statement .backlightPhaseExpiry := by
  intro _ r h; cases h

theorem millisecondTick : Statement .millisecondTick := by
  intro _ r h; cases h

theorem asyncSamplePoint (d : Fin 6) (line : Bool) : Statement (.asyncSamplePoint d line) := by
  intro _ r h; cases h

theorem filterCandidate (channel : Fin 32) (level : Bool) (stamp : Nat) : Statement (.filterCandidate channel level stamp) := by
  intro _ r h; cases h

end Sys2Proof.Laws.RequestFrame
end

