-- ==== Sys2Proof/Laws/Pods.lean ====
section
/-! SUPPORT. What a pod's move does, up to reports (R11, R13, R16, R57, R115). -/

namespace Sys2Proof.Machine

/-- The table of a vector's own entries. -/
theorem tab_self {α : Type} {n : Nat} (v : Vector α n) : (tab fun d : Fin n => v[d]) = v := by
  apply vec_ext; intro i; simp

/-- Events that each change one decoder, taken in turn. -/
theorem foldl_decoders_upTo (g : State → Fin 6 → State) (f : Fin 6 → Decoder → Decoder)
    (hg : ∀ s d, UpToReports { s with decoders := s.decoders.set d (f d s.decoders[d]) } (g s d)) (l : List (Fin 6)) (hl : l.Nodup) (s : State) :
    UpToReports { s with decoders := tab fun d => if d ∈ l then f d s.decoders[d] else s.decoders[d] } (l.foldl g s) := by
  induction l generalizing s with
  | nil =>
    refine UpToReports.of_eq ?_
    simp only [List.foldl_nil, List.not_mem_nil, if_false, tab_self]
  | cons a l ih =>
    have hn := List.nodup_cons.1 hl
    have h1 := hg s a
    have h2 := ih hn.2 (g s a)
    refine UpToReports.trans ?_ h2
    have h3 := h1.withDecoders (tab fun d => if d ∈ l then f d (g s a).decoders[d] else (g s a).decoders[d])
    refine UpToReports.trans (UpToReports.of_eq ?_) h3
    congr 1
    apply vec_ext; intro i
    rw [tab_get, tab_get, h1.decoders]
    dsimp only
    by_cases hi : i = a
    · subst hi; rw [if_neg hn.1, vset_same, if_pos (by simp)]
    · rw [vset_other _ _ (Ne.symm hi)]
      by_cases hm : i ∈ l
      · rw [if_pos hm, if_pos (by simp [hm])]
      · rw [if_neg hm, if_neg (by simp [hm, hi])]

/-- Events that each change one meter, taken in turn. -/
theorem foldl_meters_upTo (g : State → Fin 8 → State) (f : Fin 8 → Meter → Meter)
    (hg : ∀ s d, UpToReports { s with meters := s.meters.set d (f d s.meters[d]) } (g s d)) (l : List (Fin 8)) (hl : l.Nodup) (s : State) :
    UpToReports { s with meters := tab fun d => if d ∈ l then f d s.meters[d] else s.meters[d] } (l.foldl g s) := by
  induction l generalizing s with
  | nil =>
    refine UpToReports.of_eq ?_
    simp only [List.foldl_nil, List.not_mem_nil, if_false, tab_self]
  | cons a l ih =>
    have hn := List.nodup_cons.1 hl
    have h1 := hg s a
    have h2 := ih hn.2 (g s a)
    refine UpToReports.trans ?_ h2
    have h3 := h1.withMeters (tab fun d => if d ∈ l then f d (g s a).meters[d] else (g s a).meters[d])
    refine UpToReports.trans (UpToReports.of_eq ?_) h3
    congr 1
    apply vec_ext; intro i
    rw [tab_get, tab_get, h1.meters]
    dsimp only
    by_cases hi : i = a
    · subst hi; rw [if_neg hn.1, vset_same, if_pos (by simp)]
    · rw [vset_other _ _ (Ne.symm hi)]
      by_cases hm : i ∈ l
      · rw [if_pos hm, if_pos (by simp [hm])]
      · rw [if_neg hm, if_neg (by simp [hm, hi])]

/-- A decoder replaced by itself. -/
theorem State.replaceDecoder_self (s : State) (d : Fin 6) : { s with decoders := s.decoders.set d s.decoders[d] } = s := by simp

/-- A meter replaced by itself. -/
theorem State.replaceMeter_self (s : State) (d : Fin 8) : { s with meters := s.meters.set d s.meters[d] } = s := by simp

/-- A pod down at one decoder (R57). -/
theorem State.decoderPodDown_upTo (p : Fin 4) (cause : DownCause) (s : State) (d : Fin 6) :
    UpToReports { s with decoders := s.decoders.set d (s.decoders[d].afterPodDown p cause) } (s.decoderPodDown p cause d) := by
  unfold State.decoderPodDown Decoder.afterPodDown
  dsimp only
  cases hu : s.decoders[d].usesPod p
  · rw [if_pos rfl, if_neg (by decide), State.replaceDecoder_self]; exact UpToReports.refl _
  · rw [if_neg (by decide), if_pos rfl]
    cases hs : s.decoders[d].state <;> dsimp only
    · rw [State.replaceDecoder_self]; exact UpToReports.refl _
    · rw [State.replaceDecoder_self]; exact UpToReports.refl _
    · exact State.putDecoder_upTo _ _ _
    · exact State.putDecoder_upTo _ _ _
    · unfold State.abort State.abortTo
      have : ∀ t : State, t.abortReport d cause.reason s.decoders[d].staging = t := by
        intro t
        unfold State.abortReport
        split
        · rfl
        · split
          · rfl
          · rw [if_neg]; cases cause <;> decide
      rw [this]
      have k := State.putDecoder_upTo d ((s.decoders[d].countAbort cause.reason).afterEnd .suspended none) s
      have e : (s.decoders[d].countAbort cause.reason).afterEnd .suspended none = { s.decoders[d] with
        state := .suspended
        staging := none
        timer := none
        aborted := satInc s.decoders[d].aborted
        lastAbort := if cause = .settle then .settle else .pod } := by
        unfold Decoder.afterEnd Decoder.countAbort
        cases cause <;> rfl
      rw [e] at k
      show UpToReports _ (s.putDecoder d ((s.decoders[d].countAbort cause.reason).afterEnd .suspended none))
      rw [e]
      exact k

/-- A pod down at one meter (R115). -/
theorem State.meterPodDown_upTo (p : Fin 4) (s : State) (m : Fin 8) :
    UpToReports { s with meters := s.meters.set m (s.meters[m].afterPodDown p) } (s.meterPodDown p m) := by
  unfold State.meterPodDown Meter.afterPodDown
  dsimp only
  cases hs : s.meters[m].state <;> dsimp only
  · rw [State.replaceMeter_self]; exact UpToReports.refl _
  · rw [State.replaceMeter_self]; exact UpToReports.refl _
  · split
    · exact State.putMeter_upTo _ _ _
    · rw [State.replaceMeter_self]; exact UpToReports.refl _
  · rw [State.replaceMeter_self]; exact UpToReports.refl _
  · split
    · exact State.putMeter_upTo _ _ _
    · rw [State.replaceMeter_self]; exact UpToReports.refl _

/-- A pod down at every decoder. -/
theorem State.decodersPodDown_upTo (p : Fin 4) (cause : DownCause) (s : State) :
    UpToReports { s with decoders := tab fun d => s.decoders[d].afterPodDown p cause } (s.decodersPodDown p cause) := by
  have := foldl_decoders_upTo (State.decoderPodDown p cause) (fun _ d => d.afterPodDown p cause) (fun s d => State.decoderPodDown_upTo p cause s d) (List.finRange 6) (List.nodup_finRange 6) s
  unfold State.decodersPodDown
  simpa using this

/-- A pod down at every meter. -/
theorem State.metersPodDown_upTo (p : Fin 4) (s : State) :
    UpToReports { s with meters := tab fun d => s.meters[d].afterPodDown p } (s.metersPodDown p) := by
  have := foldl_meters_upTo (State.meterPodDown p) (fun _ d => d.afterPodDown p) (fun s d => State.meterPodDown_upTo p s d) (List.finRange 8) (List.nodup_finRange 8) s
  unfold State.metersPodDown
  simpa using this

/-- A pod down, whole (R13, R16). -/
theorem State.withPodDown_upTo (p : Fin 4) (cause : DownCause) {s t : State} (h : UpToReports s t) :
    UpToReports (s.withPodDown p cause true) (((t.dropCandidates p).decodersPodDown p cause).metersPodDown p) := by
  have k1 := State.decodersPodDown_upTo p cause (t.dropCandidates p)
  have k2 := State.metersPodDown_upTo p ((t.dropCandidates p).decodersPodDown p cause)
  refine UpToReports.trans ?_ k2
  have k3 := k1.withMeters (tab fun d => ((t.dropCandidates p).decodersPodDown p cause).meters[d].afterPodDown p)
  refine UpToReports.trans ?_ k3
  have h1 := ((h.withChannels (t.dropCandidates p).channels).withDecoders (tab fun d => ((t.dropCandidates p).decoders[d]).afterPodDown p cause)).withMeters (tab fun d => ((t.dropCandidates p).decodersPodDown p cause).meters[d].afterPodDown p)
  refine UpToReports.trans (UpToReports.of_eq ?_) h1
  unfold State.withPodDown
  rw [if_pos rfl]
  have e := k1.meters
  rw [e]
  unfold State.dropCandidates
  dsimp only
  rw [h.channels, h.decoders, h.meters]

/-- A pod is replaced, with its pod down when it leaves LIVE. -/
theorem State.podMoves_upTo (p : Fin 4) (new : Pod) (cause : DownCause) (s : State) (h : NoticesOk s) :
    UpToReports ((s.withPod p new).withPodDown p cause (s.pods[p].state == .live && new.state != .live)) (s.podMoves p new cause) := by
  unfold State.podMoves
  dsimp only
  have k : UpToReports (s.withPod p new) (s.putPod p new) := State.putPod_upTo p new s (h.marks p)
  split
  · rename_i hc
    have : (s.pods[p].state == .live && new.state != .live) = true := by
      rw [Bool.and_eq_true]; exact ⟨beq_iff_eq.2 hc.1, bne_iff_ne.2 hc.2⟩
    rw [this]
    exact State.withPodDown_upTo p cause k
  · rename_i hc
    have : (s.pods[p].state == .live && new.state != .live) = false := by
      rw [Bool.eq_false_iff]; intro hx; rw [Bool.and_eq_true] at hx; exact hc ⟨beq_iff_eq.1 hx.1, bne_iff_ne.1 hx.2⟩
    rw [this]
    exact k

/-- Replacing a pod keeps the notices derived. -/
theorem State.putPod_derived (p : Fin 4) (new : Pod) (s : State) (h : s.watch.Derived) : (s.putPod p new).watch.Derived := by
  unfold State.putPod
  dsimp only
  split
  · exact State.derive_derived _
  · exact h

/-- A pod down at the decoders keeps the notices derived. -/
theorem State.decodersPodDown_derived (p : Fin 4) (cause : DownCause) (s : State) : s.watch.Derived → (s.decodersPodDown p cause).watch.Derived ∧ (s.decodersPodDown p cause).watch.podFault = s.watch.podFault := by
  intro h
  refine ⟨?_, (State.decodersPodDown_upTo p cause s).podFault⟩
  unfold State.decodersPodDown
  refine foldl_inv (fun t : State => t.watch.Derived) _ ?_ _ _ h
  intro t d ht
  unfold State.decoderPodDown
  dsimp only
  split
  · split
    · unfold State.abort State.abortTo
      have : ∀ u : State, u.abortReport d cause.reason t.decoders[d].staging = u := by
        intro t
        unfold State.abortReport
        split
        · rfl
        · split
          · rfl
          · rw [if_neg]; cases cause <;> decide
      rw [this]
      exact State.putDecoder_derived _ _ _ ht
    · exact State.putDecoder_derived _ _ _ ht
    · exact State.putDecoder_derived _ _ _ ht
    · exact ht
    · exact ht
  · exact ht

/-- A pod down at the meters keeps the notices derived. -/
theorem State.metersPodDown_derived (p : Fin 4) (s : State) : s.watch.Derived → (s.metersPodDown p).watch.Derived ∧ (s.metersPodDown p).watch.podFault = s.watch.podFault := by
  intro h
  refine ⟨?_, (State.metersPodDown_upTo p s).podFault⟩
  unfold State.metersPodDown
  refine foldl_inv (fun t : State => t.watch.Derived) _ ?_ _ _ h
  intro t d ht
  unfold State.meterPodDown
  dsimp only
  split
  · split
    · exact State.putMeter_derived _ _ _ ht
    · exact ht
  · split
    · exact State.putMeter_derived _ _ _ ht
    · exact ht
  · exact ht

/-- A pod's move keeps the notices derived. -/
theorem State.podMoves_derived (p : Fin 4) (new : Pod) (cause : DownCause) (s : State) (h : s.watch.Derived) : (s.podMoves p new cause).watch.Derived ∧ (s.podMoves p new cause).watch.podFault = (s.putPod p new).watch.podFault := by
  unfold State.podMoves
  dsimp only
  have k := State.putPod_derived p new s h
  split
  · have a := State.decodersPodDown_derived p cause ((s.putPod p new).dropCandidates p) k
    have b := State.metersPodDown_derived p _ a.1
    exact ⟨b.1, b.2.trans a.2⟩
  · exact ⟨k, rfl⟩


/-- POD_CHANGE raised for a pod (R2, R3). -/
theorem State.withPodChange_upTo {s t : State} (h : UpToReports s t) (p : Fin 4) : UpToReports (s.withPodChange p) (t.raisePodChange p) := by
  unfold State.raisePodChange State.withPodChange
  refine UpToReports.trans (t := { t with watch := { t.watch with podChange := t.watch.podChange ||| BitVec.twoPow 4 p } }) ?_ (State.derive_upTo _)
  rw [← h.podChange]
  exact { h with podChange := rfl }

end Sys2Proof.Machine
end

