-- ==== Sys2Proof/Laws/Serial.lean ====
section
/-! SUPPORT. The serial lines: what the port hears of a clocked selection, and that the bits and bytes clocked come back. -/

namespace Sys2Proof.Machine

/-! ### The clocked part of a selection -/

/-- The lines that clock some bits. -/
def clockLines (bits : List Bool) : List SerialLines := bits.flatMap fun b => [activeLines false b, activeLines true b]

/-- The active lines of a clocked selection. -/
def selectedLines (bits : List Bool) : List SerialLines := activeLines false false :: clockLines bits ++ [activeLines false false]

theorem clockingBits_eq (bits : List Bool) : clockingBits bits = idleLines :: selectedLines bits ++ [idleLines] := by
  simp [clockingBits, selectedLines, clockLines]

theorem mem_selectedLines {bits : List Bool} {l : SerialLines} (h : l ∈ selectedLines bits) : l.sel = true ∧ l.reset = false := by
  simp only [selectedLines, clockLines, List.cons_append, List.mem_cons, List.mem_append, List.mem_flatMap, List.not_mem_nil,
    or_false] at h
  rcases h with h | ⟨b, _, h | h⟩ | h <;> subst h <;> exact ⟨rfl, rfl⟩

theorem selection_clockingBits (bits : List Bool) : selection (clockingBits bits) = selectedLines bits := by
  have h : (selectedLines bits ++ [idleLines]).takeWhile (fun l => l.sel) = selectedLines bits := by
    rw [List.takeWhile_append_of_pos fun l hl => (mem_selectedLines hl).1]
    simp [idleLines]
  have k : (idleLines :: selectedLines bits ++ [idleLines]).dropWhile (fun l => !l.sel) = selectedLines bits ++ [idleLines] := rfl
  rw [clockingBits_eq, selection, k, h]

/-- The port hears all of a clocked selection. -/
theorem heard_clockingBits (bits : List Bool) : heard (clockingBits bits) = selectedLines bits := by
  rw [heard, selection_clockingBits]
  refine List.takeWhile_eq_self_iff.2 fun l hl => ?_
  rw [(mem_selectedLines hl).2]
  rfl

theorem cutByReset_clockingBits (bits : List Bool) : cutByReset (clockingBits bits) = false := by
  rw [cutByReset, selection_clockingBits]
  exact List.any_eq_false.2 fun l hl => by rw [(mem_selectedLines hl).2]; decide

/-! ### Bits -/

theorem sampledBits_clockLines (bits : List Bool) (l : SerialLines) (sdi : Bool) (h : l.sck = false ∨ l.sck = true) :
    sampledBits (l :: clockLines bits ++ [activeLines false sdi]) = bits := by
  induction bits generalizing l with
  | nil => cases h <;> simp [clockLines, sampledBits, activeLines]
  | cons b bs ih =>
    have e := ih (activeLines true b) (Or.inr rfl)
    simp only [clockLines, List.flatMap_cons, List.cons_append, List.nil_append] at e ⊢
    rw [sampledBits, sampledBits, e]
    simp [activeLines]

/-- The bits clocked in a selection are the bits sampled (R191). -/
theorem sampledBits_clockingBits (bits : List Bool) : sampledBits (heard (clockingBits bits)) = bits := by
  rw [heard_clockingBits]
  exact sampledBits_clockLines bits _ _ (Or.inl rfl)

/-! ### Bytes -/

/-- The eight bits of a byte, most significant first. -/
theorem byteMsb_bits (b : Byte) : byteMsb ((List.range 8).map b.getMsbD) = b := by
  revert b
  decide

theorem wholeBytes_cons (b : Byte) (rest : List Bool) :
    wholeBytes ((List.range 8).map b.getMsbD ++ rest) = b :: wholeBytes rest := by
  have h := byteMsb_bits b
  have e : (List.range 8).map b.getMsbD = [b.getMsbD 0, b.getMsbD 1, b.getMsbD 2, b.getMsbD 3, b.getMsbD 4, b.getMsbD 5,
    b.getMsbD 6, b.getMsbD 7] := rfl
  rw [e] at h ⊢
  simp only [List.cons_append, List.nil_append, wholeBytes, h]

theorem wholeBytes_few (bits : List Bool) (h : bits.length < 8) : wholeBytes bits = [] := by
  unfold wholeBytes
  split
  · simp only [List.length_cons] at h; omega
  · rfl

/-- Bytes written out as bits come back whole, the bits of a partial byte left over (R192). -/
theorem wholeBytes_bitsOf (bytes : List Byte) (extra : List Bool) (h : extra.length < 8) :
    wholeBytes (bitsOf bytes ++ extra) = bytes := by
  induction bytes with
  | nil => exact wholeBytes_few extra h
  | cons b bs ih =>
    rw [bitsOf, List.flatMap_cons, List.append_assoc, wholeBytes_cons]
    exact congrArg _ ih

theorem length_bitsOf (bytes : List Byte) : (bitsOf bytes).length = 8 * bytes.length := by
  induction bytes with
  | nil => rfl
  | cons b bs ih => rw [bitsOf, List.flatMap_cons, List.length_append] ; simp only [bitsOf] at ih; rw [ih]; simp; omega

/-- Bit `k` of some bytes, most significant first. -/
theorem bitsOf_get (bytes : List Byte) (k : Nat) (h : k < 8 * bytes.length) :
    (bitsOf bytes)[k]? = (bytes[k / 8]?).map fun x => x.getLsbD (7 - k % 8) := by
  induction bytes generalizing k with
  | nil => simp at h
  | cons b bs ih =>
    rw [bitsOf, List.flatMap_cons]
    by_cases hk : k < 8
    · rw [List.getElem?_append_left (by simpa using hk)]
      have e : k / 8 = 0 := by omega
      rw [e]
      interval_cases k <;> simp [BitVec.getMsbD]
    · rw [List.getElem?_append_right (by simpa using hk)]
      have i := ih (k - 8) (by simp at h; omega)
      have e : k / 8 = (k - 8) / 8 + 1 := by omega
      have f : (k - 8) % 8 = k % 8 := by omega
      simp only [List.length_map, List.length_range]
      rw [show bs.flatMap (fun b => (List.range 8).map b.getMsbD) = bitsOf bs from rfl, i, e, f]
      rfl

/-- What the port clocks in of a selection that carries these bytes. -/
theorem clockedBytes_clocking (bytes : List Byte) : clockedBytes (clocking bytes) = bytes := by
  rw [clockedBytes, clocking, sampledBits_clockingBits, ← List.append_nil (bitsOf bytes)]
  exact wholeBytes_bitsOf bytes [] (by decide)

/-! ### SDO -/

theorem length_driven (bytes : List Byte) (n : Nat) (lines : List SerialLines) : (driven bytes n lines).length = lines.length := by
  induction lines generalizing n with
  | nil => rfl
  | cons a lines ih =>
    cases lines with
    | nil => rfl
    | cons b rest => rw [driven, List.length_cons, ih]; rfl

/-- SDO at a moment: the bit whose number is that of the falling edges of SCK so far (R191). -/
theorem driven_get (bytes : List Byte) (n : Nat) (sel rest : List SerialLines) (j : Nat) (h : j < sel.length) :
    (driven bytes n (sel ++ rest))[j]? =
      some (sentBit bytes (n + ((sel.zip sel.tail).take j).countP fun e => e.1.sck && !e.2.sck)) := by
  induction sel generalizing n j with
  | nil => simp at h
  | cons a sel ih =>
    match sel, rest, j with
    | [], [], j => obtain rfl : j = 0 := by simpa using h
                   simp [driven]
    | [], r :: rest, j => obtain rfl : j = 0 := by simpa using h
                          simp [driven]
    | b :: sel, rest, 0 => simp [driven]
    | b :: sel, rest, j + 1 =>
      have := ih (if a.sck && !b.sck then n + 1 else n) j (by simpa using h)
      simp only [List.cons_append] at this ⊢
      rw [driven, List.getElem?_cons_succ, this]
      simp only [List.tail_cons, List.zip_cons_cons, List.take_succ_cons, List.countP_cons]
      split
      · simp_all
        congr 1
        omega
      · simp_all

/-- A bit sent, by its place in its byte. -/
theorem sentBit_eq (bytes : List Byte) (n : Nat) :
    sentBit bytes n = match bytes[n / 8]? with | some b => b.getLsbD (7 - n % 8) | none => true := by
  have h : n % 8 < 8 := Nat.mod_lt _ (by decide)
  unfold sentBit
  rw [List.getD_eq_getElem?_getD]
  cases bytes[n / 8]? with
  | none => simp only [Option.getD_none]; interval_cases n % 8 <;> decide
  | some b => simp [BitVec.getMsbD, h]

end Sys2Proof.Machine
end

