-- ==== Sys2Proof/Laws/Taken.lean ====
section
/-! SUPPORT. Which commands the part takes, said once: what a taken command makes, and what one that is not taken leaves. -/

namespace Sys2Proof.Machine

/-! ### Taking -/

theorem State.take_of_takes {c : Instr} {s : State} (f : State → State) (h : s.takes c = true) : s.take c f = f s := if_pos h

theorem State.take_of_not {c : Instr} {s : State} (f : State → State) (h : s.takes c = false) : s.take c f = s := by
  rw [State.take, h]
  rfl

/-- A command that takes itself by `f` makes `f s`. Every `exec` arm unfolds to the premise by `rfl`. -/
theorem makes_of_take {c : Instr} {s : State} (f : State → State) (h : exec c s = .next (s.take c f)) : Makes c s (f s) :=
  fun k => by rw [h, State.take_of_takes f k]

theorem makes_of_eq {c : Instr} {s t : State} (f : State → State) (h : exec c s = .next (s.take c f)) (e : f s = t) :
    Makes c s t := e ▸ makes_of_take f h

theorem makesSome_of_take {c : Instr} {s : State} {P : State → Prop} (f : State → State)
    (h : exec c s = .next (s.take c f)) (p : P (f s)) : MakesSome c s P := fun k => ⟨_, makes_of_take f h k, p⟩

theorem Makes.some {c : Instr} {s t : State} {P : State → Prop} (h : Makes c s t) (p : P t) : MakesSome c s P :=
  fun k => ⟨t, h k, p⟩

/-- What a command leaves, taken or not. -/
theorem State.take_keeps {c : Instr} {s : State} {P : State → Prop} (f : State → State) (h : P s)
    (k : s.takes c = true → P (f s)) : P (s.take c f) := by
  unfold State.take
  split
  · exact k ‹_›
  · exact h

/-! ### Which commands are taken -/

theorem State.takes_fullReset (x : Option (BitVec 4)) (s : State) : s.takes (.fullReset x) = true := rfl

/-- An event is taken whenever RESET is high. -/
theorem State.takes_event {c : Instr} {s : State} (h : s.pins.resetLow = false) (k : c.isRequest = false) :
    s.takes c = true := by
  cases c <;> simp_all [State.takes, Instr.isRequest]

/-- A request is taken outside EXECUTING, and in it when it is the one on its way to its owner (R196). -/
theorem State.takes_request {c : Instr} {s : State} (h : s.pins.resetLow = false)
    (k : s.port.state ≠ .executing ∨ s.port.request = some c.sent) : s.takes c = true := by
  cases c <;> simp_all [State.takes, bne] <;> grind

/-- While RESET is held low nothing but a full reset is taken (R21). -/
theorem State.takes_held {c : Instr} {s : State} (h : s.pins.resetLow = true) (k : ∀ x, c ≠ .fullReset x) :
    s.takes c = false := by
  cases c <;> simp_all [State.takes]

/-! ### DEV_STATUS -/

/-- All that DEV_STATUS can do: gather while an owner is named that has not given its items, else answer (R205). -/
theorem devStatus_cases (later : List StatusOwner) (s : State) :
    (s.port.gathers = true ∧ (∃ o ∈ statusOwners, s.port.waitsFor later o = true) ∧ devStatus later s = s.gather later) ∨
      devStatus later s = s.answerStatus := by
  unfold devStatus
  split
  · rename_i h
    rw [Bool.and_eq_true, List.any_eq_true] at h
    exact Or.inl ⟨h.1, h.2, rfl⟩
  · exact Or.inr rfl

/-- DEV_STATUS that leaves no owner for later answers. -/
theorem devStatus_nil (s : State) : devStatus [] s = s.answerStatus := by
  simp [devStatus, Port.waitsFor]

/-- DEV_STATUS changes the port alone. -/
theorem devStatus_eq (later : List StatusOwner) (s : State) : devStatus later s = { s with port := (devStatus later s).port } := by
  rcases devStatus_cases later s with ⟨_, _, h⟩ | h <;> rw [h] <;> rfl

end Sys2Proof.Machine
end

