-- ==== Sys2Proof/Tests/Slice0.lean ====
section
/-! SUPPORT. Tests: ill-formed commands that the check refuses, the manual's worked bytes, small effects of single commands, and for each statement a state and operands that meet its hypotheses. -/

namespace Sys2Proof.Tests

open Sys2Proof Sys2Proof.Machine

-- one theorem at a time: each evaluation in the kernel would hold a thread of its own
set_option Elab.async false

/-! ### Well-formedness -/

theorem test_wf_requestFrame_no_byte : (Instr.requestFrame (clocking [])).wf = false := by decide +kernel
theorem test_wf_requestFrame_of_a_readFrame : (Instr.requestFrame (clocking [0, 1])).wf = false := by decide +kernel
theorem test_wf_requestFrame_two_selections :
    (Instr.requestFrame (clocking [1, 0, 0x15] ++ clocking [1])).wf = false := by decide +kernel
theorem test_wf_requestFrame_good : (Instr.requestFrame (clocking [1, 0, 0x15])).wf = true := by decide +kernel
theorem test_wf_readFrame_no_byte : (Instr.readFrame (clockingBits [false, false])).wf = false := by decide +kernel
theorem test_wf_readFrame_of_a_requestFrame : (Instr.readFrame (clocking [1])).wf = false := by decide +kernel
theorem test_wf_acceptedEdge_channel_twice : (Instr.acceptedEdge 3 [5, 3] 0 []).wf = false := by decide +kernel
theorem test_wf_acceptedEdge_taker_twice : (Instr.acceptedEdge 3 [5] 0 [.meter 1, .meter 1]).wf = false := by decide +kernel
theorem test_wf_windowExpiry_follower_twice : (Instr.windowExpiry 0 [2, 2]).wf = false := by decide +kernel
theorem test_wf_decConfig_params_missing : (Instr.decConfig 0 3 0 [(8, 0)] [0, 8]).wf = false := by decide +kernel
theorem test_wf_decConfig_too_long : (Instr.decConfig 0 1 0 (List.replicate 124 (0, 0)) []).wf = false := by decide +kernel
theorem test_wf_decConfig_longest : (Instr.decConfig 0 1 0 (List.replicate 123 (0, 0)) []).wf = true := by decide +kernel
theorem test_wf_paneSet_label_too_long :
    (Instr.paneSet 0 0 0 1 1 1 { n0 := 0, n1 := 0, n2 := 0, n3 := 0 } 0 (List.replicate 239 0x20) false).wf = false := by decide +kernel
theorem test_wf_ntcAck_of_a_watch : (Instr.ntcAckNotice 6 0).wf = false := by decide +kernel

/-! ### The worked bytes of chapters 10 and 11 -/

theorem test_frame_devIdent : frameOf (0x01, []) = [0x01, 0x00, 0x15] := by decide +kernel
theorem test_frame_tgtFind : frameOf (0x20, [0x00, 0x48]) = [0x20, 0x02, 0x00, 0x48, 0xE7] := by decide +kernel
theorem test_judge_tgtFind : judgeFrame [0x20, 0x02, 0x00, 0x48, 0xE7] 0 = .good (.tgtFind 0 0x48) := by decide +kernel
theorem test_response_tgtFind :
    responseBytes WatchUnit.reset .ok false [0x02, 0x03] = [0x00, 0x00, 0x02, 0x02, 0x03, 0xF5] := by decide +kernel

/-! ### Helpers -/

/-- The state a command answers. -/
def after (c : Instr) (s : State) : State :=
  match exec c s with
  | .next t => t
  | _ => s

/-- A pod in a state, its supply as the state gives it. -/
def podIn (st : PodState) (t : Option Transition) : Pod :=
  { Pod.reset true with state := st, present := st != .absent, supply := st.powered, transition := t }

/-- The reset state with pod 0 replaced. -/
def withPod0 (p : Pod) : State := { State.reset with pods := tab fun q => if q = 0 then p else Pod.reset false }

/-- The reset state with pod 0 LIVE. -/
def livePod0 : State := withPod0 (podIn .live none)

/-- The reset state with decoder 0 replaced. -/
def withDecoder0 (d : Decoder) (s : State) : State := { s with decoders := tab fun e => if e = 0 then d else s.decoders[e] }

/-- The reset state with meter 0 replaced. -/
def withMeter0 (m : Meter) (s : State) : State := { s with meters := tab fun n => if n = 0 then m else s.meters[n] }

/-- The meters of the reset state with another configuration in meter 0. -/
def configured (c : MeterConfig) (st : MeterState) : State := withMeter0 { Meter.reset with config := c, state := st } livePod0

/-- A DELAY meter with its channels on pod 0, which is LIVE. -/
def delayMeter (st : MeterState) : State := configured { MeterConfig.reset with mode := .delay, channelB := 1 } st

/-- The reset state with a unit that is derived afresh. -/
def withUnit (u : WatchUnit) (s : State) : State := { s with watch := u.derived }

/-- The unit with watch 0 replaced. -/
def unitWith0 (w : Watch) : WatchUnit := { WatchUnit.reset with watches := tab fun i => if i = 0 then w else Watch.reset }

/-- The reset state with a record in slot 0. -/
def withRecord0 (r : Record) : State :=
  { State.reset with
    store :=
      { slots := tab fun i => if i = 0 then { gen := 7, record := some r } else { gen := 0, record := none }
        free := 1024 - r.cells.length } }

/-- The reset state with pane 0 replaced. -/
def withPane0 (p : Pane) : State := { State.reset with display := { Display.reset with panes := tab fun i => if i = 0 then p else Pane.reset } }

/-- The reset state with another link. -/
def withPanel (p : Panel) : State := { State.reset with panel := p }

/-- The reset state with another port. -/
def withPort (p : Port) : State := { State.reset with port := p }

/-- A record with one cell. -/
def record1 : Record :=
  { Record.fresh 2 0x50 false false 5 with
    cells := [{ register := 4, value := some 9, origin := .read, changed := true, expected := some { value := 8, mask := 255 } }] }

/-- What a unit derives afresh is derived. -/
theorem derived_derived (u : WatchUnit) : u.derived.Derived := ⟨rfl, rfl, rfl, rfl⟩

/-- The notices of a state whose unit is derived and copies the marks. -/
theorem noticesOk_of (u : WatchUnit) (s : State) (h : s.watch = u.derived) (m : ∀ p : Fin 4, u.podFault.getLsbD p = s.pods[p].faultMark) :
    NoticesOk s := by
  refine ⟨?_, ?_⟩
  · rw [h]; exact derived_derived u
  · rw [h]; exact m

/-- The reset unit is derived. -/
theorem reset_derived : WatchUnit.reset = WatchUnit.reset.derived := by decide

/-- The reset notices are in order. -/
theorem noticesOk_reset : NoticesOk State.reset := noticesOk_of WatchUnit.reset _ reset_derived (by decide)

/-- The store of a state with one record has everything in order when its cells have. -/
theorem storeOk_withRecord0 (r : Record) (h : r.CellsOk)
    (pool : (withRecord0 r).store.free + (withRecord0 r).store.cellsHeld = 1024) : StoreOk (withRecord0 r) := by
  have slot : ∀ (i : Fin 64) (a : Record), (withRecord0 r).store.slots[i].record = some a → i = 0 ∧ a = r := by
    intro i a e
    simp only [withRecord0, tab_get] at e
    by_cases hi : i = 0
    · simp only [if_pos hi, Option.some.injEq] at e; exact ⟨hi, e.symm⟩
    · simp only [if_neg hi, reduceCtorEq] at e
  refine ⟨?_, pool, ?_⟩
  · intro i a e; rw [(slot i a e).2]; exact h
  · intro i j a b ei ej _ _; rw [(slot i a ei).1, (slot j b ej).1]

/-- A record with one cell is in order. -/
theorem record1_ok : record1.CellsOk := ⟨by decide, by simp [record1]⟩

/-- The reset store is in order. -/
theorem storeOk_reset : StoreOk State.reset := by
  refine ⟨?_, by decide +kernel, ?_⟩
  · intro i a e; simp [State.reset, State.resetWith, Store.reset] at e
  · intro i j a b e; simp [State.reset, State.resetWith, Store.reset] at e

/-- The record of slot `i` in a full store. -/
def fullSlot (declared : Bool) (i : Fin 64) : Slot := { gen := 0, record := some (Record.fresh 0 (byte i) declared false 0) }

/-- The reset state with every slot LIVE. -/
def fullStore (declared : Bool) : State := { State.reset with store := { slots := tab (fullSlot declared), free := 1024 } }

/-- The full store is in order. -/
theorem storeOk_full (declared : Bool) : StoreOk (fullStore declared) := by
  have slot : ∀ (i : Fin 64) (a : Record), (fullStore declared).store.slots[i].record = some a →
      a = Record.fresh 0 (byte i) declared false 0 := by
    intro i a e
    simp only [fullStore, tab_get, fullSlot, Option.some.injEq] at e
    exact e.symm
  refine ⟨?_, by cases declared <;> decide +kernel, ?_⟩
  · intro i a e; rw [slot i a e]; exact ⟨by simp [Record.fresh], by simp [Record.fresh]⟩
  · intro i j a b ei ej _ h
    rw [slot i a ei, slot j b ej] at h
    have h' : (byte i.val).toNat = (byte j.val).toNat := congrArg BitVec.toNat h
    simp only [byte, BitVec.toNat_ofNat] at h'
    have := i.isLt; have := j.isLt
    exact Fin.ext (by omega)

/-- A display whose only pane that is not FREE lies in the grid, over a blank grid. -/
theorem displayOk_withPane0 (p : Pane) (h : p.rect.InGrid) : DisplayOk (withPane0 p) := by
  have own : (withPane0 p).display.panes[(0 : Fin 16)] = p := by simp only [withPane0, tab_get, if_true]
  have other : ∀ i : Fin 16, i ≠ 0 → (withPane0 p).display.panes[i] = Pane.reset := by
    intro i hi; simp only [withPane0, tab_get, if_neg hi]
  refine ⟨?_, ?_, ?_⟩
  · intro i
    by_cases hi : i = 0
    · rw [hi, own]; exact h
    · rw [other i hi]; exact ⟨by decide, by decide, by decide, by decide⟩
  · intro i j hij hi hj
    by_cases h0 : i = 0
    · subst h0; rw [other j (Ne.symm hij)] at hj; exact absurd rfl hj
    · rw [other i h0] at hi; exact absurd rfl hi
  · intro row col _; show blankGrid[row][col] = _; simp [blankGrid]

/-! ### Small effects of single commands -/

theorem test_tgtFind_handle :
    (after (.tgtFind 2 0x50) (withRecord0 record1)).port.answer = some { status := .ok, payload := [7, 0] } := by decide +kernel
theorem test_tgtDeclare_lowest_slot :
    (after (.tgtDeclare 1 0x22 1) (withRecord0 record1)).port.answer = some { status := .ok, payload := [0, 1] } := by
  decide +kernel
theorem test_podGo_starts_ramp :
    (after (.podGo 1) (withPod0 { podIn .off none with requested := .live })).pods[(0 : Fin 4)].transition
      = some { dest := .live, stage := .ramping, endsAt := 500000 } := by decide +kernel
theorem test_fault_freezes : (after (.overcurrent 0) livePod0).watch.freeze = true := by decide +kernel
theorem test_millisecond_wraps :
    (after .millisecondTick { State.reset with clock := { Clock.reset with ms := 0xFFFFFFFF } }).clock.ms = 0 := by decide +kernel
theorem test_edge_starts_period :
    (after (.acceptedEdge 0 [] 77 []) (withMeter0 { Meter.reset with state := .armed none } livePod0)).meters[(0 : Fin 8)].state
      = .timing 77 := by decide +kernel
theorem test_burst_time : (Rate.mhz16).burstTime = 10125 := by decide
theorem test_time_texts :
    timeText (4 * 249) = codes ['9', '9', '6', '.', '0', 'n', 's'] ∧ timeText (4 * 5000) = codes ['2', '0', '.', '0', '0', 'u', 's'] ∧
      timeText (4 * 4294967295) = codes ['1', '7', '.', '1', '7', 's'] := by decide +kernel

/-- A frame of DEV_IDENT, its bits on the lines, puts the request on its way, and the empty queue then takes it to its owner. -/
theorem test_frame_routes_devIdent :
    let s := after (.requestFrame (clocking [0x01, 0x00, 0x15])) State.reset;
    s.port.state = .executing ∧ s.port.request = some .devIdent ∧ s.due = some .devIdent ∧
      (after .devIdent s).due = some .answer := by decide +kernel

/-- SDO carries NO_RESPONSE, most significant bit first after 0xFF, and is not driven outside the selection (R192, R198). -/
theorem test_sdo_no_response :
    let sdo := (after (.readFrame (clocking [0, 0])) State.reset).port.sdo;
    sdo.head? = some none ∧ sdo.getLast? = some none ∧ sdo[2]? = some (some true) ∧ sdo[18]? = some (some false) ∧
      sdo[32]? = some (some true) := by decide +kernel

/-- While RESET is low a request does nothing, and the end of the reset senses the pods. -/
theorem test_reset_low :
    let s := after (.fullReset none) State.reset;
    s.pins.resetLow = true ∧ (after .devIdent s).port.answer = none ∧
      (after (.fullReset (some 4)) s).pods[(2 : Fin 4)].state = .off := by decide +kernel

/-- A stop edge and a start edge of one stamp leave a DELAY meter the same, whichever the command names first (R107). -/
theorem test_delay_stop_and_start :
    let s := delayMeter (.timing 5)
    let orders := [[(0 : Fin 32), 1], [1, 0]].map fun o => match o with
      | c :: also => (after (.acceptedEdge c also 9 []) s).meters[(0 : Fin 8)]
      | [] => Meter.reset;
    orders.head? = orders.getLast? ∧ (orders.head?).map Meter.state = some (.armed (some 9)) := by decide +kernel

/-- An edge of a single-shot gate's expiry stamp, the expiry and the gate's next start at that sample leave the follower the same, in every order of the edge among the other two (R113). -/
theorem test_edge_expiry_start :
    let gate : Meter := { Meter.reset with config := { MeterConfig.reset with mode := .gate, window := 1, singleShot := true }, state := .windowOpen 0 }
    let follower : Meter := { Meter.reset with config := { MeterConfig.reset with mode := .count, gate := 0 }, state := .counting 0 0 none }
    let s : State := { livePod0 with meters := tab fun m => if m = 0 then gate else if m = 1 then follower else Meter.reset }
    let edge := Instr.acceptedEdge 0 [] 250 []
    let expiry := Instr.windowExpiry 0 []
    let run := fun cs : List Instr => ((cs.foldl (fun s c => after c s) s).meters[(1 : Fin 8)]).state;
    run [edge, expiry, .mtrStart 0] = .counting 250 1 none ∧ run [expiry, edge, .mtrStart 0] = .counting 250 1 none ∧
      run [expiry, .mtrStart 0, edge] = .counting 250 1 none := by decide +kernel

/-- A pod down between the reading of the pods and that of the decoders: DEV_STATUS shows the pod LIVE and its decoder SUSPENDED (R205). -/
theorem test_status_across_a_pod_down :
    let s := { withDecoder0 { Decoder.reset with params := .twoWire, bindings := [⟨.clock, 0⟩, ⟨.data, 1⟩], state := .idle } livePod0 with
      port := { Port.reset with state := .executing, request := some (.devStatus []) } }
    let u := after (.devStatus []) (after (.removal 0) (after (.devStatus [.decoderBank]) s));
    (u.port.answer.map fun a => (a.payload[13]?, a.payload[17]?)) = some (some 5, some 1) ∧ u.port.gathered = [] := by decide +kernel

/-- A high LBUSY at the test that PNL_ENABLE leads to starts the wait, a low one a burst (R181, R188). -/
theorem test_pnlEnable_reads_lbusy :
    (after (.pnlEnable 1 4 true) State.reset).panel.link = .waiting ∧
      (after (.pnlEnable 1 4 false) State.reset).panel.link = .sending := by decide +kernel

/-! ### The hypotheses of the statements are met

One theorem for each statement that has hypotheses, a conjunct for each of its clauses. `Makes` and `MakesSome` have one more, that the part takes the command: it does in every state whose port and RESET are those of reset. -/

/-- The part takes every command outside a reset with the port not EXECUTING, and in EXECUTING the request on its way. -/
theorem test_takes_met (c : Instr) :
    (∀ s : State, s.port.state ≠ .executing → s.pins.resetLow = false → s.takes c = true) ∧
      (withPort { Port.reset with state := .executing, request := some c.sent }).takes c = true := by
  refine ⟨fun s h r => State.takes_request r (Or.inl h), State.takes_request rfl (Or.inr rfl)⟩

theorem test_StepRunsFront_met : ({ State.reset with pending := [.answer] } : State).pending = [.answer] := rfl

/-- The reset state with RESET held low. -/
def heldLow : State := { State.reset with pins := { State.reset.pins with resetLow := true } }

theorem test_TimePasses_met :
    State.reset.pending = [] ∧ State.reset.due = none ∧ State.reset.pins.resetLow = false ∧
      ({ State.reset with clock := { Clock.reset with now := 250000 } } : State).due = some .millisecondTick ∧
      heldLow.pins.resetLow = true ∧ livePod0.podLive (podOf 0) = true ∧
      (let s : State := { livePod0 with pins := { livePod0.pins with levels := 1 } };
        s.due = none ∧ s.pins.resetLow = false ∧ s.changing = [0]) ∧
      (Channel.reset.afterSample false).accepted = Channel.reset.accepted ∧
      (Channel.reset.afterSample true).accepted ≠ Channel.reset.accepted ∧
      State.reset.podLive (podOf 0) = false := by decide +kernel

/-- A port that executes this request. -/
def executing (i : Instr) : State := withPort { Port.reset with state := .executing, request := some i }

theorem test_TakenCommands_met :
    (Instr.devIdent.wf = true ∧ requestOf .devIdent = requestOf .devIdent ∧ Instr.devIdent.isRequest = true) ∧
      (heldLow.pins.resetLow = true ∧ ¬ ∃ sense, Instr.answer = .fullReset sense) ∧
      (Instr.devIdent.isRequest = true ∧ (executing (.devStatus [])).port.state = .executing ∧
        (executing (.devStatus [])).port.request ≠ some Instr.devIdent.sent) ∧
      (Instr.devIdent.sent ≠ .devStatus [] ∧ (Instr.devStatus [.decoderBank]).sent = .devStatus []) ∧
      (executing (.devStatus [])).due = some (.devStatus []) ∧
      (let s := withPort { Port.reset with state := .executing, answer := some { status := .ok, payload := [] } };
        s.port.state = .executing ∧ s.port.request = none ∧ s.port.answer ≠ none ∧ s.due = some .answer) ∧
      State.reset.due = none :=
  ⟨by decide +kernel, ⟨rfl, nofun⟩, by decide +kernel, by decide +kernel, by decide +kernel, by decide +kernel, by decide +kernel⟩

theorem test_DevRestart_met : State.reset.takes .devRestart = true ∧ (executing .devRestart).takes .devRestart = true := by
  decide +kernel

/-- Seven bits of a partial byte, a rising edge and none, a selection between idle lines, a moment in which SDO is not driven, and the last moment of an active one. -/
theorem test_SerialBits_met :
    (List.replicate 7 true).length < 8 ∧
      ((activeLines false true).sck = false ∧ (activeLines true true).sck = true ∧ idleLines.sck = false) ∧
      ((∀ l ∈ [idleLines], l.sel = false) ∧ (∀ l ∈ [activeLines false false, { activeLines true true with reset := true }], l.sel = true) ∧
        (∃ l ∈ [activeLines false false, { activeLines true true with reset := true }], l.reset = true) ∧
        (∀ l ∈ [activeLines false false], l.reset = false)) ∧
      ((clocking [1])[0]? = some idleLines ∧ idleLines.sel = false ∧ oneSelection (clocking [1]) = true) ∧
      (clocking [1] = [idleLines] ++ ((clocking [1]).drop 1).take 18 ++ [idleLines] ∧
        (∀ l ∈ ((clocking [1]).drop 1).take 18, l.sel = true ∧ l.reset = false) ∧ (((clocking [1]).drop 1).take 18).length = 18) ∧
      7 < [true, true, true, true, true, true, true, false].length := by decide +kernel

theorem test_FrameRoutesItsRequest_met :
    (Instr.tgtFind 0 0x48).wf = true ∧ requestOf (.tgtFind 0 0x48) = some (0x20, [0x00, 0x48]) ∧
      clockedBytes (clocking (frameOf (0x20, [0x00, 0x48]))) = frameOf (0x20, [0x00, 0x48]) ∧
      partialBits (clocking (frameOf (0x20, [0x00, 0x48]))) = 0 ∧ cutByReset (clocking (frameOf (0x20, [0x00, 0x48]))) = false ∧
      State.reset.port.state ≠ .executing := by
  decide +kernel

theorem test_GoodFrameIsItsRequest_met : judgeFrame [0x01, 0x00, 0x15] 0 = .good .devIdent := by decide +kernel

/-- Lines with no whole byte, a selection that RESET cuts after a byte, a partial byte; no request has the code 0x05, and DEV_IDENT has no parameters. -/
theorem test_BadFrameAnswered_met :
    (clockedBytes (clockingBits (List.replicate 7 true)) = [] ∧ partialBits (clockingBits (bitsOf [1, 0, 0x15] ++ [true])) = 1 ∧
      clockedBytes (clocking [1]) = [1] ∧
      (let cut := clocking [1] |>.dropLast |>.concat { activeLines false false with reset := true };
        clockedBytes cut = [1] ∧ cutByReset cut = true)) ∧
      (executing .devIdent).port.state = .executing ∧ State.reset.port.state ≠ .executing ∧
      (250 < (251 : Byte).toNat ∧ [(0x15 : Byte)].length ≠ (1 : Byte).toNat + 1) ∧
      ((250 : Byte).toNat ≤ 250 ∧ crc8 [0x01, 0x00, 0x14] ≠ 0) ∧
      (crc8 (frameOf (0x05, [])) = 0 ∧ ∀ i r, requestOf i = some r → r.1 ≠ 0x05) ∧
      (crc8 (frameOf (0x01, [0])) = 0 ∧ (∃ i r, requestOf i = some r ∧ r.1 = 0x01) ∧
        ∀ i, i.wf = true → requestOf i ≠ some (0x01, [0])) := by
  refine ⟨by decide +kernel, by decide, by decide, by decide, by decide +kernel, ⟨by decide +kernel, ?_⟩,
    ⟨by decide +kernel, ⟨.devIdent, _, rfl, rfl⟩, ?_⟩⟩
  · intro i r h
    cases i <;> simp only [requestOf, reduceCtorEq, Option.some.injEq] at h <;> subst h <;> simp
  · intro i _ h
    cases i <;> simp [requestOf] at h

theorem test_ReadFrameAndAnswer_met :
    clockedBytes (clocking [0, 0]) = [0, 0] ∧
      (∃ r, (withPort { Port.reset with state := .answered, buffer := some r }).port.buffer = some r ∧ r.status = .ok) ∧
      State.reset.port.state ≠ .answered ∧
      (∃ a, (withPort { Port.reset with state := .executing, answer := some a }).port.answer = some a ∧ a.status = .ok) ∧
      State.reset.port.answer = none :=
  ⟨by decide +kernel, ⟨{ status := .ok, overrun := false, payload := [] }, rfl, rfl⟩, by decide,
    ⟨{ status := .ok, payload := [] }, rfl, rfl⟩, rfl⟩

/-- Every notice can be current; a DEV_STATUS that a frame brought, with an owner that gives its items later and with none, and one that no frame brought. -/
theorem test_DeviceReads_met (n : Notice) :
    (∃ s : State, s.watch.current = n) ∧ [(0 : Byte)] ≠ [] ∧
      ((executing (.devStatus [])).port.state = .executing ∧ (executing (.devStatus [])).port.request = some (.devStatus []) ∧
        statusOwners.any ((executing (.devStatus [])).port.waitsFor [.decoderBank]) = true ∧
        statusOwners.any ((executing (.devStatus [])).port.waitsFor []) = false) ∧
      State.reset.port.state ≠ .executing :=
  ⟨⟨{ State.reset with watch := { WatchUnit.reset with current := n } }, rfl⟩, by decide, by decide +kernel, by decide⟩

theorem test_PodRefusalsAndRead_met :
    (4 ≤ (4 : Byte).toNat ∧ (2 : Byte) ≠ 1 ∧ (2 : Byte) ≠ 4 ∧ (2 : Byte) ≠ 5 ∧ 132 < (133 : Byte).toNat) ∧ 16 ≤ (16 : Byte).toNat ∧
      ((withPod0 (podIn .ramping none)).pods[(0 : Fin 4)]).state.moving = true ∧
      ((withPod0 { podIn .off none with faultMark := true }).pods[(0 : Fin 4)]).faultMark = true ∧
      ((withPod0 { podIn .off none with faultMark := true }).pods[(0 : Fin 4)]).state.moving = false ∧
      (livePod0.pods[(0 : Fin 4)]).transition = none ∧ (3 : Byte).toNat = (3 : Fin 4) := by decide +kernel

/-- The notices of the reset state with pod 0 replaced. -/
theorem noticesOk_withPod0 (p : Pod) (h : p.faultMark = false) : NoticesOk (withPod0 p) := by
  refine noticesOk_of WatchUnit.reset _ reset_derived fun q => ?_
  simp only [withPod0, tab_get]
  by_cases hq : q = 0
  · rw [if_pos hq, h]; simp [WatchUnit.reset]
  · rw [if_neg hq]; simp [WatchUnit.reset, Pod.reset]

/-- The notices of a state whose unit and pods are those of reset. -/
theorem noticesOk_same (s : State) (u : s.watch = WatchUnit.reset) (p : s.pods = State.reset.pods) : NoticesOk s := by
  refine noticesOk_of WatchUnit.reset _ (u.trans reset_derived) fun q => ?_
  rw [p]; revert q; decide

theorem test_PodSetStores_met :
    NoticesOk livePod0 ∧ (0 : Byte).toNat = (0 : Fin 4) ∧ (132 : Byte).toNat ≤ 132 ∧ (7 : Byte).toNat ≤ 7 :=
  ⟨noticesOk_withPod0 _ rfl, by decide⟩

theorem test_PodGoStarts_met :
    (15 : Byte).toNat < 16 ∧ NoticesOk livePod0 ∧
      ∀ p : Fin 4, (15 : Byte).getLsbD p = true → (livePod0.pods[p]).state.moving = false ∧ (livePod0.pods[p]).faultMark = false :=
  ⟨by decide, noticesOk_withPod0 _ rfl, by decide +kernel⟩

theorem test_PodPresence_met :
    NoticesOk State.reset ∧ (State.reset.pods[(0 : Fin 4)]).state = .absent ∧ (State.reset.pods[(0 : Fin 4)]).insertion = none ∧
      NoticesOk (withPod0 { podIn .absent none with insertion := some 9 }) ∧
      ((withPod0 { podIn .absent none with insertion := some 9 }).pods[(0 : Fin 4)]).insertion = some 9 ∧
      NoticesOk livePod0 ∧ (livePod0.pods[(0 : Fin 4)]).state ≠ .absent :=
  ⟨noticesOk_reset, by decide, by decide, noticesOk_withPod0 _ rfl, by decide, noticesOk_withPod0 _ rfl, by decide⟩

theorem test_Fault_met :
    NoticesOk livePod0 ∧ (livePod0.pods[(0 : Fin 4)]).state ≠ .off ∧ (livePod0.pods[(0 : Fin 4)]).state ≠ .absent ∧
      NoticesOk State.reset ∧ (State.reset.pods[(0 : Fin 4)]).state = .absent :=
  ⟨noticesOk_withPod0 _ rfl, by decide, by decide, noticesOk_reset, by decide⟩

/-- Each stage can be in flight, and none can be; a pod up makes the bound pods of a SUSPENDED decoder LIVE. -/
theorem test_PodExpiries_met (stage : Stage) (dest : PodTarget) :
    (∃ s t, NoticesOk s ∧ s.pods[(0 : Fin 4)].transition = some t ∧ t.stage = stage ∧ t.dest = dest) ∧
      (∀ t, (State.reset.pods[(0 : Fin 4)]).transition = some t → t.stage ≠ stage) ∧
      (let dec : Decoder := { Decoder.reset with params := .twoWire, state := .suspended, bindings := [⟨.clock, 0⟩, ⟨.data, 1⟩] }
        let up := withDecoder0 dec livePod0;
        dec.usesPod 0 = true ∧ dec.state = .suspended ∧ up.boundPodsLive dec = true ∧
          dec.bindings.filter (fun b => b.role == .data) = [{ role := .data, channel := 1 }] ∧
          State.reset.boundPodsLive dec = false) :=
  ⟨⟨withPod0 (podIn stage.state (some { dest, stage, endsAt := 9 })), _, noticesOk_withPod0 _ rfl, rfl, rfl, rfl⟩,
    (fun t h => by cases h), by decide +kernel⟩

/-! #### Edges -/

/-- Parameters of CLOCKED. -/
def clockedParams : ClockedParams :=
  { idleHigh := false, sampleSecond := false, lsbFirst := false, activeHigh := true, selectCount := 2, readZero := false }

/-- Parameters of ASYNC. -/
def asyncParams (addressBit : Bool) (parity : Parity) : AsyncParams :=
  { bitTime := 8, addressBit, parity, twoStops := false, idleGap := 1, inverted := false, fixedAddress := 0x11 }

/-- A staging with these bits, and a receiver that has seen an edge or not. -/
def receiving (bits : List Bool) (edgeSeen : Bool) (address pointer : Option Byte) : Staging :=
  { Staging.fresh with bits, address, direction := address.map fun _ => .write, pointerSet := pointer
                       receiver := some { start := 100, edgeSeen } }

/-- A BUSY decoder with this staging, its lines at one level, bound to the first channels. -/
def busyDecoder (ps : Params) (st : Staging) (high : Bool) : Decoder :=
  { Decoder.reset with
    params := ps, bindings := ps.roles.zipWith Binding.mk [0, 1, 2, 3, 4, 5, 6], state := .busy, timer := some 200
    staging := some st, view := Vector.replicate 9 high }

/-- The reset state with decoder 0 BUSY. -/
def busyState (ps : Params) (st : Staging) (high : Bool) : State := withDecoder0 (busyDecoder ps st high) State.reset

/-- It has its notices in order. -/
theorem noticesOk_busyState (ps : Params) (st : Staging) (high : Bool) : NoticesOk (busyState ps st high) :=
  noticesOk_same _ rfl rfl

theorem test_AcceptedEdge_met :
    ([(0 : Fin 32), 1] : List (Fin 32)).Nodup ∧
      (∀ c : Fin 32, State.reset.podLive (podOf c) = false) ∧
      (livePod0.podLive (podOf 0) = true ∧
        ((livePod0.channels[(0 : Fin 32)]).afterSample true).accepted = !(livePod0.channels[(0 : Fin 32)]).accepted) ∧
      ((busyDecoder .twoWire Staging.fresh true).params = .twoWire ∧
        (busyDecoder (.clocked clockedParams) Staging.fresh true).params = .clocked clockedParams ∧
        (busyDecoder (.async (asyncParams false .none)) Staging.fresh true).params = .async (asyncParams false .none)) ∧
      ((livePod0.decoders[(0 : Fin 6)]).state = .stopped ∧ (livePod0.decoders[(0 : Fin 6)]).params = .none ∧
        (livePod0.decoders[(0 : Fin 6)]).view[(0 : Fin 9)] = false) := by decide +kernel

/-- A decoder at each slot of a byte, with an edge of each kind: a rise, a start and a stop condition, and others. -/
theorem test_TwoWireEdges_met (st : Staging) (high : Bool) :
    (let s := busyState .twoWire st high
      let dec := s.decoders[(0 : Fin 6)];
      NoticesOk s ∧ dec.params = .twoWire ∧ dec.state = .busy ∧ dec.staging = some st ∧
        dec.view[Role.clock.code] = high ∧ dec.view[Role.data.code] = high ∧ (!high) ≠ high) ∧
      ({ busyDecoder .twoWire st high with state := .idle } : Decoder).state = .idle ∧
      (let slot := fun n : Nat => if 9 ≤ n then 1 else n + 1;
        slot 6 < 8 ∧ slot 7 = 8 ∧ slot 8 = 9 ∧ slot 9 = 1 ∧ (1 : Nat) ≤ 1 ∧ 2 ≤ (2 : Nat)) ∧
      (Staging.fresh.addressByte = true ∧ ({ Staging.fresh with addressByte := false } : Staging).addressByte = false ∧
        Staging.fresh.taking = true ∧ ({ Staging.fresh with taking := false } : Staging).taking = false ∧
        Staging.fresh.pointerSet = none ∧ ({ Staging.fresh with pointerSet := some 1 } : Staging).pointerSet ≠ none ∧
        Staging.fresh.address = none ∧ ({ Staging.fresh with direction := some .read } : Staging).direction = some .read) :=
  ⟨⟨noticesOk_busyState _ _ _, rfl, rfl, rfl, by simp [busyState, busyDecoder, withDecoder0], by simp [busyState, busyDecoder, withDecoder0],
    by cases high <;> decide⟩, rfl, by decide, by decide⟩

/-- A decoder with a byte short of a bit and one short of none, the select of its transaction and another. -/
theorem test_ClockedEdges_met (st : Staging) (high : Bool) :
    (let s := busyState (.clocked clockedParams) st high
      let dec := s.decoders[(0 : Fin 6)];
      NoticesOk s ∧ dec.params = .clocked clockedParams ∧ dec.state = .busy ∧ dec.staging = some st ∧
        dec.view[Role.clock.code] = high ∧ (!high) ≠ high) ∧
      (Role.select0 = selectRole 0 ∧ (∀ k : Fin 4, Role.clock ≠ selectRole k) ∧ true = clockedParams.activeHigh) ∧
      (Role.clock = .clock ∧ (true ≠ clockedParams.idleHigh ↔ clockedParams.sampleSecond = false)) ∧
      ((List.replicate 6 true ++ [true]).length < 8 ∧ 8 ≤ (List.replicate 7 true ++ [true]).length) ∧
      (Staging.fresh.direction = none ∧ some (byte (0 : Fin 4)) ≠ some (byte (1 : Fin 4))) :=
  ⟨⟨noticesOk_busyState _ _ _, rfl, rfl, rfl, by simp [busyState, busyDecoder, withDecoder0], by cases high <;> decide⟩, by decide,
    by decide, by decide, by decide⟩

/-- With 10 positions: 9 bits while the break test waits; a start edge before the end of the idle gap, and one at it. -/
theorem test_AsyncEdges_met (st : Staging) (high : Bool) :
    let p := asyncParams false .none
    let s := busyState (.async p) st high
    let dec := s.decoders[(0 : Fin 6)];
    NoticesOk s ∧ dec.params = .async p ∧ dec.state = .busy ∧ dec.staging = some st ∧ dec.timer = some 200 ∧
      dec.view[Role.line.code] = high ∧ (!high) ≠ high ∧ (receiving [] false none none).receiver = some { start := 100, edgeSeen := false } ∧
      p.positions = 10 ∧ p.positions ≤ (List.replicate 9 true).length + 1 ∧ (List.replicate 8 true).length + 1 < p.positions ∧
      Staging.fresh.receiver = none ∧ (199 : Nat) < 200 :=
  ⟨noticesOk_busyState _ _ _, rfl, rfl, rfl, rfl, by simp [busyState, busyDecoder, withDecoder0], by cases high <;> decide, rfl, rfl,
    by decide, by decide, rfl, by decide⟩

/-- A meter in each state, with an edge that starts it in each mode; the stamps where a window opens and expires, and that of the overrange. -/
theorem test_MeterEdges_met (st : MeterState) :
    ((delayMeter st).meters[(0 : Fin 8)]).state = st ∧
      (let c := (delayMeter st).meters[(0 : Fin 8)].config;
        c.mode = .delay ∧ c.startSource = .channelA ∧ c.channelA = 0 ∧ c.channelB = 1) ∧
      ((delayMeter (.armed (some 9))).podLive (podOf 0) = true ∧ (delayMeter (.armed (some 9))).podLive (podOf 1) = true ∧
        ∀ stop, some 9 = some stop → stop < 10) ∧
      (MeterConfig.reset.mode = .period ∧ MeterConfig.reset.channelA = 0 ∧ MeterConfig.reset.startEdge = .rising ∧
        (5 : Fin 32) ≠ MeterConfig.reset.channelA) ∧
      (let c := { MeterConfig.reset with mode := .count, gate := 0 };
        c.mode = .count ∧ (State.reset.meters[c.gate]).config.window = 1000 ∧ 4 + 1000 * 250 = 250004) ∧
      (4 + 4294967296 ≤ 4294967300 ∧ (0 : Fin 32) ≠ 1) := by
  refine ⟨by simp [delayMeter, configured, withMeter0], by simp [delayMeter, configured, withMeter0, MeterConfig.reset], ⟨by decide +kernel, by decide +kernel, ?_⟩,
    by decide, by decide +kernel, by decide⟩
  intro stop h
  injection h with h
  omega

/-- In every timing mode some edge ends a measurement, and one of the start stamp does not. -/
theorem test_MeasurementEnds_met :
    let s := withMeter0 { Meter.reset with state := .timing 5 } State.reset;
    (s.meters[(0 : Fin 8)]).state = .timing 5 ∧ (s.meters[(0 : Fin 8)]).config.mode = .period ∧
      (s.meters[(0 : Fin 8)]).config.startEdge.selects true = true ∧ (5 : Nat) < 6 ∧ (6 : Nat) < 5 + 4294967296 := by decide +kernel

/-! #### Decoders -/

theorem test_DecConfig_met :
    ((3 : Nat) ≤ 4 ∧ clockedParams.selectCount ≤ 4) ∧
      (6 : Byte).toNat ≥ 6 ∧ (5 : Byte).toNat = (5 : Fin 6) ∧ (State.reset.decoders[(5 : Fin 6)]).state = .stopped ∧
      ((withDecoder0 { Decoder.reset with state := .idle } State.reset).decoders[(0 : Fin 6)]).state ≠ .stopped ∧
      params? 4 [] = none ∧ params? 1 [] = some .twoWire ∧ learn? 0 = some .auto ∧
      bindings? [(0, 0), (1, 1)] = some [⟨.clock, 0⟩, ⟨.data, 1⟩] ∧
      goodBindings .twoWire [⟨.clock, 0⟩, ⟨.data, 1⟩] = true ∧ bindings? [(0, 0), (1, 0)] = some [⟨.clock, 0⟩, ⟨.data, 0⟩] ∧
      goodBindings .twoWire [⟨.clock, 0⟩, ⟨.data, 0⟩] = false := by decide +kernel

theorem test_DecStartStopRead_met :
    let dec : Decoder := { Decoder.reset with params := .twoWire, bindings := [⟨.clock, 0⟩, ⟨.data, 1⟩] };
    (6 : Byte).toNat ≥ 6 ∧ (State.reset.decoders[(0 : Fin 6)]).params = .none ∧ (State.reset.decoders[(0 : Fin 6)]).state = .stopped ∧
      dec.params ≠ .none ∧ ({ dec with state := .idle } : Decoder).state ≠ .stopped ∧
      (dec.state = .stopped ∧ ∃ b ∈ dec.bindings, ((withDecoder0 dec State.reset).pods[podOf b.channel]).state ≠ .live) ∧
      (∀ b ∈ dec.bindings, ((withDecoder0 dec livePod0).pods[podOf b.channel]).state = .live) ∧
      dec.bindings.filter (fun b => b.role == .data) = [{ role := .data, channel := 1 }] ∧
      ((busyState .twoWire Staging.fresh true).decoders[(0 : Fin 6)]).state = .busy := by decide +kernel

/-- The decoders of a state whose decoder 0 is as the rules leave it, the others at reset. -/
theorem decodersOk_withDecoder0 (dec : Decoder) (h : dec.Ok) : DecodersOk (withDecoder0 dec State.reset) := by
  intro d
  by_cases hd : d = 0
  · subst hd
    simpa [withDecoder0] using h
  · have e : (withDecoder0 dec State.reset).decoders[d] = Decoder.reset := by
      simp [withDecoder0, if_neg hd, State.reset, State.resetWith]
    rw [e]
    exact ⟨by decide, nofun, by decide, nofun⟩

/-- A decoder in SYNCING whose timer runs. -/
def syncing (ps : Params) (high : Bool) : Decoder :=
  { Decoder.reset with params := ps, state := .syncing, timer := some 9, view := Vector.replicate 9 high }

theorem test_SyncingEnds_met :
    (∀ k : Fin 4, k < clockedParams.selectCount →
        (syncing (.clocked clockedParams) false).view[(selectRole k).code] = !clockedParams.activeHigh) ∧
      (∃ k : Fin 4, k < clockedParams.selectCount ∧
        (syncing (.clocked clockedParams) true).view[(selectRole k).code] = clockedParams.activeHigh) ∧
      (DecodersOk (withDecoder0 (syncing .twoWire true) State.reset) ∧ (syncing .twoWire true).params = .twoWire ∧
        (syncing .twoWire true).state = .syncing ∧ (syncing .twoWire true).timer = some 9) ∧
      (DecodersOk (withDecoder0 (syncing (.async (asyncParams false .none)) true) State.reset) ∧
        true ≠ (asyncParams false .none).inverted ∧ false = (asyncParams false .none).inverted) ∧
      (syncing .twoWire true).view[Role.data.code] ≠ false ∧ Decoder.reset.params ≠ .twoWire :=
  ⟨by decide, by decide, ⟨decodersOk_withDecoder0 _ ⟨by decide, nofun, by decide, by decide⟩, rfl, rfl, rfl⟩,
    ⟨decodersOk_withDecoder0 _ ⟨by decide, nofun, by decide, by decide⟩, by decide⟩, by decide, by decide⟩

/-- With 10 positions: 7 bits before the last sample point, 8 at it, 9 while the break test waits. A character with a bad parity, one with a low stop bit, an address character and data characters. -/
theorem test_Characters_met (bits : List Bool) (edgeSeen high : Bool) :
    (let p := asyncParams false .none
      let st := receiving bits edgeSeen (some 0x11) none
      let s := busyState (.async p) st high
      let dec := s.decoders[(0 : Fin 6)];
      NoticesOk s ∧ dec.params = .async p ∧ dec.state = .busy ∧ dec.staging = some st ∧
        st.receiver = some { start := 100, edgeSeen } ∧ dec.timer = some 200 ∧ p.positions = 10 ∧ st.bits = bits ∧
        dec.view[(8 : Fin 9)] = high) ∧
      (let p := asyncParams false .even
        let bits := [true, false, false, false, false, false, false, false, false] ++ [true];
        ¬ (p.parity = .none ∨ (((bits.take 9).count true % 2 = 0) ↔ p.parity = .even)) ∧ bits.length + 1 = p.positions) ∧
      (let p := asyncParams false .odd
        let bits := [true, false, false, false, false, false, false, false, false] ++ [false];
        (((bits.take 9).count true % 2 = 0) ↔ p.parity = .even) ∧ ¬ (∀ b ∈ bits.drop (p.positions - 1 - 1), b = true)) ∧
      (let p := asyncParams true .none
        let bits := [true, false, false, false, false, false, false, false, true] ++ [true];
        (∀ b ∈ bits.drop (p.positions - 1 - 1), b = true) ∧ p.addressBit = true ∧ bits[8]? = some true ∧
          (receiving (bits.take 9) true none none).address = none ∧ (receiving (bits.take 9) true (some 1) none).address = some 1 ∧
          bits.length + 1 = p.positions) ∧
      (let p := asyncParams true .none
        let bits := [true, false, false, false, false, false, false, false, false] ++ [true];
        bits[8]? ≠ some true ∧ (∀ b ∈ bits.drop (p.positions - 1 - 1), b = true) ∧
          (receiving (bits.take 9) true (some 1) none).pointerSet = none ∧
          (receiving (bits.take 9) true (some 1) (some 2)).pointerSet = some 2) ∧
      (Decoder.reset.params ≠ .async (asyncParams false .none) ∧ Decoder.reset.state ≠ .busy ∧ Decoder.reset.timer = none ∧
        Decoder.reset.staging = none ∧ Staging.fresh.receiver = none) :=
  ⟨⟨noticesOk_busyState _ _ _, rfl, rfl, rfl, rfl, rfl, rfl, rfl, by simp [busyState, busyDecoder, withDecoder0]⟩, by decide, by decide,
    by decide, by decide, by decide⟩

theorem test_CleanEnd_met :
    (let st : Staging := { receiving [] false (some 0x11) none with receiver := none }
      let dec := (busyState (.async (asyncParams false .none)) st true).decoders[(0 : Fin 6)];
      dec.staging = some st ∧ st.address = some 0x11 ∧ st.direction = some .write ∧ st.receiver = none ∧ dec.state = .busy ∧
        dec.timer = some 200) ∧
      (let c : MeterConfig := { MeterConfig.reset with mode := .delay, startSource := .decoder }
        let s := withMeter0 { Meter.reset with config := c, state := .armed none } livePod0
        let t := withMeter0 { Meter.reset with config := c, state := .timing 4 } livePod0;
        (s.meters[(0 : Fin 8)]).state = .armed none ∧ c.mode = .delay ∧ c.startSource = .decoder ∧ c.sourceDecoder = 0 ∧
          c.sourceAddress = none ∧ s.podLive (podOf c.channelB) = true ∧ (s.meters[(1 : Fin 8)]).state = .off ∧
          (t.meters[(0 : Fin 8)]).state = .timing 4 ∧ 4 + 4294967296 ≤ 4294967300) ∧
      (receiving [] false none none).receiver.isSome = true := by decide +kernel

/-! #### The store -/

/-- An application to a record that there is, to one there is not, under the freeze and not, with a slot, a victim or neither. -/
theorem test_ApplicationOutcome_met :
    StoreOk (withRecord0 record1) ∧ StoreOk State.reset ∧ StoreOk (fullStore false) ∧ StoreOk (fullStore true) ∧
      StoreOk { withRecord0 record1 with watch := { WatchUnit.reset with freeze := true } } ∧
      (withRecord0 record1).watch.freeze = false ∧
      (((withRecord0 record1).store.slots[(0 : Fin 64)]).record = some record1 ∧ record1.decoder = 2 ∧ record1.address = 0x50) ∧
      ((State.reset.store.slots[(0 : Fin 64)]).record = none ∧ ∀ i : Fin 64, (State.reset.store.slots[i]).record = none) ∧
      (∀ i : Fin 64, (((fullStore false).store.slots[i]).record).isSome = true) ∧
      (fullStore false).store.victim 0 = some 0 ∧ (fullStore true).store.victim 0 = none := by
  have one := storeOk_withRecord0 record1 record1_ok (by decide +kernel)
  exact ⟨one, storeOk_reset, storeOk_full _, storeOk_full _, ⟨one.cells, one.pool, one.keys⟩, by decide +kernel⟩

/-- A base from the application, one from the record, and none; a placing where the cell exists, one where it can be created, and two where it cannot. -/
theorem test_PlacingAndVictim_met :
    (record1.pointer = none ∧ { record1 with pointer := some 255 }.pointer = some 255) ∧ let p : Placing := { cells := record1.cells, free := 1, touched := [], unplaced := false, poolEmpty := false };
    (cellAt 4 p.cells).isSome = true ∧ cellAt 5 p.cells = none ∧ p.cells.length < 32 ∧ 0 < p.free ∧
      { p with free := 0 }.free = 0 ∧ (fullStore false).store.victim 0 = some 0 := by decide +kernel

/-- A key that is there and one that is not, the limits of a list, a slot above 63 and a handle of another generation. -/
theorem test_TgtNames_met :
    StoreOk (withRecord0 record1) ∧ (6 : Byte).toNat ≥ 6 ∧ (2 : Byte).toNat = record1.decoder ∧
      ((withRecord0 record1).store.slots[(0 : Fin 64)]).record = some record1 ∧ record1.address ≠ 0x51 ∧
      (64 < (65 : Byte).toNat ∧ (6 ≤ (6 : Byte).toNat ∧ (6 : Byte) ≠ 0xFF) ∧ (0 : Byte).toNat < 1 ∧ 16 < (17 : Byte).toNat ∧
        (64 : Byte).toNat ≤ 64 ∧ (5 : Byte).toNat < 6 ∧ 1 ≤ (1 : Byte).toNat ∧ (16 : Byte).toNat ≤ 16) ∧
      (64 ≤ (64 : Byte).toNat ∧ (63 : Byte).toNat < 64 ∧ ¬ ((0 : Byte).toNat ≥ 1) ∧
        ((withRecord0 record1).store.slots[(0 : Fin 64)]).gen ≠ 8) := by
  exact ⟨storeOk_withRecord0 record1 record1_ok (by decide +kernel), by decide, by decide, by decide +kernel, by decide, by decide,
    by decide +kernel⟩

/-- A current handle. -/
theorem test_TgtRead_met :
    (0 : Byte) = byte (0 : Fin 64) ∧ ((withRecord0 record1).store.slots[(0 : Fin 64)]).record = some record1 ∧
      ((withRecord0 record1).store.slots[(0 : Fin 64)]).gen = 7 ∧ (1 ≤ (1 : Byte).toNat ∧ (32 : Byte).toNat ≤ 32) := by
  decide +kernel

theorem test_TgtDeclarePin_met :
    StoreOk (withRecord0 record1) ∧ 1 < (2 : Byte).toNat ∧ (5 : Byte).toNat = (5 : Fin 6) ∧
      (((withRecord0 record1).store.slots[(0 : Fin 64)]).record = some record1 ∧ ((withRecord0 record1).store.slots[(0 : Fin 64)]).gen = 7) ∧
      StoreOk (fullStore true) ∧ (∀ i : Fin 64, (((fullStore true).store.slots[i]).record).isSome = true) ∧
      ((withRecord0 record1).store.slots[(1 : Fin 64)]).record = none ∧
      (∀ j : Fin 64, j < 1 → (((withRecord0 record1).store.slots[j]).record).isSome = true) :=
  ⟨storeOk_withRecord0 record1 record1_ok (by decide +kernel), by decide, by decide, by decide +kernel, storeOk_full _,
    by decide +kernel, by decide +kernel, by decide +kernel⟩

/-- A cell that is there with and without its parts, one that is not, and a record and a pool without room. -/
theorem test_TgtCells_met :
    StoreOk (withRecord0 record1) ∧ (∃ c, cellAt 4 record1.cells = some c ∧ c.expected.isSome = true ∧ c.value.isSome = true) ∧
      (∃ c, cellAt 4 [{ (record1.cells.headD ⟨0, none, .host, false, none⟩) with expected := none }] = some c ∧ c.expected = none) ∧
      (∃ c, cellAt 4 [{ (record1.cells.headD ⟨0, none, .host, false, none⟩) with value := none }] = some c ∧
        c.expected.isSome = true ∧ c.value = none) ∧
      cellAt 5 record1.cells = none ∧ (record1.cells.length < 32 ∧ 0 < (withRecord0 record1).store.free) ∧
      ¬ (record1.cells.length < 32 ∧ 0 < { (withRecord0 record1).store with free := 0 }.free) :=
  ⟨storeOk_withRecord0 record1 record1_ok (by decide +kernel), ⟨_, rfl, rfl, rfl⟩, ⟨_, rfl, rfl⟩, ⟨_, rfl, rfl, rfl⟩, rfl, by decide,
    by decide⟩

theorem test_TgtRetire_met :
    (0 < { record1 with references := 1 }.references ∧ record1.references = 0) ∧
      (let w : Watch := { Watch.reset with state := .held, subject := .targetCell { gen := 7, slot := 0 } 4 };
        w.state.active = true ∧ w.subject = .targetCell { gen := 7, slot := 0 } 4) ∧
      (let p : Pane := { Pane.reset with state := .live, subject := .target { gen := 7, slot := 0 } 0 4 };
        p.state = .live ∧ p.subject = .target { gen := 7, slot := 0 } 0 4) := by decide

/-! #### Meters, watches and notices -/

/-- A configuration as MTR_CONFIG sends it. -/
def meterSetting (mode gate : Byte) : MeterBytes :=
  { mode, channelA := 0, channelB := 1, startEdge := 0, stopEdge := 0, startSource := 0, sourceDecoder := 0, sourceAddress := 0xFFFF
    gate, window := 1000, singleShot := 0 }

theorem test_MtrConfig_met :
    8 ≤ (8 : Byte).toNat ∧ (State.reset.meters[(1 : Fin 8)]).state = .off ∧
      ((withMeter0 { Meter.reset with state := .armed none } State.reset).meters[(0 : Fin 8)]).state ≠ .off ∧
      meterConfig? (meterSetting 6 0) = none ∧
      (∃ c, meterConfig? (meterSetting 5 1) = some c ∧ c.mode = .count ∧ (1 : Fin 8) ≤ c.gate) ∧
      (∃ c, meterConfig? (meterSetting 0 0) = some c ∧ c.mode ≠ .count ∧ c.mode ≠ .gate) ∧
      (let f : Meter := { Meter.reset with config := { MeterConfig.reset with mode := .count, gate := 1 }, state := .armed none }
        let s := withMeter0 f State.reset;
        (s.meters[(0 : Fin 8)]).config.mode = .count ∧ (s.meters[(0 : Fin 8)]).config.gate = 1 ∧ (s.meters[(0 : Fin 8)]).state ≠ .off) :=
  ⟨by decide, by decide +kernel, by decide +kernel, by decide, ⟨_, rfl, by decide, by decide⟩, ⟨_, rfl, by decide, by decide⟩,
    by decide +kernel⟩

theorem test_MtrRequests_met :
    (7 : Byte).toNat = (7 : Fin 8) ∧ ((configured MeterConfig.reset (.timing 1)).meters[(0 : Fin 8)]).state ≠ .off ∧
      (let s := configured { MeterConfig.reset with mode := .count, gate := 1 } .off;
        (s.meters[(0 : Fin 8)]).config.mode = .count ∧ (s.meters[(1 : Fin 8)]).config.mode ≠ .gate) ∧
      (((configured { MeterConfig.reset with mode := .gate } .off).meters[(0 : Fin 8)]).config.mode = .gate) ∧
      ((configured MeterConfig.reset .off).meters[(0 : Fin 8)]).config.mode ≠ .count := by decide +kernel

/-- A gate with a follower, each follower's state, and a meter in TIMING. -/
theorem test_MeterTimers_met (st : MeterState) :
    let gate : Meter := { Meter.reset with config := { MeterConfig.reset with mode := .gate }, state := .windowOpen 4 }
    let follower : Meter := { Meter.reset with config := { MeterConfig.reset with mode := .count, gate := 0 }, state := st }
    let s : State := { State.reset with meters := tab fun m => if m = 0 then gate else follower }
    let timing := configured MeterConfig.reset (.timing 4);
    NoticesOk s ∧ NoticesOk timing ∧ ([] : List (Fin 8)).Nodup ∧ s.meters[(0 : Fin 8)].state = .windowOpen 4 ∧
      s.meters[(0 : Fin 8)].config.mode = .gate ∧ s.meters[(1 : Fin 8)].state = st ∧ s.follows 0 1 = true ∧
      timing.meters[(0 : Fin 8)].state = .timing 4 := by
  refine ⟨noticesOk_same _ rfl rfl, ?_, List.nodup_nil, by simp, by simp, by simp, ?_, ?_⟩
  · exact noticesOk_of WatchUnit.reset _ reset_derived (by decide +kernel)
  · simp [State.follows]
  · simp [configured, withMeter0]

/-- The record with its withheld mark set and its error count at the limit. -/
def markedRecord : Record := { record1 with withheldMark := true, errors := 0xFFFF }

/-- A change of each owner that is reported and one that is not, a CHANGE watch whose subject a command changes, and records with and without room in a count and with and without a withheld mark. -/
theorem test_EventReports_met :
    ((Pod.reset true).state = { Pod.reset true with supply := true }.state ∧ (Pod.reset true).state ≠ (podIn .live none).state) ∧
      (Decoder.reset.aborted = { Decoder.reset with withheld := 1 }.aborted ∧ Decoder.reset.unknown ≠ 1) ∧
      (let r := { MeterRecord.cleared with withheld := 1 };
        MeterRecord.cleared = { r with withheld := MeterRecord.cleared.withheld } ∧ MeterRecord.cleared ≠ { r with disturbed := 1 }) ∧
      ((Instr.removal 0).wf = true ∧ Sample.absent.value ≠ (Sample.present 5).value) ∧
      ((∀ freeze : Bool, StoreOk { withRecord0 record1 with watch := { WatchUnit.reset with freeze } } ∧
          StoreOk { withRecord0 markedRecord with watch := { WatchUnit.reset with freeze } }) ∧
        (withRecord0 markedRecord).store.slots[(0 : Fin 64)].record = some markedRecord ∧
        (withRecord0 markedRecord).store.slots[(0 : Fin 64)].gen = 7 ∧
        (record1.decoder = 2 ∧ record1.address = 0x50 ∧ record1.withheldMark = false ∧ record1.errors ≠ 0xFFFF) ∧
        (withRecord0 record1).store.slots[(1 : Fin 64)].record = none ∧
        (∃ k, cellAt 4 record1.cells = some k ∧ k.value = some 9) ∧ (fullStore false).store.victim 0 = some 0) := by
  refine ⟨by decide +kernel, by decide +kernel, by decide +kernel, by decide +kernel, ?_, by decide +kernel, by decide +kernel,
    by decide +kernel, by decide +kernel, ⟨_, rfl, rfl⟩, by decide +kernel⟩
  have one := storeOk_withRecord0 record1 record1_ok (by decide +kernel)
  have marked := storeOk_withRecord0 markedRecord ⟨by decide, by simp [markedRecord, record1]⟩ (by decide +kernel)
  exact fun _ => ⟨⟨one.cells, one.pool, one.keys⟩, ⟨marked.cells, marked.pool, marked.keys⟩⟩

/-- Watches in each state with a condition that holds, one that does not, and CHANGE. -/
theorem test_ReportEvaluates_met :
    ((withRecord0 record1).store.reach { gen := 8, slot := 0 } = none ∧ (withRecord0 record1).store.slots[(0 : Fin 64)].gen = 7 ∧
        cellAt 4 record1.cells ≠ none ∧ cellAt 5 record1.cells = none ∧ Sample.absent.value = none) ∧
      WatchState.active .idle = true ∧ WatchState.active .held = true ∧ WatchState.active .tripped = true ∧
      WatchState.active .off = false ∧ (Condition.above 3).holds (Sample.present 4) = true ∧
      (Condition.above 3).holds (Sample.present 3) = false ∧ (Condition.above 3).isChange = false ∧
      ((Sample.present 4).value.isSome = true ∧ (Sample.present 4).value ≠ Sample.absent.value) := by decide +kernel

/-- A watch with MARK that is TRIPPED or HELD on a subject. -/
def marking (st : WatchState) (sub : Subject) : WatchUnit :=
  unitWith0 { Watch.reset with state := st, subject := sub, condition := .change, marks := true }

/-- A watch cleared: the highlight of the pane of its pod goes off and the pane is stale, and so is the watch's own pane; a pane orphaned beside a LIVE one. -/
theorem test_ReportEvaluates_highlight_met :
    (let s := withUnit (marking .tripped (.pod 0)) (withPane0 { Pane.reset with state := .live, subject := .pod 0, highlight := true });
      s.takes (.wchClear 0) = true ∧ (after (.wchClear 0) s).watch.watches[(0 : Fin 32)].state ≠ s.watch.watches[(0 : Fin 32)].state ∧
        (after (.wchClear 0) s).display.panes[(0 : Fin 16)] = { s.display.panes[(0 : Fin 16)] with highlight := false, stale := true }) ∧
      (let s := withUnit (marking .tripped (.pod 0)) (withPane0 { Pane.reset with state := .live, subject := .watch 0 });
        (after (.wchClear 0) s).display.panes[(0 : Fin 16)] = { s.display.panes[(0 : Fin 16)] with stale := true }) ∧
      (let panes : Vector Pane 16 := tab fun i => { Pane.reset with
          state := .live, subject := if i = 0 then .target { gen := 7, slot := 0 } 0 1 else .none };
        let s : State := { withRecord0 record1 with display := { Display.reset with panes } };
        let t := after (.tgtRetire { gen := 7, slot := 0 } 1) s;
        s.takes (.tgtRetire { gen := 7, slot := 0 } 1) = true ∧ t.display.panes[(0 : Fin 16)].state = .orphaned ∧
          t.display.panes[(1 : Fin 16)].state = .live) := by decide +kernel

/-- A unit for each notice: each device notice, a watch of level 1 and one of level 14, and none. -/
theorem test_CurrentNotice_met :
    ({ WatchUnit.reset with podFault := 1 } : WatchUnit).podFault ≠ 0 ∧ ({ WatchUnit.reset with podChange := 8 } : WatchUnit).podChange ≠ 0 ∧
      (let u := unitWith0 { Watch.reset with state := .tripped, level := 14, freezes := true };
        u.podFault = 0 ∧ u.podChange = 0 ∧ u.panelLost = false ∧ u.storeFull = false ∧ u.cellsFull = false ∧
        u.watches[(0 : Fin 32)].state = .tripped ∧ (u.watches[(0 : Fin 32)].level).toNat = 14 ∧ u.currentOf = .watch 0) ∧
      WatchUnit.reset.currentOf = .none := by decide +kernel

theorem test_WatchRequests_met :
    32 ≤ (32 : Byte).toNat ∧
      watchSetting? { kind := 9, number := 0, field := 0 } { code := 0, first := 0, second := 0 } 1 0 = none ∧
      (∃ w, watchSetting? { kind := 1, number := 0x0700, field := 4 } { code := 3, first := 3, second := 0 } 15 3 = some w ∧
        w.subject.handle? = some { gen := 7, slot := 0 }) ∧
      (State.reset.store.reach { gen := 7, slot := 0 } = none ∧ ((withRecord0 record1).store.reach { gen := 7, slot := 0 }).isSome = true) ∧
      (State.reset.watch.watches[(0 : Fin 32)]).state = .off ∧
      ((unitWith0 { Watch.reset with state := .idle }).watches[(0 : Fin 32)]).state ≠ .off :=
  ⟨by decide, by decide, ⟨_, rfl, rfl⟩, by decide +kernel, by decide +kernel, by decide +kernel⟩

/-- The reset state with pod 0 faulted. -/
def faultedPod0 : State := withUnit { WatchUnit.reset with podFault := 1 } (withPod0 { podIn .off none with faultMark := true })

/-- The notices of a state with the pods of reset and a unit derived afresh with no fault. -/
theorem noticesOk_unit (u : WatchUnit) (h : u.podFault = 0) : NoticesOk (withUnit u State.reset) := by
  refine noticesOk_of u _ rfl fun p => ?_
  rw [h]; revert p; show ∀ p : Fin 4, (0 : BitVec 4).getLsbD p = (State.reset.pods[p]).faultMark; decide

theorem test_NoticeRequests_met :
    (NoticesOk faultedPod0 ∧ (faultedPod0.pods[(0 : Fin 4)]).faultMark = true ∧ (faultedPod0.pods[(1 : Fin 4)]).faultMark = false ∧
      NoticesOk (withUnit { WatchUnit.reset with podChange := 8 } State.reset) ∧ (8 : BitVec 4) &&& (8 : Byte).setWidth 4 ≠ 0 ∧
      (8 : BitVec 4) &&& (7 : Byte).setWidth 4 = 0 ∧
      NoticesOk (withUnit { WatchUnit.reset with panelLost := true, storeFull := true, cellsFull := true } State.reset) ∧
      NoticesOk (withUnit (unitWith0 { Watch.reset with state := .tripped }) State.reset) ∧
      ((withUnit (unitWith0 { Watch.reset with state := .tripped }) State.reset).watch.watches[(0 : Fin 32)]).state = .tripped) ∧
      (7 ≤ (7 : Byte).toNat ∧ 16 ≤ (16 : Byte).toNat ∧ 32 ≤ (32 : Byte).toNat) ∧
      (16 < (17 : Byte).toNat ∧ 15 < (16 : Byte).toNat ∧ (16 : Byte).toNat ≤ 16 ∧ (15 : Byte).toNat ≤ 15 ∧ 1 < (2 : Byte).toNat ∧
        (0 : Byte) = boolByte State.reset.watch.hold ∧ (1 : Byte) = boolByte (!State.reset.watch.hold)) ∧
      ∀ n : Notice, ({ State.reset with watch := { WatchUnit.reset with current := n } } : State).watch.current = n :=
  ⟨⟨noticesOk_of _ _ rfl (by decide +kernel), by decide, by decide, noticesOk_unit _ rfl, by decide, by decide, noticesOk_unit _ rfl,
    noticesOk_unit _ rfl, by decide +kernel⟩, by decide, by decide, fun _ => rfl⟩

/-! #### Panes and the panel -/

/-- A pane at the last cells of the grid, another that meets it, and one that does not fit. -/
theorem test_PaneRequests_met :
    let p : Pane := { Pane.reset with state := .live, rect := { row := 15, col := 38, width := 2, height := 1 } };
    DisplayOk (withPane0 p) ∧ (withPane0 p).display.panes[(0 : Fin 16)] = p ∧
      (({ row := 14, col := 0, width := 40, height := 2 } : Rect).covers 15 39 = true ∧ p.rect.covers 15 39 = true) ∧
      paneSetting? 2 { n0 := 0, n1 := 0, n2 := 0, n3 := 0 } 1 [] = some (.meter 0 .last, .dec) ∧
      paneSetting? 9 { n0 := 0, n1 := 0, n2 := 0, n3 := 0 } 1 [] = none ∧ ¬ (16 + 1 ≤ 16) ∧
      (∃ h, (PaneSubject.target { gen := 1, slot := 0 } 0 1).handle? = some h ∧ (withPane0 p).store.reach h = none) :=
  ⟨displayOk_withPane0 _ ⟨by decide, by decide, by decide, by decide⟩, by simp [withPane0], by decide, by decide, by decide, by decide,
    ⟨_, rfl, by decide +kernel⟩⟩

theorem test_PaneReadInterval_met :
    16 ≤ (16 : Byte).toNat ∧ (9 : Half).toNat < 10 ∧ 1000 < (1001 : Half).toNat ∧ (11 : Half).toNat % 10 ≠ 0 ∧
      (10 ≤ (10 : Half).toNat ∧ (1000 : Half).toNat ≤ 1000) := by decide

/-- A tick that is due, with a pane to render, one that is not due, and one that meets a restart. -/
theorem test_RefreshTick_met :
    let s : State := { (withPane0 { Pane.reset with state := .live, stale := true }) with clock := { Clock.reset with ms := 100 } }
    let p : Port := { Port.reset with state := .executing, request := some .devRestart };
    DisplayOk s ∧ (s.clock.ms - s.display.nextTick).toNat < 2147483648 ∧ s.port.state ≠ .executing ∧
      ¬ ((State.reset.clock.ms - State.reset.display.nextTick).toNat < 2147483648) ∧ (p.state = .executing ∧ p.request = some .devRestart) := by
  have ok := displayOk_withPane0 { Pane.reset with state := .live, stale := true } ⟨by decide, by decide, by decide, by decide⟩
  exact ⟨⟨ok.inGrid, ok.apart, ok.blank⟩, by decide, by decide, by decide, by decide⟩

/-- R167 at the first and the last register of a pane's range and at those just outside it, and in each state of the watch. -/
theorem test_RefreshTick_table_met :
    let h : Handle := { gen := 7, slot := 0 }
    let cell := fun (st : WatchState) (reg : Byte) => (marking st (.targetCell h reg)).highlighted (.target h 4 3);
    cell .tripped 4 = true ∧ cell .held 6 = true ∧ cell .tripped 3 = false ∧ cell .tripped 7 = false ∧ cell .idle 4 = false ∧
      (marking .held (.targetCell h 255)).highlighted (.target h 240 16) = true ∧
      (marking .held (.targetField h .error)).highlighted (.target h 4 3) = true ∧
      (marking .held (.targetField { h with gen := 8 } .error)).highlighted (.target h 4 3) = false ∧
      (marking .tripped (.meter 7 .last)).highlighted (.meter 7 .max) = true ∧
      (marking .tripped (.pod 3)).highlighted (.pod 3) = true ∧
      (marking .tripped (.decoder 5 .aborted)).highlighted (.decoder 5) = true ∧
      (marking .tripped (.decoder 5 .aborted)).highlighted (.decoder 4) = false := by decide +kernel

/-- A time in each unit, and the cells of a pane: its corner, its overflow, its label and its text. -/
theorem test_PaneText_met :
    let p : Pane := { Pane.reset with rect := { row := 0, col := 0, width := 3, height := 2 }, label := [0x41] }
    let c : Content := { lines := [], withheld := false, cut := false };
    p.labelRows ≤ p.rect.height ∧ (2 : Nat) + 1 = p.rect.width ∧ (1 : Nat) + 1 = p.rect.height ∧ c.withheld = false ∧
      ({ c with withheld := true } : Content).withheld = true ∧ ({ c with cut := true } : Content).cut = true ∧
      (Pod.reset true).code.toNat ≤ 132 ∧ p.highlight = false := by decide

/-- A pane in each state with a current target, entries that fit a line and that do not, and a record in each status. -/
theorem test_PaneContent_met :
    (let p : Pane := { Pane.reset with state := .live, rect := { row := 0, col := 0, width := 5, height := 1 }
                                       subject := .target { gen := 7, slot := 0 } 4 16 };
      p.state ≠ .orphaned ∧ ({ p with state := .orphaned } : Pane).state = .orphaned ∧ p.format = .hex ∧ 5 ≤ p.rect.width ∧
        ({ p.rect with width := 4 } : Rect).width < 5 ∧ 0 < (16 : Byte).toNat ∧ (0 : Byte) = byte (0 : Fin 64) ∧
        ((withRecord0 record1).store.slots[(0 : Fin 64)]).record = some record1 ∧
        ((withRecord0 record1).store.slots[(0 : Fin 64)]).gen = 7) ∧
      MeterRecord.cleared.status = .none ∧ (MeterRecord.cleared.take .overrange).status = .overrange ∧
      (MeterRecord.cleared.take (.valid 3)).status = .valid ∧ (MeterRecord.cleared.take .overrange).count = 0 := by decide +kernel

/-- The lines outside SENDING stand at their idle levels, whatever these are. -/
theorem test_panel_lines_idle :
    State.reset.lsel = false ∧ State.reset.lsck = Config.lsckIdle ∧ State.reset.ldat = Config.ldatIdle := ⟨rfl, rfl, rfl⟩

/-- In SENDING LSCK leaves its idle level in every bit period, the first and the last among them, at every rate and for every shape of the period. -/
theorem test_panel_lsck_pulses (b : Burst) (h : b.endsAt = 4 + b.rate.burstTime) (k : Nat) (hk : k < 648) :
    ({ withPanel { Panel.reset with link := .sending, burst := some b } with
        clock := { Clock.reset with now := 4 + b.rate.sampleAt k b.rate.pulseStart } } : State).lsck = !Config.lsckIdle := by
  have c := (b.clocked_iff_run 4 _ h (Nat.le_add_right _ _)).2
    ⟨k, hk, Nat.le_refl _, Nat.add_lt_add_left (b.rate.runs_apart k).2.1 4⟩
  simp [State.lsck, Panel.sending, withPanel, c]

/-- The last bit of a burst at 16 MHz begins between two samples, 10,109.375 of them after the start, so LSCK leaves its idle level at one of the last 15. -/
theorem test_panel_lsck_last_period : ∃ n, 10110 ≤ n ∧ n < 10125 ∧ ∀ b : Burst, b.rate = .mhz16 → b.endsAt = 10125 → b.clocked n = true := by
  have s := Rate.mhz16.pulse_bounds
  refine ⟨Rate.mhz16.sampleAt 647 Rate.mhz16.pulseStart, ?_, ?_, fun b r h => ?_⟩
  · exact Nat.lt_of_not_le fun h => absurd ((Rate.sampleAt_le _ _ _ 10109).1 h) (by simp only [Rate.mhz]; omega)
  · exact Nat.lt_succ_of_le ((Rate.sampleAt_le _ _ _ 10124).2 (by simp only [Rate.mhz] at s ⊢; omega))
  · refine (b.clocked_iff_run 0 _ (by rw [h, r]; rfl) (Nat.zero_le _)).2 ⟨647, by decide, ?_⟩
    have := (Rate.mhz16.runs_apart 647).2.1
    rw [r]
    omega

theorem test_PanelRequests_met :
    1 < (2 : Byte).toNat ∧ ((2 : Byte) ≠ 1 ∧ (2 : Byte) ≠ 4 ∧ (2 : Byte) ≠ 8 ∧ (2 : Byte) ≠ 16) ∧ State.reset.panel.link = .off ∧
      (withPanel { Panel.reset with link := .lost }).panel.link = .lost := by decide

/-- A link in each state with what that state holds, and a backlight with and without an expiry. -/
theorem test_PanelEvents_met :
    (let p : Panel := { Panel.reset with link := .waiting, wait := some 5, dirty := 0x8000 };
      p.link = .waiting ∧ p.wait = some 5 ∧ p.dirty ≠ 0 ∧ p.dirty.getLsbD 15 = true ∧
        ∀ r : Fin 16, r < 15 → p.dirty.getLsbD r = false) ∧
      (∃ b, (withPanel { Panel.reset with link := .sending, burst := some b }).panel.burst = some b ∧ b.row = 15) ∧
      (Backlight.start 3 4 0).endsAt = some 750 ∧ Backlight.reset.endsAt = none ∧
      (10129 : Nat) = 4 + 648 * 250 / Rate.mhz16.mhz ∧ 4 ≤ (4 : Nat) ∧ (4 : Nat) < 10129 ∧ 4 ≤ (10128 : Nat) ∧ (10128 : Nat) < 10129 :=
  ⟨by decide, ⟨{ row := 15, cells := Vector.replicate 40 GridCell.blank, rate := .mhz4, endsAt := 9 }, rfl, rfl⟩, by decide, rfl,
    by decide, by decide, by decide, by decide, by decide⟩

/-! #### What every step keeps -/

/-- A step that keeps its state: an answer that is not on its way. -/
theorem step_answer (s : State) (h : s.pending = [.answer]) (p : s.port.answer = none) : step s = .next { s with pending := [] } := by
  have e : step s = exec .answer { s with pending := [] } := by unfold step; rw [h]
  have k : answer { s with pending := [] } = { s with pending := [] } := by simp [answer, p]
  rw [e]
  show (Host.Outcome.next (State.take .answer answer { s with pending := [] }) : Result) = _
  unfold State.take
  split
  · rw [k]
  · rfl

/-- The states below with an answer in front. -/
def answering (s : State) : State := { s with pending := [.answer] }

theorem test_StepKeepsNotices_met : NoticesOk (answering livePod0) ∧ step (answering livePod0) = .next livePod0 :=
  ⟨⟨(noticesOk_withPod0 (podIn .live none) rfl).derived, (noticesOk_withPod0 (podIn .live none) rfl).marks⟩, step_answer _ rfl rfl⟩

/-- Pod 0 LIVE, the others absent, and every filter with no candidate. -/
theorem podsOk_live (s : State) (h : s.pods = livePod0.pods) (k : s.channels = State.reset.channels) : PodsOk s := by
  refine ⟨fun p => ?_, fun c => ?_⟩
  · rw [h]
    by_cases hp : p = 0
    · subst hp
      exact ⟨by decide, nofun, by decide, by decide, by decide, by decide, by decide, by decide⟩
    · have e : livePod0.pods[p] = Pod.reset false := by simp only [livePod0, withPod0, tab_get, if_neg hp]
      rw [e]
      exact ⟨by decide, nofun, by decide, by decide, by decide, by decide, by decide, by decide⟩
  · have e : s.channels[c] = Channel.reset := by rw [k]; simp [State.reset, State.resetWith]
    rw [e]
    exact ⟨nofun, nofun, nofun⟩

theorem test_StepKeepsPods_met : PodsOk (answering livePod0) ∧ step (answering livePod0) = .next livePod0 :=
  ⟨podsOk_live _ rfl rfl, step_answer _ rfl rfl⟩

theorem test_StepKeepsStore_met :
    StoreOk (answering (withRecord0 record1)) ∧ ReferencesOk (answering (withRecord0 record1)) ∧
      step (answering (withRecord0 record1)) = .next (withRecord0 record1) := by
  have one := storeOk_withRecord0 record1 record1_ok (by decide +kernel)
  refine ⟨⟨one.cells, one.pool, one.keys⟩, ⟨?_, ?_, ?_⟩, step_answer _ rfl rfl⟩
  · intro i r h
    have e : i = 0 ∧ r = record1 := by
      simp only [answering, withRecord0, tab_get] at h
      by_cases hi : i = 0
      · simp only [if_pos hi, Option.some.injEq] at h; exact ⟨hi, h.symm⟩
      · simp only [if_neg hi, reduceCtorEq] at h
    rw [e.1, e.2]
    decide +kernel
  · intro i h e
    have w : (answering (withRecord0 record1)).watch.watches[i] = Watch.reset := by
      simp [answering, withRecord0, State.reset, State.resetWith, WatchUnit.reset]
    rw [w] at e; cases e
  · intro i h e
    have w : (answering (withRecord0 record1)).display.panes[i] = Pane.reset := by
      simp [answering, withRecord0, State.reset, State.resetWith, Display.reset]
    rw [w] at e; cases e

/-- The part waiting for a busy panel, with a request executing. -/
def waitingState : State :=
  { withPanel { Panel.reset with link := .waiting, wait := some 9, dirty := 1 } with
    pins := { sense := 0, levels := 0, lbusy := true, resetLow := false }
    port := { Port.reset with state := .executing, overrun := true, request := some .devIdent } }

theorem test_StepKeepsLinkAndPort_met :
    PanelOk (answering waitingState) ∧ PortOk (answering waitingState) ∧ step (answering waitingState) = .next waitingState ∧
      HeldOk (answering heldLow) ∧ (answering heldLow).pins.resetLow = true ∧ step (answering heldLow) = .next heldLow := by
  refine ⟨⟨by decide, by decide, by decide, by decide⟩, ⟨by decide, by decide, by decide, by decide, ?_, by decide⟩, step_answer _ rfl rfl,
    fun _ => rfl, rfl, step_answer _ rfl rfl⟩
  intro i h
  have e : Instr.devIdent = i := Option.some.inj h
  subst e
  exact ⟨rfl, rfl⟩

theorem test_StepKeepsDecoders_met :
    let s := busyState (.async (asyncParams false .none)) Staging.fresh true
    DecodersOk (answering s) ∧ step (answering s) = .next s := by
  refine ⟨?_, step_answer _ rfl rfl⟩
  refine decodersOk_withDecoder0 _ ⟨by decide, ?_, by decide, by decide⟩
  intro st e
  have e' : Staging.fresh = st := Option.some.inj e
  subst e'
  decide

/-- A meter at reset is as the rules leave it. -/
theorem meterOk_reset {s : State} {m : Fin 8} (e : s.meters[m] = Meter.reset) : Meter.Ok s m := by
  have off : s.meters[m].state = .off := by rw [e]; rfl
  refine ⟨by rw [e]; exact ⟨by decide, by decide, by decide⟩, by rw [e]; decide, ?_, ?_, ?_, ?_, ?_, ?_, ?_⟩
  · intro h k; rw [off] at k; cases k
  · intro h k; rw [off] at k; cases k
  · intro h k; rw [off] at k; cases k
  · intro h k; rw [off] at k; cases k
  · intro t n h k; rw [off] at k; cases k
  · rintro (⟨t, k⟩ | ⟨t, n, x, k⟩) <;> rw [off] at k <;> cases k
  · intro k; rw [e] at k; cases k

/-- Every meter but 0 at reset. -/
theorem metersOk_withMeter0 (mt : Meter) (t : State) (h : t.meters = State.reset.meters)
    (k : Meter.Ok (withMeter0 mt t) 0) : MetersOk (withMeter0 mt t) := by
  intro m
  by_cases hm : m = 0
  · subst hm; exact k
  · exact meterOk_reset (by simp [withMeter0, if_neg hm, h, State.reset, State.resetWith])

/-- A measurement under way on a LIVE pod. -/
theorem test_StepKeepsMeters_met :
    let s := configured MeterConfig.reset (.timing 5)
    PodsOk (answering s) ∧ MetersOk (answering s) ∧ step (answering s) = .next s := by
  refine ⟨podsOk_live _ rfl rfl, ?_, step_answer _ rfl rfl⟩
  refine metersOk_withMeter0 _ (answering livePod0) rfl ⟨?_, by decide +kernel, nofun, nofun, ?_, nofun, nofun, ?_, ?_⟩
  · exact ⟨by decide +kernel, by decide +kernel, by decide +kernel⟩
  · intro t _; decide +kernel
  · intro _; decide +kernel
  · intro h; exact absurd h (by decide +kernel)

theorem test_StepKeepsDisplay_met :
    let s := withPane0 { Pane.reset with state := .live }
    DisplayOk (answering s) ∧ step (answering s) = .next s := by
  have ok := displayOk_withPane0 { Pane.reset with state := .live } ⟨by decide, by decide, by decide, by decide⟩
  exact ⟨⟨ok.inGrid, ok.apart, ok.blank⟩, step_answer _ rfl rfl⟩

/-- A watch on the state of pod 1, and a pane that is not stale. -/
def watchedState : State :=
  { withPane0 { Pane.reset with state := .live } with
    watch := WatchUnit.derived (unitWith0
      { Watch.reset with state := .idle, subject := .pod 1, condition := .change, level := 3, sample := Sample.present 0 }) }

/-- Everything that is kept holds with an active watch and a pane that is not stale. -/
theorem allOk_watchedState : AllOk (answering watchedState) := by
  have ok := displayOk_withPane0 { Pane.reset with state := .live } ⟨by decide, by decide, by decide, by decide⟩
  have own : (answering watchedState).watch.watches[(0 : Fin 32)] =
      { Watch.reset with state := .idle, subject := .pod 1, condition := .change, level := 3, sample := Sample.present 0 } := by
    simp [answering, watchedState, unitWith0]
  have other : ∀ i : Fin 32, i ≠ 0 → (answering watchedState).watch.watches[i] = Watch.reset := by
    intro i hi; simp [answering, watchedState, unitWith0, if_neg hi]
  refine
    { notices := noticesOk_of _ _ rfl (by decide +kernel)
      pods := ⟨fun p => ?_, fun c => ?_⟩
      store := ⟨storeOk_reset.cells, storeOk_reset.pool, storeOk_reset.keys⟩
      refs := ⟨fun i r h => ?_, fun i h e => ?_, fun i h e => ?_⟩
      panel := ⟨by decide, by decide, by decide, by decide⟩
      port := ⟨by decide, by decide, by decide, by decide, nofun, by decide⟩
      decoders := fun d => ?_
      display := ⟨ok.inGrid, ok.apart, ok.blank⟩
      held := nofun
      meters := fun m => ?_
      watches := fun i => ?_
      picture := ?_ }
  · have e : (answering watchedState).pods[p] = Pod.reset false := by revert p; decide +kernel
    rw [e]
    exact ⟨by decide, nofun, by decide, by decide, by decide, by decide, by decide, by decide⟩
  · have e : (answering watchedState).channels[c] = Channel.reset := by
      simp [answering, watchedState, withPane0, State.reset, State.resetWith]
    rw [e]
    exact ⟨nofun, nofun, nofun⟩
  · simp [answering, watchedState, withPane0, State.reset, State.resetWith, Store.reset] at h
  · by_cases hi : i = 0
    · subst hi; rw [own] at e; cases e
    · rw [other i hi] at e; cases e
  · by_cases hi : i = 0
    · subst hi; simp [answering, watchedState, withPane0, Pane.holds, Pane.reset, PaneSubject.handle?] at e
    · simp [answering, watchedState, withPane0, if_neg hi, Pane.holds, Pane.reset] at e
  · have e : (answering watchedState).decoders[d] = Decoder.reset := by
      simp [answering, watchedState, withPane0, State.reset, State.resetWith]
    rw [e]
    exact ⟨by decide, nofun, by decide, nofun⟩
  · exact meterOk_reset (by simp [answering, watchedState, withPane0, State.reset, State.resetWith])
  · by_cases hi : i = 0
    · subst hi
      rw [own]
      exact ⟨by decide +kernel, nofun, nofun, nofun, nofun⟩
    · rw [other i hi]
      exact ⟨nofun, nofun, nofun, nofun, fun _ => rfl⟩
  · unfold PictureOk
    decide +kernel

theorem test_StepKeepsWatches_met :
    AllOk (answering watchedState) ∧ step (answering watchedState) = .next watchedState ∧
      (watchedState.watch.watches[(0 : Fin 32)]).state.active = true :=
  ⟨allOk_watchedState, step_answer _ rfl rfl, by decide +kernel⟩

theorem test_StepKeepsPicture_met :
    AllOk (answering watchedState) ∧ step (answering watchedState) = .next watchedState ∧
      (watchedState.display.panes[(0 : Fin 16)]).state = .live ∧ (watchedState.display.panes[(0 : Fin 16)]).stale = false :=
  ⟨allOk_watchedState, step_answer _ rfl rfl, by decide +kernel, by decide +kernel⟩

end Sys2Proof.Tests
end

section
/-! The pod requests that are refused, and POD_READ (R4, R6, R15, R213): when an operand of POD_SET names nothing, what a mask byte names, and each outcome of the three requests by its own premise. -/

namespace Sys2Proof.Machine

/-! ### Operands of the pod requests -/

theorem podTarget?_eq_none {b : Byte} : podTarget? b = none ↔ b ≠ 1 ∧ b ≠ 4 ∧ b ≠ 5 := by
  unfold podTarget?
  split_ifs <;> simp_all

theorem widths?_eq_none {w : Vector Byte 8} : widths? w = none ↔ ∃ i : Fin 8, 7 < (w[i]).toNat := by
  simp [widths?]

theorem namedPods_any {mask : Byte} {f : Fin 4 → Bool} :
    (namedPods mask).any f = true ↔ ∃ p : Fin 4, mask.getLsbD p = true ∧ f p = true := by
  simp [namedPods]

theorem namedPods_any_eq_false {mask : Byte} {f : Fin 4 → Bool} :
    (namedPods mask).any f = false ↔ ∀ p : Fin 4, mask.getLsbD p = true → f p = false := by
  simp [namedPods]

/-! ### POD_SET -/

/-- Any one operand out of range refuses POD_SET (R4). -/
theorem podSet_refused {pod requested code : Byte} {w : Vector Byte 8} (s : State)
    (h : index? 4 pod = none ∨ podTarget? requested = none ∨ 132 < code.toNat ∨ widths? w = none) :
    podSet pod requested code w s = s.refuse .badParam := by
  unfold podSet
  split
  next hpod htarget hwidths =>
    have hcode : Config.maxThreshold < code.toNat := by simpa [hpod, htarget, hwidths, Config.maxThreshold] using h
    exact if_pos hcode
  next => rfl

/-! ### POD_GO -/

theorem podGo_mask_out_of_range {mask : Byte} (s : State) (h : 16 ≤ mask.toNat) : podGo mask s = s.refuse .badParam :=
  if_pos h

theorem podGo_named_moving {mask : Byte} {s : State} (hmask : mask.toNat < 16)
    (hmoving : ∃ p : Fin 4, mask.getLsbD p = true ∧ s.pods[p].state.moving = true) :
    podGo mask s = s.refuse .podBusy := by
  rw [podGo, if_neg (Nat.not_le.mpr hmask), if_pos (namedPods_any.mpr hmoving)]

theorem podGo_named_marked {mask : Byte} {s : State} (hmask : mask.toNat < 16)
    (hstill : ∀ p : Fin 4, mask.getLsbD p = true → s.pods[p].state.moving = false)
    (hmarked : ∃ p : Fin 4, mask.getLsbD p = true ∧ s.pods[p].faultMark = true) :
    podGo mask s = s.refuse .podFaulted := by
  rw [podGo, if_neg (Nat.not_le.mpr hmask), if_neg (Bool.eq_false_iff.mp (namedPods_any_eq_false.mpr hstill)),
    if_pos (namedPods_any.mpr hmarked)]

/-! ### POD_READ -/

theorem podRead_refused {pod : Byte} (s : State) (h : 4 ≤ pod.toNat) : podRead pod s = s.refuse .badParam := by
  rw [podRead, index?_eq_none.mpr h]

theorem podRead_answers {pod : Byte} {p : Fin 4} (s : State) (h : pod.toNat = p) :
    podRead pod s = s.answered .ok (s.podBytes p) := by
  rw [podRead, index?_eq_some.mpr h]

/-- With no transition in flight no time is left (R15). -/
theorem Pod.timeLeft_of_none {pod : Pod} (h : pod.transition = none) (now : Nat) : pod.timeLeft now = 0 := by
  rw [Pod.timeLeft, h]

/-- The settle is still to follow while a pod ramps towards LIVE; no other stage has one after it (R7, R15). -/
theorem Pod.timeLeft_of_some {pod : Pod} {t : Transition} (h : pod.transition = some t) (now : Nat) :
    pod.timeLeft now = (t.endsAt - now) + (if t.stage = .ramping ∧ t.dest = .live then 50000 else 0) := by
  rw [Pod.timeLeft, h, Config.settleTime]

theorem flags_pair (a b : Bool) : flags [a, b] = boolByte a + 2 * boolByte b := by
  revert a b; decide

/-- The layout of the POD_READ payload (R213), the remaining time in µs at 250 samples each. -/
theorem State.podBytes_eq (s : State) (p : Fin 4) :
    s.podBytes p =
      [boolByte s.pods[p].present + 2 * boolByte s.pods[p].faultMark, s.pods[p].state.number, s.pods[p].requested.number,
        s.pods[p].code]
      ++ (List.finRange 8).map (fun i : Fin 8 => byte (s.channels[(⟨8 * p + i, by omega⟩ : Fin 32)].width))
      ++ be16 (BitVec.ofNat 16 ((s.pods[p].timeLeft s.clock.now + 249) / 250)) := by
  rw [State.podBytes, flags_pair]
  rfl

/-! ### The statement -/

/-- Settles O13: each clause is the outcome of its request under that clause's premise; the time left that POD_READ rounds up is `Pod.timeLeft`. -/
theorem podRefusalsAndRead : Obligations.PodRefusalsAndRead := by
  refine ⟨⟨fun pod requested code w s h => ?_, fun mask s => ⟨fun hmask => ?_, fun hmask hmoving => ?_,
    fun hmask hstill hmarked => ?_, fun hpod => ?_⟩⟩, fun pod p s hp => ⟨s.pods[p].timeLeft s.clock.now, ?_, ?_, ?_⟩⟩
  · rw [← index?_eq_none, ← podTarget?_eq_none, ← widths?_eq_none] at h
    exact makes_of_eq (podSet pod requested code w) rfl (podSet_refused s h)
  · exact makes_of_eq (podGo mask) rfl (podGo_mask_out_of_range s hmask)
  · exact makes_of_eq (podGo mask) rfl (podGo_named_moving hmask hmoving)
  · exact makes_of_eq (podGo mask) rfl (podGo_named_marked hmask hstill hmarked)
  · exact makes_of_eq (podRead mask) rfl (podRead_refused s hpod)
  · exact fun h => Pod.timeLeft_of_none h _
  · exact fun t h => Pod.timeLeft_of_some h _
  · rw [← State.podBytes_eq]
    exact makes_of_eq (podRead pod) rfl (podRead_answers s hp)

end Sys2Proof.Machine
end

section
/-! TGT_FIND, TGT_LIST and the refusals of the requests that name a handle (R24, R41, R42, R214): what an operand of TGT_LIST names, when a handle reaches no record, and each outcome by its own premise. -/

namespace Sys2Proof.Machine

/-! ### Operands -/

theorem yesNo?_isSome {b : Byte} : (yesNo? b).isSome = true ↔ b.toNat ≤ 1 := by
  have hzero : b = 0 ↔ b.toNat = 0 := BitVec.toNat_inj.symm
  have hone : b = 1 ↔ b.toNat = 1 := BitVec.toNat_inj.symm
  unfold yesNo?
  split_ifs with h0 h1
  · simp [hzero.mp h0]
  · simp [hone.mp h1]
  · rw [hzero] at h0
    rw [hone] at h1
    simp only [Option.isSome_none, Bool.false_eq_true, false_iff]
    omega

/-- The filter of TGT_LIST names nothing exactly when it is neither a decoder nor ALL (R42). -/
theorem listFilter?_eq_none {b : Byte} : listFilter? b = none ↔ 6 ≤ b.toNat ∧ b ≠ 0xFF := by
  unfold listFilter?
  split
  · simp_all
  · simp_all [index?_eq_none]

/-! ### Handles that reach no record -/

/-- A handle reaches no record when no LIVE slot of its number has its generation (R24). -/
theorem Store.reach_eq_none {st : Store} {h : Handle}
    (stale : ∀ (i : Fin 64) (r : Record), h.slot = byte i → st.slots[i].record = some r → st.slots[i].gen ≠ h.gen) :
    st.reach h = none := by
  rw [Option.eq_none_iff_forall_ne_some]
  rintro ⟨i, r⟩ hreach
  obtain ⟨hslot, hrecord, hgen⟩ := Store.reach_some.mp hreach
  have hbyte : h.slot = byte i := by rw [byte, ← hslot, BitVec.ofNat_toNat, BitVec.setWidth_eq]
  exact stale i r hbyte hrecord hgen

theorem State.withRecord_badParam {h : Handle} {paramsOk : Bool} (act : Fin 64 → Record → State → State) (s : State)
    (bad : 64 ≤ h.slot.toNat ∨ paramsOk = false) : s.withRecord h paramsOk act = s.refuse .badParam :=
  if_pos bad.symm

theorem State.withRecord_stale {h : Handle} {paramsOk : Bool} (act : Fin 64 → Record → State → State) {s : State}
    (hslot : h.slot.toNat < 64) (params : paramsOk = true) (stale : s.store.reach h = none) :
    s.withRecord h paramsOk act = s.refuse .staleHandle := by
  rw [State.withRecord, if_neg (by simp [params, hslot]), stale]

/-- The two refusals of a request that names a handle, its parameters being valid when `P` holds: what the slot or a parameter refuses, and after that what currency refuses (R24). -/
theorem makes_withRecord_refusals {c : Instr} {h : Handle} {paramsOk : Bool} {P : Prop} {s : State}
    (act : Fin 64 → Record → State → State) (hexec : exec c s = .next (s.take c (State.withRecord h paramsOk act)))
    (params : paramsOk = true ↔ P) :
    (64 ≤ h.slot.toNat ∨ ¬ P → Makes c s (s.refuse .badParam)) ∧
      (h.slot.toNat < 64 → P →
        (∀ (i : Fin 64) (r : Record), h.slot = byte i → s.store.slots[i].record = some r → s.store.slots[i].gen ≠ h.gen) →
        Makes c s (s.refuse .staleHandle)) := by
  refine ⟨fun bad => ?_, fun hslot hP stale => ?_⟩
  · rw [← params, Bool.not_eq_true] at bad
    exact makes_of_eq _ hexec (State.withRecord_badParam act s bad)
  · exact makes_of_eq _ hexec (State.withRecord_stale act hslot (params.mpr hP) (Store.reach_eq_none stale))

/-! ### TGT_FIND -/

theorem tgtFind_refused {decoder address : Byte} (s : State) (h : 6 ≤ decoder.toNat) :
    tgtFind decoder address s = s.refuse .badParam := by
  rw [tgtFind, index?_eq_none.mpr h]

/-- With no key twice, TGT_FIND answers the handle of the record that has the key (R41). -/
theorem tgtFind_found {decoder address : Byte} {s : State} {i : Fin 64} {r : Record} (ok : StoreOk s)
    (hrecord : s.store.slots[i].record = some r) (hdecoder : r.decoder.val = decoder.toNat) (haddress : r.address = address) :
    tgtFind decoder address s = s.answered .ok [s.store.slots[i].gen, byte i] := by
  subst haddress
  rw [tgtFind, index?_eq_some.mpr hdecoder.symm]
  simp only [Store.find_of_record ok.keys hrecord, handleBytes, Store.handle]

theorem tgtFind_notFound {decoder address : Byte} {s : State} (hdecoder : decoder.toNat < 6)
    (absent : ∀ (i : Fin 64) (r : Record), s.store.slots[i].record = some r → r.decoder.val = decoder.toNat →
      r.address ≠ address) :
    tgtFind decoder address s = s.refuse .notFound := by
  have hfind : s.store.find ⟨decoder.toNat, hdecoder⟩ address = none :=
    Store.find_none.mpr fun i r hrecord ⟨hd, ha⟩ => absent i r hrecord (congrArg Fin.val hd) ha
  have hindex : index? 6 decoder = some ⟨decoder.toNat, hdecoder⟩ := index?_eq_some.mpr rfl
  rw [tgtFind, hindex]
  simp only [hfind]

/-! ### TGT_LIST -/

/-- The slots that TGT_LIST lists, by the bytes of the request (R42). -/
theorem Store.listed_eq {filter : Byte} {f : Option (Fin 6)} (hf : listFilter? filter = some f) (st : Store) (start : Nat)
    (i : Fin 64) :
    st.listed start f i = (decide (start ≤ i.val) &&
      (st.slots[i].record).any fun r => filter == 0xFF || byte r.decoder == filter) := by
  rw [Store.listed]
  congr 2
  funext r
  unfold listFilter? at hf
  split at hf
  next hall =>
    obtain rfl : none = f := Option.some.inj hf
    simp [hall]
  next hall =>
    obtain ⟨d, hd, rfl⟩ := Option.map_eq_some_iff.mp hf
    have hd : filter.toNat = d := index?_eq_some.mp hd
    have hbyte : byte r.decoder = filter ↔ r.decoder = d := by
      rw [← BitVec.toNat_inj, hd, Fin.ext_iff, byte, BitVec.toNat_ofNat, Nat.mod_eq_of_lt (by omega)]
    rw [beq_false_of_ne hall, Bool.false_or, Bool.eq_iff_iff, beq_iff_eq, beq_iff_eq, hbyte]

/-- The layout of a TGT_LIST entry (R214). -/
theorem Store.listEntry_eq (st : Store) (i : Fin 64) :
    st.listEntry i = match st.slots[i].record with
      | some r => [st.slots[i].gen, byte i, byte r.decoder, r.address, boolByte r.declared]
      | none => [] := by
  unfold Store.listEntry
  cases st.slots[i].record <;> rfl

theorem tgtList_refused {start filter max : Byte} (s : State)
    (h : 64 < start.toNat ∨ (6 ≤ filter.toNat ∧ filter ≠ 0xFF) ∨ max.toNat < 1 ∨ 16 < max.toNat) :
    tgtList start filter max s = s.refuse .badParam := by
  rw [← listFilter?_eq_none] at h
  unfold tgtList
  split
  next => rfl
  next hf => exact if_pos (by simpa [hf] using h)

/-- The slot after those listed: 64 when all are, and else the first that is left (R42). -/
def nextListed (found : List (Fin 64)) (max : Nat) : Nat :=
  if found.length ≤ max then 64 else ((found.drop max).head?.map Fin.val).getD 64

theorem nextListed_eq (found : List (Fin 64)) (max : Nat) :
    nextListed found max = match (found.drop max).head? with | some i => i.val | none => 64 := by
  unfold nextListed
  split_ifs with h
  · rw [List.drop_eq_nil_of_le h, List.head?_nil]
  · cases (found.drop max).head? <;> rfl

theorem tgtList_answers {start filter max : Byte} {f : Option (Fin 6)} {s : State} (hf : listFilter? filter = some f)
    (hstart : start.toNat ≤ 64) (hpos : 1 ≤ max.toNat) (hmax : max.toNat ≤ 16) :
    let found := (List.finRange 64).filter (s.store.listed start.toNat f)
    tgtList start filter max s = s.answered .ok
      ([byte (nextListed found max.toNat), byte (min max.toNat found.length)]
        ++ (found.take max.toNat).flatMap s.store.listEntry) := by
  intro found
  rw [tgtList, hf, nextListed_eq, ← List.length_take]
  exact if_neg (by omega)

/-! ### The statement -/

/-- Settles O32: each clause is the outcome of its request under that clause's premise; the requests that name a handle share the refusals of `State.withRecord`. -/
theorem tgtNames : Obligations.TgtNames := by
  refine ⟨fun decoder address s ok => ⟨fun h => ?_, fun hd => ⟨fun i r hrecord hdecoder haddress => ?_, fun absent => ?_⟩⟩,
    fun start filter max s => ⟨fun h => ?_, fun hstart hfilter hpos hmax => ?_⟩,
    fun h first max clear reg value mask op on s => ?_⟩
  · exact makes_of_eq (tgtFind decoder address) rfl (tgtFind_refused s h)
  · exact makes_of_eq (tgtFind decoder address) rfl (tgtFind_found ok hrecord hdecoder haddress)
  · exact makes_of_eq (tgtFind decoder address) rfl (tgtFind_notFound hd absent)
  · exact makes_of_eq (tgtList start filter max) rfl (tgtList_refused s h)
  · have hnamed : listFilter? filter ≠ none := by
      rw [ne_eq, listFilter?_eq_none]
      rintro ⟨hlarge, hall⟩
      exact hfilter.elim (Nat.not_lt.mpr hlarge) hall
    obtain ⟨f, hf⟩ := Option.ne_none_iff_exists'.mp hnamed
    have answers := tgtList_answers (s := s) hf hstart hpos hmax
    simp only [funext (Store.listed_eq hf s.store start.toNat), funext s.store.listEntry_eq] at answers
    exact makes_of_eq (tgtList start filter max) rfl answers
  · simp only [List.forall_mem_cons, List.not_mem_nil, false_imp_iff, implies_true, and_true]
    have hread : (decide (1 ≤ max.toNat) && decide (max.toNat ≤ 32) && (yesNo? clear).isSome) = true ↔
        1 ≤ max.toNat ∧ max.toNat ≤ 32 ∧ clear.toNat ≤ 1 := by
      simp only [Bool.and_eq_true, decide_eq_true_eq, yesNo?_isSome, and_assoc]
    exact ⟨makes_withRecord_refusals _ rfl hread, makes_withRecord_refusals _ rfl (iff_of_true rfl trivial),
      makes_withRecord_refusals _ rfl yesNo?_isSome, makes_withRecord_refusals _ rfl (iff_of_true rfl trivial),
      makes_withRecord_refusals _ rfl yesNo?_isSome, makes_withRecord_refusals _ rfl yesNo?_isSome⟩

end Sys2Proof.Machine
end

section
/-! DEC_START, DEC_STOP and DEC_READ (R59, R64, R69, R71, R72, R216): the line view that DEC_START loads, the abort that DEC_STOP makes, the layout of DEC_READ, and each outcome of the three requests by its own premise. -/

namespace Sys2Proof.Machine

/-! ### The line view (R59) -/

/-- A role's code names that role and no other (R211). -/
theorem role?_byte_code (r : Role) : role? (byte r.code) = some r := by
  cases r <;> rfl

theorem Role.code_inj {a b : Role} : a.code = b.code ↔ a = b :=
  ⟨fun h => Option.some.inj (by rw [← role?_byte_code a, h, role?_byte_code b]), congrArg Role.code⟩

/-- Loading a view binding by binding, a role's place is written by that role's own bindings alone. -/
theorem foldl_set_code (level : Fin 32 → Bool) (bs : List Binding) (v : Vector Bool 9) (r : Role) :
    (bs.foldl (fun v b => v.set b.role.code (level b.channel)) v)[r.code] =
      (bs.filter fun b => b.role == r).foldl (fun _ b => level b.channel) v[r.code] := by
  induction bs generalizing v with
  | nil => rfl
  | cons b bs ih =>
    rw [List.foldl_cons, ih, vset_get, List.filter_cons]
    by_cases h : b.role = r
    · rw [if_pos (Role.code_inj.mpr h), if_pos (beq_iff_eq.mpr h), List.foldl_cons]
    · rw [if_neg (mt Role.code_inj.mp h), if_neg (mt beq_iff_eq.mp h)]

/-- A role that one binding names is loaded from that binding's channel (R59). -/
theorem State.loadedView_of_bound_once {s : State} {dec : Decoder} {r : Role} {c : Fin 32}
    (h : dec.bindings.filter (fun b => b.role == r) = [{ role := r, channel := c }]) :
    (s.loadedView dec)[r.code] = s.channels[c].accepted := by
  rw [State.loadedView, foldl_set_code fun c => s.channels[c].accepted, h]
  rfl

theorem State.boundPodsLive_iff {s : State} {dec : Decoder} :
    s.boundPodsLive dec = true ↔ ∀ b ∈ dec.bindings, s.pods[podOf b.channel].state = .live := by
  simp only [State.boundPodsLive, State.podLive, List.all_eq_true, beq_iff_eq]

/-! ### DEC_START (R69) -/

theorem decStart_refused {decoder : Byte} (s : State) (h : 6 ≤ decoder.toNat) : decStart decoder s = s.refuse .badParam := by
  rw [decStart, index?_eq_none.mpr h]

theorem decStart_unconfigured {decoder : Byte} {d : Fin 6} {s : State} (hd : decoder.toNat = d)
    (hparams : s.decoders[d].params = .none) : decStart decoder s = s.refuse .notConfigured := by
  rw [decStart, index?_eq_some.mpr hd]
  exact if_pos hparams

theorem decStart_running {decoder : Byte} {d : Fin 6} {s : State} (hd : decoder.toNat = d)
    (hparams : s.decoders[d].params ≠ .none) (hstate : s.decoders[d].state ≠ .stopped) : decStart decoder s = s.ok := by
  rw [decStart, index?_eq_some.mpr hd]
  exact (if_neg hparams).trans (if_pos hstate)

theorem decStart_stopped {decoder : Byte} {d : Fin 6} {s : State} (hd : decoder.toNat = d)
    (hparams : s.decoders[d].params ≠ .none) (hstate : s.decoders[d].state = .stopped) :
    decStart decoder s = if s.boundPodsLive s.decoders[d] then (s.syncDecoder d).ok
      else (s.putDecoder d (s.decoders[d].afterEnd .suspended none)).ok := by
  rw [decStart, index?_eq_some.mpr hd]
  exact (if_neg hparams).trans (if_neg (not_not.mpr hstate))

/-! ### DEC_STOP (R72) -/

/-- An abort that the bus did not cause makes no error report (R64). -/
theorem State.abortReport_of_not_fromBus {reason : AbortReason} (h : reason.fromBus = false) (d : Fin 6)
    (st : Option Staging) (s : State) : s.abortReport d reason st = s := by
  unfold State.abortReport
  split
  next => rfl
  next =>
    split
    next => rfl
    next => rw [h]; rfl

theorem State.abort_of_not_fromBus {reason : AbortReason} (h : reason.fromBus = false) (d : Fin 6) (next : DecState)
    (staging : Option Staging) (s : State) :
    s.abort d reason next staging = s.putDecoder d ((s.decoders[d].countAbort reason).afterEnd next staging) :=
  State.abortReport_of_not_fromBus h d _ _

theorem decStop_refused {decoder : Byte} (s : State) (h : 6 ≤ decoder.toNat) : decStop decoder s = s.refuse .badParam := by
  rw [decStop, index?_eq_none.mpr h]

theorem decStop_stopped {decoder : Byte} {d : Fin 6} {s : State} (hd : decoder.toNat = d)
    (hstate : s.decoders[d].state = .stopped) : decStop decoder s = s.ok := by
  rw [decStop, index?_eq_some.mpr hd]
  simp only [hstate]

theorem decStop_busy {decoder : Byte} {d : Fin 6} {s : State} (hd : decoder.toNat = d)
    (hstate : s.decoders[d].state = .busy) :
    decStop decoder s = (s.putDecoder d ((s.decoders[d].countAbort .stop).afterEnd .stopped none)).ok := by
  rw [decStop, index?_eq_some.mpr hd]
  simp only [hstate, State.abort_of_not_fromBus (reason := .stop) rfl]

theorem decStop_waiting {decoder : Byte} {d : Fin 6} {s : State} (hd : decoder.toNat = d)
    (hstopped : s.decoders[d].state ≠ .stopped) (hbusy : s.decoders[d].state ≠ .busy) :
    decStop decoder s = (s.putDecoder d (s.decoders[d].afterEnd .stopped none)).ok := by
  rw [decStop, index?_eq_some.mpr hd]
  dsimp only
  split
  next h => exact absurd h hstopped
  next h => exact absurd h hbusy
  all_goals rfl

/-! ### DEC_READ (R71) -/

theorem decRead_refused {decoder : Byte} (s : State) (h : 6 ≤ decoder.toNat) : decRead decoder s = s.refuse .badParam := by
  rw [decRead, index?_eq_none.mpr h]

theorem decRead_answers {decoder : Byte} {d : Fin 6} (s : State) (hd : decoder.toNat = d) :
    decRead decoder s = s.answered .ok s.decoders[d].bytes := by
  rw [decRead, index?_eq_some.mpr hd]

/-- The bytes of one role in the DEC_READ payload: its code and its channel, and none where it is unbound (R215, R216). -/
theorem Decoder.bindingBytes_eq (dec : Decoder) (r : Role) :
    dec.bindingBytes r = match dec.bindings.find? fun b => b.role == r with
      | some b => [byte r.code, byte b.channel]
      | none => [] := by
  unfold Decoder.bindingBytes Decoder.channelOf
  cases dec.bindings.find? fun b => b.role == r <;> rfl

/-! ### The statement -/

/-- Settles O26: each clause is the outcome of its request under that clause's premise; what writes a decoder does so by `State.putDecoder`, which is a report. -/
theorem decStartStopRead : Obligations.DecStartStopRead := by
  refine ⟨fun decoder s => ⟨fun h => ?_, fun d hd => ⟨fun hparams => ?_, fun hparams hstate => ?_,
      fun hparams hstate hdown => ?_, fun hparams hstate hlive => ?_⟩⟩,
    fun decoder s => ⟨fun h => ⟨?_, ?_⟩, fun d hd => ⟨fun hstate => ?_, fun hstate => ?_, fun hstopped hbusy => ?_, ?_⟩⟩⟩
  · exact makes_of_eq (decStart decoder) rfl (decStart_refused s h)
  · exact makes_of_eq (decStart decoder) rfl (decStart_unconfigured hd hparams)
  · exact makes_of_eq (decStart decoder) rfl (decStart_running hd hparams hstate)
  · have hnot : ¬ s.boundPodsLive s.decoders[d] = true := fun hlive => by
      obtain ⟨b, hb, hpod⟩ := hdown
      exact hpod (State.boundPodsLive_iff.mp hlive b hb)
    have suspends := (decStart_stopped hd hparams hstate).trans (if_neg hnot)
    exact (makes_of_eq (decStart decoder) rfl suspends).some (State.putDecoder_upTo _ _ _).ok
  · have syncs := (decStart_stopped hd hparams hstate).trans (if_pos (State.boundPodsLive_iff.mpr hlive))
    exact (makes_of_eq (decStart decoder) rfl syncs).some
      ⟨s.loadedView s.decoders[d], fun r c => State.loadedView_of_bound_once, (State.putDecoder_upTo _ _ _).ok⟩
  · exact makes_of_eq (decStop decoder) rfl (decStop_refused s h)
  · exact makes_of_eq (decRead decoder) rfl (decRead_refused s h)
  · exact makes_of_eq (decStop decoder) rfl (decStop_stopped hd hstate)
  · exact (makes_of_eq (decStop decoder) rfl (decStop_busy hd hstate)).some (State.putDecoder_upTo _ _ _).ok
  · exact (makes_of_eq (decStop decoder) rfl (decStop_waiting hd hstopped hbusy)).some (State.putDecoder_upTo _ _ _).ok
  · have answers := decRead_answers s hd
    simp only [Decoder.bytes, funext (Decoder.bindingBytes_eq _)] at answers
    exact makes_of_eq (decRead decoder) rfl answers

end Sys2Proof.Machine
end

section
/-! MTR_START, MTR_STOP, MTR_CLEAR and MTR_READ (R112 to R114, R119 to R122, R217): a meter after a window open and after a gate stop, the two events at every follower, the layout of MTR_READ, and each outcome of the four requests by its own premise. -/

namespace Sys2Proof.Machine

/-! ### Events that reach every entry of a table -/

/-- Updates of one entry each, taken in turn over distinct entries. -/
theorem foldl_set_get {α : Type} {n : Nat} (f : α → α) (l : List (Fin n)) (hl : l.Nodup) (v : Vector α n) (j : Fin n) :
    (l.foldl (fun v i => v.set i (f v[i])) v)[j] = if j ∈ l then f v[j] else v[j] := by
  induction l generalizing v with
  | nil => rfl
  | cons i l ih =>
    obtain ⟨hi, hl⟩ := List.nodup_cons.mp hl
    rw [List.foldl_cons, ih hl, vset_get]
    by_cases h : i = j
    · subst h
      rw [if_neg hi, if_pos rfl, if_pos List.mem_cons_self]
    · simp only [if_neg h, List.mem_cons, Ne.symm h, false_or]

/-- Updates of one entry each, taken at every entry by index. -/
theorem foldl_set_finRange {α : Type} {n : Nat} (f : α → α) (v : Vector α n) :
    (List.finRange n).foldl (fun v i => v.set i (f v[i])) v = tab fun i => f v[i] := by
  refine vec_ext fun j => ?_
  rw [foldl_set_get f _ (List.nodup_finRange n), tab_get, if_pos (List.mem_finRange j)]

/-! ### A window open at the followers (R112, R113) -/

/-- A meter after gate `g` opens its window, by the pods that are LIVE: a follower in ARMED counts, or holds no edge (R113). -/
def Meter.afterOpen (live : Fin 4 → Bool) (g : Fin 8) (stamp : Nat) (mt : Meter) : Meter :=
  if mt.config.mode == .count && mt.config.gate == g then
    match mt.state with
    | .armed held => { mt with state := if live (podOf mt.config.channelA) then counting stamp held else .armed none }
    | _ => mt
  else mt

/-- A meter that is not in ARMED takes no window open. -/
theorem Meter.afterOpen_of_not_armed {mt : Meter} (h : ∀ held, mt.state ≠ .armed held) (live : Fin 4 → Bool) (g : Fin 8)
    (stamp : Nat) : mt.afterOpen live g stamp = mt := by
  unfold Meter.afterOpen
  split
  · split
    next held hs => exact absurd hs (h held)
    next => rfl
  · rfl

/-- A COUNT meter uses channel A alone (R103), so its used pods are LIVE when that channel's pod is. -/
theorem State.usedPodsLive_count {s : State} {c : MeterConfig} (h : c.mode = .count) :
    s.usedPodsLive c = s.podLive (podOf c.channelA) := by
  simp [State.usedPodsLive, MeterConfig.usedChannels, h]

theorem State.followerOpen_eq (g : Fin 8) (stamp : Nat) (s : State) (f : Fin 8) :
    s.followerOpen g stamp f = { s with meters := s.meters.set f (s.meters[f].afterOpen s.podLive g stamp) } := by
  unfold State.followerOpen Meter.afterOpen State.follows
  split
  next hfollows =>
    have hcount : s.meters[f].config.mode = .count := beq_iff_eq.mp (Bool.and_eq_true_iff.mp hfollows).1
    cases hstate : s.meters[f].state
    case armed held =>
      simp only [State.setMeterState_eq, State.usedPodsLive_count hcount, counting]
      split <;> rfl
    all_goals exact (State.replaceMeter_self s f).symm
  next => exact (State.replaceMeter_self s f).symm

/-- Events that each change one meter and nothing else, taken at every meter by index. -/
theorem foldl_meters_eq {g : State → Fin 8 → State} {f : Meter → Meter} {s : State}
    (hg : ∀ (v : Vector Meter 8) (i : Fin 8), g { s with meters := v } i = { s with meters := v.set i (f v[i]) })
    (v : Vector Meter 8) : (List.finRange 8).foldl g { s with meters := v } = { s with meters := tab fun i => f v[i] } := by
  rw [← foldl_set_finRange]
  exact List.foldl_hom (fun v => { s with meters := v }) hg

/-- A window open: the gate is OPEN, and every other meter is as the window open leaves it (R112, R113). -/
theorem State.openWindow_eq (g : Fin 8) (stamp : Nat) (s : State) :
    s.openWindow g stamp = { s with meters := tab fun f =>
      if f = g then { s.meters[g] with state := .windowOpen stamp } else s.meters[f].afterOpen s.podLive g stamp } := by
  have followers : ∀ (v : Vector Meter 8) (f : Fin 8), State.followerOpen g stamp { s with meters := v } f =
      { s with meters := v.set f (v[f].afterOpen s.podLive g stamp) } := fun v f => State.followerOpen_eq g stamp _ f
  rw [State.openWindow, State.setMeterState_eq, foldl_meters_eq followers]
  refine congrArg (fun v => { s with meters := v }) (vec_ext fun f => ?_)
  rw [tab_get, tab_get]
  by_cases h : f = g
  · subst h
    rw [if_pos rfl, vset_same, Meter.afterOpen_of_not_armed fun _ => MeterState.noConfusion]
  · rw [if_neg h, vset_other _ _ (Ne.symm h)]

/-! ### A gate stop at the followers (R114) -/

/-- A meter after a stop of gate `g`: a follower in COUNTING is disturbed and ARMED (R114). -/
def Meter.afterGateStop (g : Fin 8) (mt : Meter) : Meter :=
  if mt.config.mode == .count && mt.config.gate == g then
    match mt.state with
    | .counting _ _ _ => { mt with
        state := .armed none
        record := { mt.record with disturbed := satInc mt.record.disturbed } }
    | _ => mt
  else mt

/-- A meter that is OFF takes no gate stop. -/
theorem Meter.afterGateStop_of_off {mt : Meter} (h : mt.state = .off) (g : Fin 8) : mt.afterGateStop g = mt := by
  simp only [Meter.afterGateStop, h, ite_self]

theorem State.followerStop_upTo (g : Fin 8) (s : State) (f : Fin 8) :
    UpToReports { s with meters := s.meters.set f (s.meters[f].afterGateStop g) } (s.followerStop g f) := by
  unfold State.followerStop Meter.afterGateStop State.follows
  split
  · cases hstate : s.meters[f].state
    case counting => exact State.putMeter_upTo _ _ _
    all_goals exact UpToReports.of_eq (State.replaceMeter_self s f).symm
  · exact UpToReports.of_eq (State.replaceMeter_self s f).symm

/-- A gate stop at every meter. -/
theorem State.followersStop_upTo (g : Fin 8) (s : State) :
    UpToReports { s with meters := tab fun f => s.meters[f].afterGateStop g }
      ((List.finRange 8).foldl (State.followerStop g) s) := by
  have fold := foldl_meters_upTo (State.followerStop g) (fun _ mt => mt.afterGateStop g) (fun s f => State.followerStop_upTo g s f)
    (List.finRange 8) (List.nodup_finRange 8) s
  simpa only [List.mem_finRange, if_true] using fold

/-! ### Refusals of a meter out of range -/

theorem mtrStart_refused {meter : Byte} (s : State) (h : 8 ≤ meter.toNat) : mtrStart meter s = s.refuse .badParam := by
  rw [mtrStart, index?_eq_none.mpr h]

theorem mtrStop_refused {meter : Byte} (s : State) (h : 8 ≤ meter.toNat) : mtrStop meter s = s.refuse .badParam := by
  rw [mtrStop, index?_eq_none.mpr h]

theorem mtrClear_refused {meter : Byte} (s : State) (h : 8 ≤ meter.toNat) : mtrClear meter s = s.refuse .badParam := by
  rw [mtrClear, index?_eq_none.mpr h]

theorem mtrRead_refused {meter : Byte} (s : State) (h : 8 ≤ meter.toNat) : mtrRead meter s = s.refuse .badParam := by
  rw [mtrRead, index?_eq_none.mpr h]

/-! ### MTR_START (R119) -/

section
variable {meter : Byte} {m : Fin 8} {s : State} (hm : meter.toNat = m)
include hm

theorem mtrStart_running (hstate : s.meters[m].state ≠ .off) : mtrStart meter s = s.ok := by
  rw [mtrStart, index?_eq_some.mpr hm]
  exact if_pos hstate

theorem mtrStart_no_gate (hstate : s.meters[m].state = .off) (hmode : s.meters[m].config.mode = .count)
    (hgate : s.meters[s.meters[m].config.gate].config.mode ≠ .gate) : mtrStart meter s = s.refuse .badGate := by
  rw [mtrStart, index?_eq_some.mpr hm]
  simp only [hmode]
  exact (if_neg (not_not.mpr hstate)).trans (if_pos hgate)

theorem mtrStart_gate (hstate : s.meters[m].state = .off) (hmode : s.meters[m].config.mode = .gate) :
    mtrStart meter s = (s.openWindow m s.clock.now).ok := by
  rw [mtrStart, index?_eq_some.mpr hm]
  simp only [hmode]
  exact if_neg (not_not.mpr hstate)

theorem mtrStart_arms (hstate : s.meters[m].state = .off) (hmode : s.meters[m].config.mode ≠ .gate)
    (hgate : s.meters[m].config.mode ≠ .count ∨ s.meters[s.meters[m].config.gate].config.mode = .gate) :
    mtrStart meter s = State.ok { s with meters := s.meters.set m { s.meters[m] with state := .armed none } } := by
  rw [mtrStart, index?_eq_some.mpr hm, ← State.setMeterState_eq]
  refine (if_neg (not_not.mpr hstate)).trans ?_
  split
  next hcount => exact if_neg (not_not.mpr (hgate.resolve_left (not_not.mpr hcount)))
  next hopens => exact absurd hopens hmode
  all_goals rfl

/-! ### MTR_STOP (R120) -/

theorem mtrStop_off (hstate : s.meters[m].state = .off) : mtrStop meter s = s.ok := by
  rw [mtrStop, index?_eq_some.mpr hm]
  exact if_pos hstate

theorem mtrStop_not_gate (hstate : s.meters[m].state ≠ .off) (hmode : s.meters[m].config.mode ≠ .gate) :
    mtrStop meter s = (s.setMeterState m .off).ok := by
  rw [mtrStop, index?_eq_some.mpr hm]
  exact (if_neg hstate).trans (congrArg State.ok (if_neg hmode))

theorem mtrStop_gate (hstate : s.meters[m].state ≠ .off) (hmode : s.meters[m].config.mode = .gate) :
    mtrStop meter s = ((List.finRange 8).foldl (State.followerStop m) (s.setMeterState m .off)).ok := by
  rw [mtrStop, index?_eq_some.mpr hm]
  exact (if_neg hstate).trans (congrArg State.ok (if_pos hmode))

/-- What a stop leaves: the meter OFF, and where it is a gate every other meter after the gate stop (R114, R120). -/
theorem mtrStop_upTo (hstate : s.meters[m].state ≠ .off) :
    UpToReports (State.ok { s with meters := tab fun f =>
      if f = m then { s.meters[m] with state := .off }
      else if s.meters[m].config.mode = .gate then s.meters[f].afterGateStop m else s.meters[f] }) (mtrStop meter s) := by
  by_cases hmode : s.meters[m].config.mode = .gate
  · rw [mtrStop_gate hm hstate hmode, State.setMeterState_eq]
    refine (UpToReports.of_eq ?_).trans (State.followersStop_upTo m _).ok
    congr 3
    funext f
    by_cases h : f = m
    · subst h
      simp only [vset_same, if_true, Meter.afterGateStop_of_off]
    · simp only [if_neg h, if_pos hmode, vset_other _ _ (Ne.symm h)]
  · rw [mtrStop_not_gate hm hstate hmode, State.setMeterState_eq]
    refine UpToReports.of_eq ?_
    congr 2
    refine vec_ext fun f => ?_
    simp only [tab_get, vset_get, if_neg hmode, eq_comm (a := f)]

/-! ### MTR_CLEAR and MTR_READ (R121, R122) -/

theorem mtrClear_clears :
    mtrClear meter s = (s.putMeter m { s.meters[m] with record := MeterRecord.cleared }).ok := by
  rw [mtrClear, index?_eq_some.mpr hm]

/-- The MTR_READ payload is the 15 bytes of the configuration, the state and the record (R122, R217). -/
theorem mtrRead_answers :
    mtrRead meter s = s.answered .ok
      (s.meters[m].config.bytes ++ [s.meters[m].state.code] ++ s.meters[m].record.bytes) := by
  rw [mtrRead, index?_eq_some.mpr hm]

end

/-! ### The statement -/

/-- Settles O38: each clause is the outcome of its request under that clause's premise; a window open writes the states of meters alone, and what a gate stop or a clear writes in a record is a report. -/
theorem mtrRequests : Obligations.MtrRequests := by
  refine ⟨fun meter s => ⟨fun h => ?_, fun m hm => ⟨fun hstate => ?_, fun hstate hmode hgate => ?_, fun hstate hmode => ?_,
      fun hstate hmode hgate => ?_⟩⟩,
    fun meter s => ⟨fun h => ⟨?_, ?_, ?_⟩, fun m hm => ⟨fun hstate => ?_, fun hstate => ?_, ?_, ?_⟩⟩⟩
  · exact makes_of_eq (mtrStart meter) rfl (mtrStart_refused s h)
  · exact makes_of_eq (mtrStart meter) rfl (mtrStart_running hm hstate)
  · exact makes_of_eq (mtrStart meter) rfl (mtrStart_no_gate hm hstate hmode hgate)
  · have opens := mtrStart_gate hm hstate hmode
    rw [State.openWindow_eq] at opens
    exact makes_of_eq (mtrStart meter) rfl opens
  · exact makes_of_eq (mtrStart meter) rfl (mtrStart_arms hm hstate hmode hgate)
  · exact makes_of_eq (mtrStop meter) rfl (mtrStop_refused s h)
  · exact makes_of_eq (mtrClear meter) rfl (mtrClear_refused s h)
  · exact makes_of_eq (mtrRead meter) rfl (mtrRead_refused s h)
  · exact makes_of_eq (mtrStop meter) rfl (mtrStop_off hm hstate)
  · refine makesSome_of_take (mtrStop meter) rfl ((UpToReports.of_eq ?_).trans (mtrStop_upTo hm hstate))
    congr 3
    funext f
    rw [ite_and]
    rfl
  · exact (makes_of_eq (mtrClear meter) rfl (mtrClear_clears hm)).some (State.putMeter_upTo _ _ _).ok
  · exact makes_of_eq (mtrRead meter) rfl (mtrRead_answers hm)

end Sys2Proof.Machine
end

section
/-! The notice requests (R138 to R144, R151, R218): what the writing of a pod leaves of the notices, the acknowledgement of each kind, the levels and the hold, the layout of NTC_READ, and each outcome of the five requests by its own premise. -/

namespace Sys2Proof.Machine

/-! ### Operands -/

theorem yesNo?_boolByte (b : Bool) : yesNo? (boolByte b) = some b := by
  cases b <;> rfl

theorem yesNo?_eq_none {b : Byte} (h : 1 < b.toNat) : yesNo? b = none := by
  rw [← Option.not_isSome_iff_eq_none, yesNo?_isSome]
  omega

theorem Condition.isChange_iff {c : Condition} : c.isChange = true ↔ c = .change := by
  cases c <;> simp [Condition.isChange]

/-! ### Writing pods keeps the notices (R139) -/

/-- The POD_FAULT mask follows the mark of a pod that is written, and what is derived is derived afresh. -/
theorem State.putPod_noticesOk (p : Fin 4) (new : Pod) {s : State} (h : NoticesOk s) : NoticesOk (s.putPod p new) where
  derived := State.putPod_derived p new s h.derived
  marks q := by
    rw [(State.putPod_upTo p new s (h.marks p)).podFault, State.putPod_pods, vset_get, State.withPod, maskOf_getLsbD]
    by_cases hq : q = p
    · rw [if_pos hq, if_pos hq.symm]
    · rw [if_neg hq, if_neg (Ne.symm hq), h.marks]

/-- `t` is `s` but for its pods, the POD_FAULT mask that follows their marks, and what reports do. -/
structure PodsRewritten (s t : State) : Prop where
  notices : NoticesOk t
  upTo    : UpToReports { s with pods := t.pods, watch := { s.watch with podFault := t.watch.podFault } } t

theorem PodsRewritten.refl {s : State} (h : NoticesOk s) : PodsRewritten s s := ⟨h, UpToReports.refl s⟩

theorem PodsRewritten.putPod {s t : State} (h : PodsRewritten s t) (p : Fin 4) (new : Pod) :
    PodsRewritten s (t.putPod p new) where
  notices := State.putPod_noticesOk p new h.notices
  upTo := by
    have written := State.putPod_upTo p new t (h.notices.marks p)
    rw [written.pods, written.podFault]
    exact ((h.upTo.withPods (t.withPod p new).pods).withPodFault (t.withPod p new).watch.podFault).trans written

/-! ### NTC_ACK of POD_FAULT (R142) -/

theorem State.putPod_self (p : Fin 4) (s : State) : s.putPod p s.pods[p] = s := by
  simp [State.putPod]

/-- A pod with its fault mark cleared. -/
def Pod.unmarked (p : Pod) : Pod := { p with faultMark := false }

/-- Clearing a mark is the writing of the pod; where no mark is set, the pod that is written is the pod itself. -/
theorem State.clearMark_eq (s : State) (p : Fin 4) : s.clearMark p = s.putPod p s.pods[p].unmarked := by
  unfold State.clearMark
  split
  next => rfl
  next hclear =>
    have hsame : s.pods[p].unmarked = s.pods[p] := by
      rw [Pod.unmarked, ← Bool.eq_false_iff.mpr hclear]
    rw [hsame, State.putPod_self]

theorem State.clearMarks_rewritten (l : List (Fin 4)) {s : State} (h : NoticesOk s) :
    PodsRewritten s (l.foldl State.clearMark s) := by
  refine foldl_inv (PodsRewritten s) State.clearMark (fun t p ht => ?_) l s (PodsRewritten.refl h)
  rw [State.clearMark_eq]
  exact ht.putPod p _

theorem State.clearMarks_pods (l : List (Fin 4)) (hl : l.Nodup) (s : State) :
    (l.foldl State.clearMark s).pods = tab fun p => if p ∈ l then s.pods[p].unmarked else s.pods[p] := by
  have hstep : ∀ (t : State) (p : Fin 4), t.pods.set p t.pods[p].unmarked = (t.clearMark p).pods := fun t p => by
    rw [State.clearMark_eq, State.putPod_pods]
  have hfold : (l.foldl State.clearMark s).pods = l.foldl (fun v p => v.set p v[p].unmarked) s.pods :=
    (List.foldl_hom State.pods hstep).symm
  refine vec_ext fun p => ?_
  rw [hfold, foldl_set_get _ l hl, tab_get]

theorem mem_namedPods {mask : Byte} {p : Fin 4} : p ∈ namedPods mask ↔ mask.getLsbD p = true := by
  simp [namedPods]

theorem namedPods_nodup (mask : Byte) : (namedPods mask).Nodup := (List.nodup_finRange 4).filter _

/-- The mask after the named marks are cleared is read off the marks, of which it is a copy (R139). -/
theorem State.clearMarks_podFault (mask : Byte) {s : State} (h : NoticesOk s) :
    ((namedPods mask).foldl State.clearMark s).watch.podFault = s.watch.podFault &&& ~~~ mask.setWidth 4 := by
  refine mask_ext fun p => ?_
  rw [(State.clearMarks_rewritten _ h).notices.marks, State.clearMarks_pods _ (namedPods_nodup mask), tab_get]
  have hbit : (s.watch.podFault &&& ~~~ mask.setWidth 4).getLsbD p = (s.pods[p].faultMark && !mask.getLsbD p) := by
    rw [← h.marks]
    simp
  rw [hbit]
  by_cases hnamed : mask.getLsbD p = true
  · rw [if_pos (mem_namedPods.mpr hnamed), hnamed]
    simp [Pod.unmarked]
  · rw [if_neg (mt mem_namedPods.mp hnamed), Bool.eq_false_iff.mpr hnamed]
    simp

theorem State.clearMarks_upTo (mask : Byte) {s : State} (h : NoticesOk s) :
    UpToReports { s with
        pods := tab fun p => if mask.getLsbD p then s.pods[p].unmarked else s.pods[p]
        watch := { s.watch with podFault := s.watch.podFault &&& ~~~ mask.setWidth 4 } }
      ((namedPods mask).foldl State.clearMark s) := by
  have hall := (State.clearMarks_rewritten (namedPods mask) h).upTo
  rw [State.clearMarks_podFault mask h, State.clearMarks_pods _ (namedPods_nodup mask)] at hall
  simpa only [mem_namedPods] using hall

theorem ackPodFault_nothing {mask : Byte} {s : State}
    (h : ∀ p : Fin 4, mask.getLsbD p = true → s.pods[p].faultMark = false) : ackPodFault mask s = s.refuse .nothing :=
  if_neg (Bool.eq_false_iff.mp (namedPods_any_eq_false.mpr h))

theorem ackPodFault_clears {mask : Byte} {s : State}
    (h : ∃ p : Fin 4, mask.getLsbD p = true ∧ s.pods[p].faultMark = true) :
    ackPodFault mask s = ((namedPods mask).foldl State.clearMark s).ok :=
  if_pos (namedPods_any.mpr h)

/-! ### The kinds of NTC_ACK (R142) -/

theorem ntcAckNotice_kind_out_of_range {kind : Byte} (mask : Byte) (s : State) (h : kind = 0 ∨ 7 ≤ kind.toNat) :
    ntcAckNotice kind mask s = s.refuse .badParam := by
  have other : ∀ k : Byte, 1 ≤ k.toNat → k.toNat ≤ 5 → kind ≠ k := by
    rintro k hlow hhigh rfl
    obtain rfl | h := h
    · exact absurd hlow (by decide)
    · omega
  simp only [ntcAckNotice, other 1 (by decide) (by decide), other 2 (by decide) (by decide),
    other 3 (by decide) (by decide), other 4 (by decide) (by decide), other 5 (by decide) (by decide), if_false]

theorem ntcAckNotice_mask_out_of_range {kind mask : Byte} (s : State) (hkind : kind = 1 ∨ kind = 2)
    (hmask : 16 ≤ mask.toNat) : ntcAckNotice kind mask s = s.refuse .badParam := by
  obtain rfl | rfl := hkind <;> exact if_pos hmask

theorem ntcAckNotice_podFault {mask : Byte} (s : State) (h : mask.toNat < 16) :
    ntcAckNotice 1 mask s = ackPodFault mask s :=
  if_neg (Nat.not_le.mpr h)

theorem ntcAckNotice_podChange {mask : Byte} (s : State) (h : mask.toNat < 16) :
    ntcAckNotice 2 mask s = ackPodChange mask s :=
  if_neg (Nat.not_le.mpr h)

/-! ### Sources of the derivation (R140, R144, R151) -/

/-- A derivation moves no watch. -/
theorem State.derive_watches (s : State) : s.derive.watch.watches = s.watch.watches := by
  rw [State.derive_watch, WatchUnit.derived_watches]

section
variable {c : Instr} {s : State} {w : WatchUnit} (h : Makes c s (State.derive { s with watch := w }).ok)
include h

/-- A request that changes sources and then derives: all else is a report, and what is derived is derived afresh. -/
theorem Makes.derives :
    MakesSome c s fun u => UpToReports (State.ok { s with watch := w }) u ∧ u.watch.Derived :=
  h.some ⟨(State.derive_upTo _).ok, State.derive_derived { s with watch := w }⟩

theorem Makes.derives_watches :
    MakesSome c s fun u =>
      UpToReports (State.ok { s with watch := w }) u ∧ u.watch.watches = w.watches ∧ u.watch.Derived :=
  h.some ⟨(State.derive_upTo _).ok, State.derive_watches { s with watch := w },
    State.derive_derived { s with watch := w }⟩

end

/-! ### NTC_ACK of a watch (R143) -/

theorem Watch.acknowledged_eq (w : Watch) (now : Sample) :
    w.acknowledged now = { w with
      state := if w.condition ≠ .change ∧ w.condition.holds now = true then .held else .idle, sample := now } := by
  unfold Watch.acknowledged
  by_cases h : w.condition = .change
  · rw [if_pos (Condition.isChange_iff.mpr h), if_neg fun k => k.1 h]
  · rw [if_neg (mt Condition.isChange_iff.mp h)]
    simp only [ne_eq, h, not_false_eq_true, true_and]

theorem ntcAckWatch_refused {watch : Byte} (s : State) (h : 32 ≤ watch.toNat) :
    ntcAckWatch watch s = s.refuse .badParam := by
  rw [ntcAckWatch, index?_eq_none.mpr h]

section
variable {watch : Byte} {i : Fin 32} {s : State} (hi : watch.toNat = i)
include hi

theorem ntcAckWatch_nothing (h : s.watch.watches[i].state ≠ .tripped) : ntcAckWatch watch s = s.refuse .nothing := by
  rw [ntcAckWatch, index?_eq_some.mpr hi]
  exact if_pos h

theorem ntcAckWatch_acknowledges (h : s.watch.watches[i].state = .tripped) :
    ntcAckWatch watch s =
      (s.putWatch i (s.watch.watches[i].acknowledged (s.subjectSample s.watch.watches[i].subject))).ok := by
  rw [ntcAckWatch, index?_eq_some.mpr hi]
  exact if_neg (not_not.mpr h)

end

/-! ### NTC_LEVELS and HOLD (R144, R151) -/

theorem hold_refused {on : Byte} (s : State) (h : 1 < on.toNat) : hold on s = s.refuse .badParam := by
  rw [hold, yesNo?_eq_none h]

theorem hold_same {s : State} {b : Bool} (h : s.watch.hold = b) : hold (boolByte b) s = s.ok := by
  rw [hold, yesNo?_boolByte]
  exact if_pos h

theorem hold_changes {s : State} {b : Bool} (h : s.watch.hold = !b) :
    hold (boolByte b) s = (State.derive { s with watch := { s.watch with hold := b } }).ok := by
  rw [hold, yesNo?_boolByte]
  exact if_neg (by simp [h])

/-! ### NTC_READ (R141, R218) -/

theorem flags_triple (a b c : Bool) : flags [a, b, c] = boolByte a + 2 * boolByte b + 4 * boolByte c := by
  revert a b c; decide

theorem WatchUnit.noticeBytes_of_current {u : WatchUnit} {n : Notice} (h : u.current = n) :
    u.noticeBytes = ({ u with current := n } : WatchUnit).noticeBytes := by
  rw [← h]

theorem WatchUnit.tripped_getLsbD (u : WatchUnit) (i : Fin 32) :
    u.tripped.getLsbD i = true ↔ u.watches[i].state = .tripped := by
  rw [WatchUnit.tripped, maskOf_getLsbD, beq_iff_eq]

/-- The layout of the NTC_READ payload (R218). -/
theorem WatchUnit.bytes_eq (u : WatchUnit) :
    u.bytes = u.noticeBytes ++ [u.podFault.setWidth 8, u.podChange.setWidth 8,
          boolByte u.panelLost + 2 * boolByte u.storeFull + 4 * boolByte u.cellsFull]
        ++ be32 u.tripped ++ [u.attention, u.freezeLevel,
          boolByte u.attn + 2 * boolByte u.freeze + 4 * boolByte u.hold]
        ++ be32 u.cause := by
  rw [WatchUnit.bytes, flags_triple, flags_triple]

/-! ### The statement -/

/-- Settles O44: each clause is the outcome of its request under that clause's premise; a mark is cleared by the writing of its pod and a watch acknowledged by the writing of the watch table, which are reports, and every other change is one of a source of the derivation. -/
theorem noticeRequests : Obligations.NoticeRequests := by
  refine ⟨fun kind mask watch s ok => ⟨fun h => ?_, fun hkind hmask => ?_, fun hmask hunmarked => ?_,
      fun hmask hmarked => ?_, fun hmask hclear => ?_, fun hmask hpending => ?_, fun h => ?_, fun h => ?_, fun h => ?_,
      fun h => ?_, fun h => ?_, fun h => ?_, fun h => ?_, fun i hi => ⟨fun hstate => ?_, fun hstate => ?_⟩⟩,
    fun attention freeze on s => ⟨fun h => ?_, fun hattention hfreeze => ?_, fun h => ?_, fun b hb hsame => ?_,
      fun b hb hother => ?_⟩,
    fun s => ⟨s.watch.noticeBytes, s.watch.tripped, WatchUnit.noticeBytes_of_current, WatchUnit.noticeBytes_of_current,
      WatchUnit.noticeBytes_of_current, WatchUnit.noticeBytes_of_current, WatchUnit.noticeBytes_of_current,
      WatchUnit.noticeBytes_of_current, fun i => WatchUnit.noticeBytes_of_current, s.watch.tripped_getLsbD, ?_⟩⟩
  · exact makes_of_eq (ntcAckNotice kind mask) rfl (ntcAckNotice_kind_out_of_range mask s h)
  · exact makes_of_eq (ntcAckNotice kind mask) rfl (ntcAckNotice_mask_out_of_range s hkind hmask)
  · exact makes_of_eq (ntcAckNotice 1 mask) rfl ((ntcAckNotice_podFault s hmask).trans (ackPodFault_nothing hunmarked))
  · exact (makes_of_eq (ntcAckNotice 1 mask) rfl ((ntcAckNotice_podFault s hmask).trans (ackPodFault_clears hmarked))).some
      ⟨(State.clearMarks_upTo mask ok).ok, (State.clearMarks_rewritten (namedPods mask) ok).notices.derived⟩
  · exact makes_of_eq (ntcAckNotice 2 mask) rfl ((ntcAckNotice_podChange s hmask).trans (if_pos hclear))
  · have derives := (ntcAckNotice_podChange s hmask).trans (if_neg hpending)
    exact (makes_of_eq (ntcAckNotice 2 mask) rfl derives).derives
  · exact makes_of_eq (ntcAckNotice 3 mask) rfl (if_neg (Bool.eq_false_iff.mp h))
  · exact (makes_of_eq (ntcAckNotice 3 mask) rfl (if_pos h)).derives
  · exact makes_of_eq (ntcAckNotice 4 mask) rfl (if_neg (Bool.eq_false_iff.mp h))
  · exact (makes_of_eq (ntcAckNotice 4 mask) rfl (if_pos h)).derives
  · exact makes_of_eq (ntcAckNotice 5 mask) rfl (if_neg (Bool.eq_false_iff.mp h))
  · exact (makes_of_eq (ntcAckNotice 5 mask) rfl (if_pos h)).derives
  · exact makes_of_eq (ntcAckWatch watch) rfl (ntcAckWatch_refused s h)
  · exact makes_of_eq (ntcAckWatch watch) rfl (ntcAckWatch_nothing hi hstate)
  · rw [← Watch.acknowledged_eq]
    exact (makes_of_eq (ntcAckWatch watch) rfl (ntcAckWatch_acknowledges hi hstate)).some
      ⟨State.setWatches_derived _ s, State.setWatches_watches _ s, (State.setWatches_upTo _ s).ok⟩
  · exact makes_of_eq (ntcLevels attention freeze) rfl (if_pos h)
  · exact (makes_of_eq (ntcLevels attention freeze) rfl (if_neg (by omega))).derives_watches
  · exact makes_of_eq (hold on) rfl (hold_refused s h)
  · subst hb
    exact makes_of_eq (hold (boolByte b)) rfl (hold_same hsame)
  · subst hb
    exact (makes_of_eq (hold (boolByte b)) rfl (hold_changes hother)).derives_watches
  · rw [← WatchUnit.bytes_eq]
    exact makes_of_eq ntcRead rfl rfl

end Sys2Proof.Machine
end

section
/-! What a step can do, said once for every invariant: a command acts by its meaning where it is taken, and on an empty queue a sample period is the samples of the filters followed by an accepted edge, if any. -/

namespace Sys2Proof.Machine

/-! ### The meaning of a command -/

/-- What a command does where the part takes it: the meaning that `exec` calls for it. -/
def effect : Instr → State → State
  | .fullReset sense => fullReset sense
  | .requestFrame wave => requestFrame wave
  | .readFrame wave => readFrame wave
  | .answer => answer
  | .devIdent => devIdent
  | .devStatus later => devStatus later
  | .devRestart => devRestart
  | .podSet pod requested code widths => podSet pod requested code widths
  | .podGo mask => podGo mask
  | .podRead pod => podRead pod
  | .insertionTimerStart p => insertionTimerStart p
  | .insertionTimerStop p => insertionTimerStop p
  | .insertion p => insertion p
  | .removal p => removal p
  | .overcurrent p => overcurrent p
  | .rampingExpiry p => rampingExpiry p
  | .settlingExpiry p levels => settlingExpiry p levels
  | .stoppingExpiry p => stoppingExpiry p
  | .acceptedEdge channel also stamp order => acceptedEdge channel also stamp order
  | .filterCandidate c level stamp => filterCandidate c level stamp
  | .twoWireIdleExpiry d clock data => twoWireIdleExpiry d clock data
  | .asyncIdleExpiry d line => asyncIdleExpiry d line
  | .asyncSamplePoint d line => asyncSamplePoint d line
  | .characterJudged d line => characterJudged d line
  | .breakTimeout d line => breakTimeout d line
  | .idleGapExpiry d => idleGapExpiry d
  | .tgtFind decoder address => tgtFind decoder address
  | .tgtList start filter max => tgtList start filter max
  | .tgtRead h first max clear => tgtRead h first max clear
  | .tgtDeclare decoder address pinned => tgtDeclare decoder address pinned
  | .tgtSetCell h register value => tgtSetCell h register value
  | .tgtExpect h register operation value mask => tgtExpect h register operation value mask
  | .tgtDropCell h register => tgtDropCell h register
  | .tgtPin h on => tgtPin h on
  | .tgtRetire h force => tgtRetire h force
  | .decConfig decoder profile learn bindings params => decConfig decoder profile learn bindings params
  | .decStart decoder => decStart decoder
  | .decStop decoder => decStop decoder
  | .decRead decoder => decRead decoder
  | .mtrConfig meter config => mtrConfig meter config
  | .mtrStart meter => mtrStart meter
  | .mtrStop meter => mtrStop meter
  | .mtrRead meter => mtrRead meter
  | .mtrClear meter => mtrClear meter
  | .overrange m => overrange m
  | .windowExpiry m order => windowExpiry m order
  | .wchSet watch sub cond level actions => wchSet watch sub cond level actions
  | .wchClear watch => wchClear watch
  | .wchRead watch => wchRead watch
  | .ntcRead => ntcRead
  | .ntcAckNotice kind mask => ntcAckNotice kind mask
  | .ntcAckWatch watch => ntcAckWatch watch
  | .ntcLevels attention freeze => ntcLevels attention freeze
  | .hold on => hold on
  | .paneSet pane row col width height kind names format label lbusy =>
      paneSet pane row col width height kind names format label lbusy
  | .paneClear pane lbusy => paneClear pane lbusy
  | .paneRead pane => paneRead pane
  | .dispInterval interval => dispInterval interval
  | .refreshTick lbusy => refreshTick lbusy
  | .dispRepaint lbusy => dispRepaint lbusy
  | .pnlEnable on rate lbusy => pnlEnable on rate lbusy
  | .pnlRestart lbusy => pnlRestart lbusy
  | .bklSet high low => bklSet high low
  | .lbusyLow => lbusyLow
  | .burstEnd lbusy => burstEnd lbusy
  | .waitExpiry => waitExpiry
  | .backlightPhaseExpiry => backlightPhaseExpiry
  | .millisecondTick => millisecondTick

/-- The dispatch calls the meaning of the command, where the part takes it. -/
theorem exec_eq (c : Instr) (s : State) : exec c s = .next (s.take c (effect c)) := by
  cases c <;> rfl

theorem makes_iff {c : Instr} {s t : State} : Makes c s t ↔ (s.takes c = true → effect c s = t) := by
  refine forall_congr' fun h => ?_
  rw [exec_eq, State.take_of_takes _ h, Host.Outcome.next.injEq]

/-! ### What a step can do -/

/-- Every filter takes the sample of its pin at a moment, and none accepts a change. -/
def State.sampledAt (now : Nat) (s : State) : State :=
  { s.advance now with channels := tab (s.advance now).sampleOne }

/-- A sample period: every filter takes its sample, and the changes accepted are one ACCEPTED_EDGE (log entry 3). -/
theorem State.samplePeriod_cases (s : State) :
    (s.pins.resetLow = true ∧ s.samplePeriod = s) ∨
      (s.pins.resetLow = false ∧ ((s.advance (s.clock.now + 1)).changing = [] ∧ s.samplePeriod = s.sampledAt (s.clock.now + 1) ∨
        ∃ c cs stamp, (s.advance (s.clock.now + 1)).changing = c :: cs ∧ stamp = (s.advance (s.clock.now + 1)).clock.now ∧
          s.samplePeriod = acceptedEdge c cs stamp [] (s.sampledAt (s.clock.now + 1)))) := by
  unfold State.samplePeriod
  cases h : s.pins.resetLow
  · refine Or.inr ⟨rfl, ?_⟩
    rw [if_neg (by decide)]
    cases hc : (s.advance (s.clock.now + 1)).changing with
    | nil => exact Or.inl ⟨rfl, by simp only [State.sampleAll, hc, State.sampledAt]⟩
    | cons c cs => exact Or.inr ⟨c, cs, _, rfl, rfl, by simp only [State.sampleAll, hc, State.sampledAt]⟩
  · exact Or.inl ⟨rfl, if_pos rfl⟩

/-- What every taken command keeps, and the samples of the filters keep, every step keeps. -/
theorem step_keeps {P : State → Prop} (queue : ∀ s rest, P s → P { s with pending := rest })
    (command : ∀ c s, P s → s.takes c = true → P (effect c s))
    (sample : ∀ s now, P s → s.pins.resetLow = false → P (s.sampledAt now)) {s t : State} (h : step s = .next t) (hs : P s) :
    P t := by
  have runs : ∀ c u, P u → exec c u = .next t → P t := fun c u hu e => by
    rw [exec_eq] at e
    exact Host.Outcome.next.inj e ▸ State.take_keeps _ hu (command c u hu)
  unfold step at h
  split at h
  · exact runs _ _ (queue s _ hs) h
  · split at h
    · exact runs _ _ hs h
    · obtain rfl := Host.Outcome.next.inj h
      rcases s.samplePeriod_cases with ⟨_, e⟩ | ⟨high, ⟨_, e⟩ | ⟨c, cs, stamp, _, _, e⟩⟩
      · rwa [e]
      · rw [e]
        exact sample s _ hs high
      · rw [e]
        exact command (.acceptedEdge c cs stamp []) _ (sample s _ hs high) (State.takes_event high rfl)

/-! ### Requests that name a handle (R24) -/

/-- A request that names a handle is refused, or acts on the record that its handle reaches. -/
theorem State.withRecord_cases (h : Handle) (paramsOk : Bool) (act : Fin 64 → Record → State → State) (s : State) :
    (∃ st, s.withRecord h paramsOk act = s.refuse st) ∨
      ∃ i r, s.store.reach h = some (i, r) ∧ paramsOk = true ∧ s.withRecord h paramsOk act = act i r s := by
  unfold State.withRecord
  split
  · exact Or.inl ⟨_, rfl⟩
  · next hok =>
    split
    · exact Or.inl ⟨_, rfl⟩
    · next i r hr => exact Or.inr ⟨i, r, hr, by simpa using (not_or.mp hok).1, rfl⟩

/-- What a refusal keeps, and the request keeps on the record it reaches, the request keeps. -/
theorem State.withRecord_keeps {P : State → Prop} {h : Handle} {paramsOk : Bool} {act : Fin 64 → Record → State → State}
    {s : State} (refuse : ∀ st, P (s.refuse st)) (acts : ∀ i r, s.store.reach h = some (i, r) → P (act i r s)) :
    P (s.withRecord h paramsOk act) := by
  rcases s.withRecord_cases h paramsOk act with ⟨st, e⟩ | ⟨i, r, hr, _, e⟩
  · exact e ▸ refuse st
  · exact e ▸ acts i r hr

end Sys2Proof.Machine
end

section
/-! Every step keeps the notices and the freeze derived, and the POD_FAULT mask a copy of the fault marks (R139, R140, R148): the writes of the owners keep them, so every decoder's and every meter's move does, and with those every command. -/

namespace Sys2Proof.Machine

/-! ### The writes of the owners -/

theorem NoticesOk.of_derived {s t : State} (h : NoticesOk s) (derived : t.watch.Derived)
    (fault : t.watch.podFault = s.watch.podFault) (pods : t.pods = s.pods) : NoticesOk t :=
  ⟨derived, fun p => by rw [fault, pods, h.marks p]⟩

theorem NoticesOk.of_same {s t : State} (h : NoticesOk s) (watch : t.watch = s.watch) (pods : t.pods = s.pods) : NoticesOk t :=
  h.of_derived (watch ▸ h.derived) (by rw [watch]) pods

/-- A source of the derivation other than the POD_FAULT mask is changed, and what is derived is derived afresh. -/
theorem NoticesOk.derive {s t : State} (h : NoticesOk s) (fault : t.watch.podFault = s.watch.podFault) (pods : t.pods = s.pods) :
    NoticesOk t.derive :=
  h.of_derived t.derive_derived ((State.derive_watch t).symm ▸ fault) (by rw [State.derive_pods, pods])

theorem NoticesOk.raisePodChange {s : State} (h : NoticesOk s) (p : Fin 4) : NoticesOk (s.raisePodChange p) := by
  unfold State.raisePodChange
  exact h.derive rfl rfl

theorem NoticesOk.raisePanelLost {s : State} (h : NoticesOk s) : NoticesOk s.raisePanelLost := by
  unfold State.raisePanelLost
  exact h.derive rfl rfl

theorem NoticesOk.raiseStoreFull {s : State} (h : NoticesOk s) : NoticesOk s.raiseStoreFull := by
  unfold State.raiseStoreFull
  exact h.derive rfl rfl

theorem NoticesOk.raiseCellsFull {s : State} (h : NoticesOk s) : NoticesOk s.raiseCellsFull := by
  unfold State.raiseCellsFull
  exact h.derive rfl rfl

theorem NoticesOk.setWatches {s : State} (h : NoticesOk s) (ws : Vector Watch 32) : NoticesOk (s.setWatches ws) :=
  h.of_derived (s.setWatches_derived ws) (s.setWatches_upTo ws).podFault (s.setWatches_upTo ws).pods

theorem NoticesOk.evaluate {s : State} (h : NoticesOk s) (c : Subject → Bool) : NoticesOk (s.evaluate c) := h.setWatches _

theorem NoticesOk.markPanes {s : State} (h : NoticesOk s) (c : PaneSubject → Bool) : NoticesOk (s.markPanes c) := h.of_same rfl rfl

theorem NoticesOk.targetReport {s : State} (h : NoticesOk s) (x : Handle) (regs : List Byte) (fields : List TargetField) :
    NoticesOk (s.targetReport x regs fields) := (h.evaluate _).markPanes _

theorem NoticesOk.withStore {s : State} (h : NoticesOk s) (st : Store) : NoticesOk { s with store := st } := h.of_same rfl rfl

theorem NoticesOk.answered {s : State} (h : NoticesOk s) (st : Status) (p : List Byte) : NoticesOk (s.answered st p) := h.of_same rfl rfl

theorem NoticesOk.ok {s : State} (h : NoticesOk s) : NoticesOk s.ok := h.answered _ _

theorem NoticesOk.advance {s : State} (h : NoticesOk s) (n : Nat) : NoticesOk (s.advance n) := h.of_same rfl rfl

theorem NoticesOk.putDecoder {s : State} (h : NoticesOk s) (d : Fin 6) (new : Decoder) : NoticesOk (s.putDecoder d new) :=
  h.of_derived (State.putDecoder_derived d new s h.derived) (State.putDecoder_upTo d new s).podFault (State.putDecoder_upTo d new s).pods

theorem NoticesOk.putMeter {s : State} (h : NoticesOk s) (m : Fin 8) (new : Meter) : NoticesOk (s.putMeter m new) :=
  h.of_derived (State.putMeter_derived m new s h.derived) (State.putMeter_upTo m new s).podFault (State.putMeter_upTo m new s).pods

/-! ### The store -/

theorem NoticesOk.applyTo {s : State} (h : NoticesOk s) (a : Application) (i : Fin 64) (r : Record) : NoticesOk (s.applyTo a i r) := by
  unfold State.applyTo
  dsimp only
  split
  · exact (NoticesOk.raiseCellsFull (h.withStore _)).targetReport _ _ _
  · exact (h.withStore _).targetReport _ _ _

theorem NoticesOk.apply {s : State} (h : NoticesOk s) (a : Application) : NoticesOk (s.apply a).1 := by
  have applyNew : ∀ (i : Fin 64) (st : Store), NoticesOk (State.applyNew a i { s with store := st }) := fun i st =>
    (h.withStore _).applyTo _ _ _
  have withhold : NoticesOk (s.withhold a) := by
    unfold State.withhold
    split
    · exact h
    · split
      · exact h
      · dsimp only
        split
        · exact h.withStore _
        · exact (h.withStore _).markPanes _
  unfold State.apply
  split
  · exact withhold
  · split
    · split
      · exact h.applyTo _ _ _
      · exact h
    · split
      · exact h
      · split
        · exact applyNew _ s.store
        · split
          · exact applyNew _ _
          · exact h.raiseStoreFull

theorem NoticesOk.errorReport {s : State} (h : NoticesOk s) (d : Fin 6) (a : Byte) (reason : AbortReason) :
    NoticesOk (s.errorReport d a reason) := by
  unfold State.errorReport
  split
  · exact h
  · split
    · exact h
    · split
      · exact h
      · dsimp only
        split
        · exact h.withStore _
        · exact (h.withStore _).targetReport _ _ _

theorem NoticesOk.bind? {s : State} (h : NoticesOk s) (x : Option Handle) : NoticesOk (s.bind? x) :=
  h.of_same (State.bindOpt_watch x s) (State.bindOpt_pods x s)

theorem NoticesOk.unbind? {s : State} (h : NoticesOk s) (x : Option Handle) : NoticesOk (s.unbind? x) :=
  h.of_same (State.unbindOpt_watch x s) (State.unbindOpt_pods x s)

theorem NoticesOk.retire {s : State} (h : NoticesOk s) (i : Fin 64) : NoticesOk (s.retire i) := by
  have orphaned : ∀ ps ws, NoticesOk ((s.withPanes ps).setWatches ws) := fun ps ws =>
    NoticesOk.setWatches (h.of_same (t := s.withPanes ps) rfl rfl) ws
  have notice : NoticesOk (s.retireNotice (s.store.handle i)) := by
    unfold State.retireNotice
    dsimp only
    split
    · exact (orphaned _ _).of_same rfl rfl
    · exact orphaned _ _
  exact notice.withStore _

/-! ### Decoders, meters and pods -/

theorem noticesOk_meter (m : Fin 8) : MeterClosed m fun s t => NoticesOk s → NoticesOk t :=
  ⟨fun _ h => h, fun _ _ _ h k => k ∘ h, fun new _ h => h.putMeter m new⟩

theorem NoticesOk.cleanEndEvent {s : State} (h : NoticesOk s) (d : Fin 6) (a : Byte) (stamp : Nat) :
    NoticesOk (s.cleanEndEvent d a stamp) :=
  foldl_inv NoticesOk _ (fun t m => (noticesOk_meter m).meterCleanEnd d a stamp t) _ s h

theorem noticesOk_decoder (d : Fin 6) : DecoderClosed d fun s t => NoticesOk s → NoticesOk t where
  refl _ h := h
  trans _ _ _ h k := k ∘ h
  put new _ h := h.putDecoder d new
  apply a _ h := h.apply a
  error a reason _ h := h.errorReport d a reason
  event a stamp _ h := h.cleanEndEvent d a stamp

theorem NoticesOk.deliver {s : State} (h : NoticesOk s) (channels : List (Fin 32)) (stamp : Nat) (order : List Taker) :
    NoticesOk (s.deliver channels stamp order) :=
  deliver_closed noticesOk_decoder noticesOk_meter channels stamp order s h

theorem NoticesOk.podMoves {s : State} (h : NoticesOk s) (p : Fin 4) (new : Pod) (cause : DownCause) :
    NoticesOk (s.podMoves p new cause) := by
  have put := State.putPod_noticesOk p new h
  unfold State.podMoves
  dsimp only
  split
  · refine foldl_inv NoticesOk _ (fun t m => (noticesOk_meter m).meterPodDown p t) _ _ ?_
    refine foldl_inv NoticesOk _ (fun t d => (noticesOk_decoder d).decoderPodDown p cause t) _ _ ?_
    exact put.of_same rfl rfl
  · exact put

theorem NoticesOk.podUp {s : State} (h : NoticesOk s) (p : Fin 4) (new : Pod) : NoticesOk (s.podUp p new) :=
  foldl_inv NoticesOk _ (fun t d => (noticesOk_decoder d).decoderPodUp p t) _ _
    ((State.putPod_noticesOk p new h).of_same rfl rfl)

/-- An insertion timer that starts or stops leaves the fault mark of its pod. -/
theorem NoticesOk.setPod {s : State} (h : NoticesOk s) (pins : Pins) (p : Fin 4) (new : Pod)
    (same : new.faultMark = s.pods[p].faultMark) : NoticesOk { s with pins := pins, pods := s.pods.set p new } where
  derived := h.derived
  marks q := by
    dsimp only
    rw [vset_get]
    split
    · next e => rw [same, ← e, h.marks]
    · exact h.marks q

/-- An event at a decoder whose time has come. -/
theorem NoticesOk.atExpiry {s : State} (h : NoticesOk s) (d : Fin 6) (n : Nat) (levels : List (Role × Bool)) :
    NoticesOk (s.atExpiry d n levels) :=
  (noticesOk_decoder d).atExpiry (fun n _ k => k.advance n) n levels s h

/-! ### Commands -/

theorem NoticesOk.withRecord {s : State} (h : NoticesOk s) {x : Handle} {paramsOk : Bool} {act : Fin 64 → Record → State → State}
    (acts : ∀ i r, NoticesOk (act i r s)) : NoticesOk (s.withRecord x paramsOk act) :=
  State.withRecord_keeps (fun _ => h.answered _ _) fun i r _ => acts i r

theorem NoticesOk.ackNotice {s : State} (h : NoticesOk s) (kind mask : Byte) : NoticesOk (ntcAckNotice kind mask s) := by
  have refused : ∀ st, NoticesOk (s.refuse st) := fun st => h.answered st []
  have podFault : NoticesOk (ackPodFault mask s) := by
    unfold ackPodFault
    split
    · exact (State.clearMarks_rewritten _ h).notices.ok
    · exact refused _
  have podChange : NoticesOk (ackPodChange mask s) := by
    unfold ackPodChange
    dsimp only
    split
    · exact refused _
    · exact NoticesOk.ok (h.derive rfl rfl)
  have flag : ∀ (b : Bool) (u : WatchUnit), u.podFault = s.watch.podFault →
      NoticesOk (if b then (State.derive { s with watch := u }).ok else s.refuse .nothing) := fun b u hu => by
    split
    · exact NoticesOk.ok (h.derive hu rfl)
    · exact refused _
  unfold ntcAckNotice
  repeat' split
  all_goals first
    | exact refused _
    | exact podFault
    | exact podChange
    | exact flag _ _ rfl

theorem WatchUnit.restarted_derived (u : WatchUnit) : u.restarted.Derived := WatchUnit.derived_derived _

/-- The pods of a full reset, by their sense lines (R21). -/
theorem resetWith_pods (pins : Pins) (p : Fin 4) : (State.resetWith pins).pods[p] = Pod.reset (pins.sensed p) :=
  match p with
  | 0 => rfl
  | 1 => rfl
  | 2 => rfl
  | 3 => rfl

theorem noticesOk_resetWith (pins : Pins) : NoticesOk (State.resetWith pins) where
  derived := by
    show WatchUnit.reset.Derived
    constructor <;> decide +kernel
  marks p := by
    rw [resetWith_pods]
    show WatchUnit.reset.podFault.getLsbD p = false
    simp [WatchUnit.reset]

theorem fullReset_noticesOk (s : State) (sense : Option (BitVec 4)) : NoticesOk (fullReset sense s) :=
  (noticesOk_resetWith (s.pins.afterReset sense)).of_same rfl rfl

theorem devRestart_noticesOk {s : State} (h : NoticesOk s) : NoticesOk (devRestart s) :=
  NoticesOk.ok (h.of_derived (WatchUnit.restarted_derived _) rfl rfl)

theorem podSet_noticesOk {s : State} (h : NoticesOk s) (pod requested code : Byte) (widths : Vector Byte 8) : NoticesOk (podSet pod requested code widths s) := by
  have refused : ∀ st, NoticesOk (s.refuse st) := fun st => h.answered st []
  simp only [podSet]
  split
  · split
    · exact refused _
    · exact ((h.of_same (t := s.setWidths _ _) rfl rfl).podMoves _ _ _).ok
  · exact refused _

theorem podGo_noticesOk {s : State} (h : NoticesOk s) (mask : Byte) : NoticesOk (podGo mask s) := by
  have refused : ∀ st, NoticesOk (s.refuse st) := fun st => h.answered st []
  have moved : NoticesOk ((namedPods mask).foldl State.podGoOne s) :=
    foldl_inv NoticesOk _ (fun t p ht => ht.podMoves p _ .stop) _ s h
  simp only [podGo]
  repeat' split
  all_goals first | exact refused _ | exact moved.answered _ _

theorem insertionTimerStart_noticesOk {s : State} (h : NoticesOk s) (p : Fin 4) : NoticesOk (insertionTimerStart p s) := by
  simp only [insertionTimerStart]
  split
  · exact h.setPod _ p _ rfl
  · exact h

theorem insertionTimerStop_noticesOk {s : State} (h : NoticesOk s) (p : Fin 4) : NoticesOk (insertionTimerStop p s) := by
  simp only [insertionTimerStop]
  split
  · exact h
  · exact h.setPod _ p _ rfl

theorem insertion_noticesOk {s : State} (h : NoticesOk s) (p : Fin 4) : NoticesOk (insertion p s) := by
  simp only [insertion]
  split
  · exact h
  · exact NoticesOk.raisePodChange (State.putPod_noticesOk p _ (h.advance _)) p

theorem removal_noticesOk {s : State} (h : NoticesOk s) (p : Fin 4) : NoticesOk (removal p s) := by
  simp only [removal]
  split
  · exact h
  · exact NoticesOk.raisePodChange (NoticesOk.podMoves (h.of_same (t := { s with pins := s.pins.setSense p false }) rfl rfl) p _ _) p

theorem overcurrent_noticesOk {s : State} (h : NoticesOk s) (p : Fin 4) : NoticesOk (overcurrent p s) := by
  simp only [overcurrent]
  split
  · exact h.podMoves _ _ _
  · exact h

theorem rampingExpiry_noticesOk {s : State} (h : NoticesOk s) (p : Fin 4) : NoticesOk (rampingExpiry p s) := by
  simp only [rampingExpiry]
  split
  · exact h
  · exact State.putPod_noticesOk p _ (h.advance _)

theorem settlingExpiry_noticesOk {s : State} (h : NoticesOk s) (p : Fin 4) (levels : BitVec 8) : NoticesOk (settlingExpiry p levels s) := by
  simp only [settlingExpiry]
  split
  · exact h
  · next t _ =>
    exact NoticesOk.podUp (h.of_same (t := { s.advance t.endsAt with pins := s.pins.setPodLevels p levels }) rfl rfl) p _

theorem stoppingExpiry_noticesOk {s : State} (h : NoticesOk s) (p : Fin 4) : NoticesOk (stoppingExpiry p s) := by
  simp only [stoppingExpiry]
  split
  · exact h
  · exact State.putPod_noticesOk p _ (h.advance _)

theorem acceptedEdge_noticesOk {s : State} (h : NoticesOk s) (channel : Fin 32) (also : List (Fin 32)) (stamp : Nat) (order : List Taker) : NoticesOk (acceptedEdge channel also stamp order s) := by
  have accepted : ∀ l : List (Fin 32), NoticesOk (l.foldl State.acceptChange (s.advance stamp)) := fun l =>
    foldl_inv NoticesOk State.acceptChange (fun t _ ht => ht.of_same rfl rfl) _ _ (h.advance stamp)
  simp only [acceptedEdge]
  split
  · exact h
  · exact (accepted _).deliver _ _ _

theorem twoWireIdleExpiry_noticesOk {s : State} (h : NoticesOk s) (d : Fin 6) (clock data : Bool) : NoticesOk (twoWireIdleExpiry d clock data s) := by
  simp only [twoWireIdleExpiry]
  split
  · exact (noticesOk_decoder d).idleAt _ _ (h.atExpiry d _ _)
  · exact h

theorem asyncIdleExpiry_noticesOk {s : State} (h : NoticesOk s) (d : Fin 6) (line : Bool) : NoticesOk (asyncIdleExpiry d line s) := by
  simp only [asyncIdleExpiry]
  split
  · exact (noticesOk_decoder d).idleAt _ _ (h.atExpiry d _ _)
  · exact h

theorem asyncSamplePoint_noticesOk {s : State} (h : NoticesOk s) (d : Fin 6) (line : Bool) : NoticesOk (asyncSamplePoint d line s) := by
  simp only [asyncSamplePoint]
  repeat' split
  all_goals first | exact h | exact (noticesOk_decoder d).takeSample _ (h.atExpiry d _ _)

theorem characterJudged_noticesOk {s : State} (h : NoticesOk s) (d : Fin 6) (line : Bool) : NoticesOk (characterJudged d line s) := by
  simp only [characterJudged]
  repeat' split
  all_goals first | exact h | exact (noticesOk_decoder d).lastSample _ (h.atExpiry d _ _)

theorem breakTimeout_noticesOk {s : State} (h : NoticesOk s) (d : Fin 6) (line : Bool) : NoticesOk (breakTimeout d line s) := by
  simp only [breakTimeout]
  repeat' split
  all_goals first | exact h | exact (noticesOk_decoder d).breakTest _ _ (h.atExpiry d _ _)

theorem idleGapExpiry_noticesOk {s : State} (h : NoticesOk s) (d : Fin 6) : NoticesOk (idleGapExpiry d s) := by
  simp only [idleGapExpiry]
  repeat' split
  all_goals first | exact h | exact (noticesOk_decoder d).gapEnd _ _ (h.advance _)

theorem tgtRead_noticesOk {s : State} (h : NoticesOk s) (x : Handle) (first max clear : Byte) : NoticesOk (tgtRead x first max clear s) := by
  refine h.withRecord fun i r => ?_
  repeat' split
  all_goals first | exact h.of_same rfl rfl

theorem tgtSetCell_noticesOk {s : State} (h : NoticesOk s) (x : Handle) (register value : Byte) : NoticesOk (tgtSetCell x register value s) := by
  have refused : ∀ st, NoticesOk (s.refuse st) := fun st => h.answered st []
  refine h.withRecord fun i r => ?_
  repeat' split
  · exact h.of_same rfl rfl
  · exact NoticesOk.ok (NoticesOk.targetReport (h.withStore _) _ _ _)
  · exact NoticesOk.ok (NoticesOk.targetReport (h.withStore _) _ _ _)
  · exact refused _

theorem tgtExpect_noticesOk {s : State} (h : NoticesOk s) (x : Handle) (register operation value mask : Byte) : NoticesOk (tgtExpect x register operation value mask s) := by
  have refused : ∀ st, NoticesOk (s.refuse st) := fun st => h.answered st []
  refine h.withRecord fun i r => ?_
  simp only [expectSet, expectClear]
  repeat' split
  all_goals first | exact refused _ | exact NoticesOk.ok (NoticesOk.targetReport (h.withStore _) _ _ _)

theorem tgtDropCell_noticesOk {s : State} (h : NoticesOk s) (x : Handle) (register : Byte) : NoticesOk (tgtDropCell x register s) := by
  have refused : ∀ st, NoticesOk (s.refuse st) := fun st => h.answered st []
  refine h.withRecord fun i r => ?_
  split
  · exact refused _
  · exact NoticesOk.ok (NoticesOk.targetReport (h.withStore _) _ _ _)

theorem tgtPin_noticesOk {s : State} (h : NoticesOk s) (x : Handle) (on : Byte) : NoticesOk (tgtPin x on s) :=
  h.withRecord fun _ _ => h.of_same rfl rfl

theorem tgtRetire_noticesOk {s : State} (h : NoticesOk s) (x : Handle) (force : Byte) : NoticesOk (tgtRetire x force s) := by
  have refused : ∀ st, NoticesOk (s.refuse st) := fun st => h.answered st []
  refine h.withRecord fun i r => ?_
  split
  · exact refused _
  · exact (h.retire i).ok

theorem tgtDeclare_noticesOk {s : State} (h : NoticesOk s) (decoder address pinned : Byte) : NoticesOk (tgtDeclare decoder address pinned s) := by
  simp only [tgtDeclare]
  repeat' split
  all_goals exact h.of_same rfl rfl

theorem decConfig_noticesOk {s : State} (h : NoticesOk s) (decoder profile learn : Byte) (bindings : List (Byte × Byte)) (params : List Byte) : NoticesOk (decConfig decoder profile learn bindings params s) := by
  have refused : ∀ st, NoticesOk (s.refuse st) := fun st => h.answered st []
  simp only [decConfig]
  repeat' split
  all_goals first | exact refused _ | exact (h.putDecoder _ _).ok

theorem decStart_noticesOk {s : State} (h : NoticesOk s) (decoder : Byte) : NoticesOk (decStart decoder s) := by
  have refused : ∀ st, NoticesOk (s.refuse st) := fun st => h.answered st []
  simp only [decStart]
  repeat' split
  all_goals first | exact refused _ | exact h.ok | exact (h.putDecoder _ _).ok

theorem decStop_noticesOk {s : State} (h : NoticesOk s) (decoder : Byte) : NoticesOk (decStop decoder s) := by
  have refused : ∀ st, NoticesOk (s.refuse st) := fun st => h.answered st []
  simp only [decStop]
  repeat' split
  all_goals first
    | exact refused _
    | exact h.ok
    | exact NoticesOk.ok ((noticesOk_decoder _).abort _ _ _ _ h)
    | exact (h.putDecoder _ _).ok

theorem mtrConfig_noticesOk {s : State} (h : NoticesOk s) (meter : Byte) (config : MeterBytes) : NoticesOk (mtrConfig meter config s) := by
  have refused : ∀ st, NoticesOk (s.refuse st) := fun st => h.answered st []
  simp only [mtrConfig]
  repeat' split
  all_goals first | exact refused _ | exact (h.putMeter _ _).ok

theorem mtrStart_noticesOk {s : State} (h : NoticesOk s) (meter : Byte) : NoticesOk (mtrStart meter s) := by
  have refused : ∀ st, NoticesOk (s.refuse st) := fun st => h.answered st []
  have opened : ∀ g stamp, NoticesOk (s.openWindow g stamp) := fun g stamp =>
    foldl_inv NoticesOk _ (fun t m => (noticesOk_meter m).followerOpen g stamp t) _ _ (h.putMeter _ _)
  simp only [mtrStart]
  repeat' split
  · exact refused _
  · exact h.ok
  · exact refused _
  · exact (h.putMeter _ _).ok
  · exact (opened _ _).ok
  all_goals exact (h.putMeter _ _).ok

theorem mtrStop_noticesOk {s : State} (h : NoticesOk s) (meter : Byte) : NoticesOk (mtrStop meter s) := by
  have refused : ∀ st, NoticesOk (s.refuse st) := fun st => h.answered st []
  have stopped : ∀ g, NoticesOk ((List.finRange 8).foldl (State.followerStop g) (s.setMeterState g .off)) := fun g =>
    foldl_inv NoticesOk _ (fun t m => (noticesOk_meter m).followerStop g t) _ _ (h.putMeter _ _)
  simp only [mtrStop]
  repeat' split
  · exact refused _
  · exact h.ok
  · exact (stopped _).ok
  · exact (h.putMeter _ _).ok

theorem mtrClear_noticesOk {s : State} (h : NoticesOk s) (meter : Byte) : NoticesOk (mtrClear meter s) := by
  have refused : ∀ st, NoticesOk (s.refuse st) := fun st => h.answered st []
  simp only [mtrClear]
  split
  · exact refused _
  · exact (h.putMeter _ _).ok

theorem overrange_noticesOk {s : State} (h : NoticesOk s) (m : Fin 8) : NoticesOk (overrange m s) := by
  simp only [overrange]
  split
  · exact (h.advance _).putMeter _ _
  · exact h

theorem windowExpiry_noticesOk {s : State} (h : NoticesOk s) (m : Fin 8) (order : List (Fin 8)) : NoticesOk (windowExpiry m order s) := by
  have ended : ∀ openAt, NoticesOk (s.expireWindow m openAt order) := fun openAt =>
    foldl_inv NoticesOk _ (fun t f => (noticesOk_meter f).followerEnd _ _ _ t) _ _ ((h.advance _).putMeter _ _)
  simp only [windowExpiry]
  split
  · exact ended _
  · exact h

theorem wchSet_noticesOk {s : State} (h : NoticesOk s) (watch : Byte) (sub : SubjectBytes) (cond : ConditionBytes) (level actions : Byte) : NoticesOk (wchSet watch sub cond level actions s) := by
  have refused : ∀ st, NoticesOk (s.refuse st) := fun st => h.answered st []
  simp only [wchSet]
  repeat' split
  all_goals first | exact refused _ | exact (((h.bind? _).unbind? _).setWatches _).ok

theorem wchClear_noticesOk {s : State} (h : NoticesOk s) (watch : Byte) : NoticesOk (wchClear watch s) := by
  have refused : ∀ st, NoticesOk (s.refuse st) := fun st => h.answered st []
  simp only [wchClear]
  repeat' split
  all_goals first | exact refused _ | exact h.ok | exact ((h.unbind? _).setWatches _).ok

theorem ntcAckWatch_noticesOk {s : State} (h : NoticesOk s) (watch : Byte) : NoticesOk (ntcAckWatch watch s) := by
  have refused : ∀ st, NoticesOk (s.refuse st) := fun st => h.answered st []
  simp only [ntcAckWatch]
  repeat' split
  all_goals first | exact refused _ | exact (h.setWatches _).ok

theorem ntcLevels_noticesOk {s : State} (h : NoticesOk s) (attention freeze : Byte) : NoticesOk (ntcLevels attention freeze s) := by
  have refused : ∀ st, NoticesOk (s.refuse st) := fun st => h.answered st []
  simp only [ntcLevels]
  split
  · exact refused _
  · exact NoticesOk.ok (h.derive rfl rfl)

theorem hold_noticesOk {s : State} (h : NoticesOk s) (on : Byte) : NoticesOk (hold on s) := by
  have refused : ∀ st, NoticesOk (s.refuse st) := fun st => h.answered st []
  simp only [hold]
  repeat' split
  all_goals first | exact refused _ | exact h.ok | exact NoticesOk.ok (h.derive rfl rfl)

theorem waitExpiry_noticesOk {s : State} (h : NoticesOk s) : NoticesOk (waitExpiry s) := by
  simp only [waitExpiry]
  split
  · exact NoticesOk.raisePanelLost (h.of_same rfl rfl)
  · exact h

theorem devStatus_noticesOk {s : State} (h : NoticesOk s) (later : List StatusOwner) : NoticesOk (devStatus later s) := by
  rw [devStatus_eq]
  exact h.of_same rfl rfl

/-- Every command keeps the notices; one that leaves the Watch Unit and the pods alone does so at once. -/
theorem effect_noticesOk (c : Instr) {s : State} (h : NoticesOk s) : NoticesOk (effect c s) := by
  cases c
  case fullReset sense => exact fullReset_noticesOk s sense
  case devRestart => exact devRestart_noticesOk h
  case podSet pod requested code widths => exact podSet_noticesOk h pod requested code widths
  case podGo mask => exact podGo_noticesOk h mask
  case insertionTimerStart p => exact insertionTimerStart_noticesOk h p
  case insertionTimerStop p => exact insertionTimerStop_noticesOk h p
  case insertion p => exact insertion_noticesOk h p
  case removal p => exact removal_noticesOk h p
  case overcurrent p => exact overcurrent_noticesOk h p
  case rampingExpiry p => exact rampingExpiry_noticesOk h p
  case settlingExpiry p levels => exact settlingExpiry_noticesOk h p levels
  case stoppingExpiry p => exact stoppingExpiry_noticesOk h p
  case acceptedEdge channel also stamp order => exact acceptedEdge_noticesOk h channel also stamp order
  case twoWireIdleExpiry d clock data => exact twoWireIdleExpiry_noticesOk h d clock data
  case asyncIdleExpiry d line => exact asyncIdleExpiry_noticesOk h d line
  case asyncSamplePoint d line => exact asyncSamplePoint_noticesOk h d line
  case characterJudged d line => exact characterJudged_noticesOk h d line
  case breakTimeout d line => exact breakTimeout_noticesOk h d line
  case idleGapExpiry d => exact idleGapExpiry_noticesOk h d
  case tgtRead x first max clear => exact tgtRead_noticesOk h x first max clear
  case tgtSetCell x register value => exact tgtSetCell_noticesOk h x register value
  case tgtExpect x register operation value mask => exact tgtExpect_noticesOk h x register operation value mask
  case tgtDropCell x register => exact tgtDropCell_noticesOk h x register
  case tgtPin x on => exact tgtPin_noticesOk h x on
  case tgtRetire x force => exact tgtRetire_noticesOk h x force
  case tgtDeclare decoder address pinned => exact tgtDeclare_noticesOk h decoder address pinned
  case decConfig decoder profile learn bindings params => exact decConfig_noticesOk h decoder profile learn bindings params
  case decStart decoder => exact decStart_noticesOk h decoder
  case decStop decoder => exact decStop_noticesOk h decoder
  case mtrConfig meter config => exact mtrConfig_noticesOk h meter config
  case mtrStart meter => exact mtrStart_noticesOk h meter
  case mtrStop meter => exact mtrStop_noticesOk h meter
  case mtrClear meter => exact mtrClear_noticesOk h meter
  case overrange m => exact overrange_noticesOk h m
  case windowExpiry m order => exact windowExpiry_noticesOk h m order
  case wchSet watch sub cond level actions => exact wchSet_noticesOk h watch sub cond level actions
  case wchClear watch => exact wchClear_noticesOk h watch
  case ntcAckNotice kind mask => exact h.ackNotice kind mask
  case ntcAckWatch watch => exact ntcAckWatch_noticesOk h watch
  case ntcLevels attention freeze => exact ntcLevels_noticesOk h attention freeze
  case hold on => exact hold_noticesOk h on
  case waitExpiry => exact waitExpiry_noticesOk h
  case devStatus later => exact devStatus_noticesOk h later
  all_goals refine h.of_same ?_ ?_
  all_goals
    simp only [effect, requestFrame, readFrame, State.takeSelection, State.takeRead, answer, devIdent, podRead, filterCandidate,
      tgtFind, tgtList, decRead, mtrRead, wchRead, ntcRead, paneSet, paneClear, paneRead, dispInterval, refreshTick, dispRepaint,
      pnlEnable, pnlRestart, bklSet, lbusyLow, burstEnd, backlightPhaseExpiry, millisecondTick]
      <;> (repeat' split) <;> simp

/-- Settles O52: what every command keeps and the samples of the filters leave alone, every step keeps. -/
theorem stepKeepsNotices : Obligations.StepKeepsNotices := fun _ _ hs h =>
  step_keeps (P := NoticesOk) (fun _ _ k => k.of_same rfl rfl) (fun c _ k _ => effect_noticesOk c k)
    (fun _ _ k _ => k.of_same rfl rfl) h hs

end Sys2Proof.Machine
end

section
/-! Every step keeps every pod and every filter as the rules leave it (R1, R2, R8, R11, R16): the pods that the transitions make are in order, a pod that leaves LIVE drops its candidates, and every other command leaves pods and channels alone. -/

namespace Sys2Proof.Machine

/-! ### The pods that the transitions make -/

theorem Transition.fits_settling {t : Transition} : t.Fits .settling ↔ t.stage = .settling ∧ t.dest = .live := by
  simp [Transition.Fits]

theorem Transition.fits_ramping {t : Transition} : t.Fits .ramping ↔ t.stage = .ramping ∧ t.dest ≠ .off := by
  simp [Transition.Fits]

theorem Transition.fits_stopping {t : Transition} : t.Fits .stopping ↔ t.stage = .stopping ∧ t.dest ≠ .live := by
  simp [Transition.Fits]

/-- A pod whose state is not one of a transition has none in flight (R8). -/
theorem Pod.Ok.still {p : Pod} (h : p.Ok) (still : p.state.moving = false) : p.transition = none := by
  simpa [still] using h.moving

/-- A pod that is not ABSENT has no insertion timer running (R2). -/
theorem Pod.Ok.inserted {p : Pod} (h : p.Ok) (there : p.state ≠ .absent) : p.insertion = none := by
  simpa using mt h.insertion there

/-- A pod in a powered state is not marked faulty (R11). -/
theorem Pod.Ok.unmarked {p : Pod} (h : p.Ok) (powered : p.state.powered = true) : p.faultMark = false := by
  by_contra marked
  rcases h.faulted (by simpa using marked) with e | e <;> rw [e] at powered <;> cases powered

/-- A pod that is not ABSENT is present. -/
theorem Pod.Ok.there {p : Pod} (h : p.Ok) (there : p.state ≠ .absent) : p.present = true := by
  rw [h.present]
  exact bne_iff_ne.mpr there

theorem Pod.Ok.request {p : Pod} (h : p.Ok) (t : PodTarget) : ({ p with requested := t } : Pod).Ok := { h with }

theorem Pod.Ok.changeCode {p : Pod} (h : p.Ok) {code : Byte} (small : code.toNat ≤ 132) (now : Nat) :
    (p.changeCode code now).Ok := by
  unfold Pod.changeCode
  split
  · exact h
  · split
    · next hs =>
      exact
        { moving := rfl
          fits := fun t e => by
            obtain rfl := Option.some.inj e
            exact Transition.fits_settling.mpr ⟨rfl, rfl⟩
          supply := by rw [h.supply, hs]; rfl
          present := by rw [h.present, hs]; rfl
          insertion := fun e => by rw [h.inserted (by rw [hs]; decide)] at e; cases e
          loaded := fun _ => rfl
          code := small
          faulted := fun e => by rw [h.unmarked (by rw [hs]; rfl)] at e; cases e }
    · next hs =>
      exact
        { moving := by rw [Pod.resettle, Option.isSome_map, h.moving]
          fits := fun t e => by
            obtain ⟨old, ho, rfl⟩ := Option.map_eq_some_iff.mp e
            have fits := h.fits old ho
            rw [hs, Transition.fits_settling] at fits
            show (settleFrom old.dest now).Fits p.state
            rw [hs]
            exact Transition.fits_settling.mpr ⟨rfl, fits.2⟩
          supply := h.supply
          present := h.present
          insertion := h.insertion
          loaded := fun _ => rfl
          code := small
          faulted := h.faulted }
    all_goals
      next hs =>
      exact { h with
        loaded := fun e => by simp [hs] at e
        code := small }

/-- The start of a stage from a state that is no transition's own, by POD_GO or at the end of RAMPING (R7, R9). -/
theorem Pod.Ok.startStage {p : Pod} (h : p.Ok) (there : p.state ≠ .absent) (clear : p.faultMark = false) {t : Transition}
    {state : PodState} {loaded : Byte} (fits : t.Fits state) (settles : state = .settling → loaded = p.code) :
    ({ p with state, supply := true, loaded, transition := some t } : Pod).Ok := by
  have away : state = .ramping ∨ state = .settling ∨ state = .stopping := by
    rcases fits with ⟨_, e, _⟩ | ⟨_, e, _⟩ | ⟨_, e, _⟩
    · exact Or.inl e
    · exact Or.inr (Or.inl e)
    · exact Or.inr (Or.inr e)
  exact
    { moving := by rcases away with rfl | rfl | rfl <;> rfl
      fits := fun _ e => Option.some.inj e ▸ fits
      supply := by rcases away with rfl | rfl | rfl <;> rfl
      present := by
        show p.present = _
        rw [h.there there]
        rcases away with rfl | rfl | rfl <;> rfl
      insertion := fun e => absurd (h.insertion e) there
      loaded := fun e => settles (by rcases away with rfl | rfl | rfl <;> first | rfl | (rcases e with e | e <;> cases e))
      code := h.code
      faulted := fun e => by rw [clear] at e; cases e }

theorem Pod.Ok.settle {p : Pod} (h : p.Ok) (powered : p.state.powered = true) (now : Nat) : (p.settle now).Ok := by
  have k := h.startStage (t := settleFrom .live now) (state := .settling) (loaded := p.code)
    (fun e => by rw [e] at powered; cases powered) (h.unmarked powered) (Transition.fits_settling.mpr ⟨rfl, rfl⟩) fun _ => rfl
  rwa [← powered, ← h.supply] at k

theorem Pod.Ok.stop {p : Pod} (h : p.Ok) (powered : p.state.powered = true) {dest : PodTarget} (hd : dest ≠ .live) (now : Nat) :
    (p.stop dest now).Ok := by
  have k := h.startStage (t := { dest, stage := .stopping, endsAt := now + stoppingTime dest }) (state := .stopping)
    (loaded := p.loaded) (fun e => by rw [e] at powered; cases powered) (h.unmarked powered)
    (Transition.fits_stopping.mpr ⟨rfl, hd⟩) nofun
  rwa [← powered, ← h.supply] at k

theorem Pod.Ok.ramp {p : Pod} (h : p.Ok) (off : p.state = .off) (clear : p.faultMark = false) {dest : PodTarget}
    (hd : dest ≠ .off) (now : Nat) : (p.ramp dest now).Ok :=
  h.startStage (by rw [off]; decide) clear (Transition.fits_ramping.mpr ⟨rfl, hd⟩) nofun

theorem Pod.Ok.go {p : Pod} (h : p.Ok) (clear : p.faultMark = false) (now : Nat) : (p.go now).Ok := by
  unfold Pod.go
  split
  · next hs _ => exact h.ramp hs clear (by decide) now
  · next hs _ => exact h.ramp hs clear (by decide) now
  · next hs _ => exact h.settle (by rw [hs]; rfl) now
  · next hs _ => exact h.stop (by rw [hs]; rfl) (by decide) now
  · next hs _ => exact h.stop (by rw [hs]; rfl) (by decide) now
  · next hs _ => exact h.stop (by rw [hs]; rfl) (by decide) now
  · exact h

/-- A pod with no transition and no insertion timer is in order by its state alone. -/
theorem Pod.Ok.rest {p : Pod} (h : p.Ok) {state : PodState} {supply : Bool} (there : p.state ≠ .absent)
    (still : state.moving = false) (stays : state ≠ .absent) (powered : supply = state.powered)
    (loads : state = .live → p.loaded = p.code) (mark : p.faultMark = true → state = .off) :
    ({ p with state, supply, transition := none } : Pod).Ok where
  moving := still.symm
  fits := nofun
  supply := powered
  present := by
    show p.present = _
    rw [h.there there]
    exact (bne_iff_ne.mpr stays).symm
  insertion e := absurd (h.insertion e) there
  loaded e := by
    rcases e with e | e
    · exact loads e
    · obtain rfl : state = .settling := e
      cases still
  code := h.code
  faulted e := Or.inl (mark e)

theorem Pod.Ok.removed {p : Pod} (h : p.Ok) : p.removed.Ok where
  moving := rfl
  fits := nofun
  supply := rfl
  present := rfl
  insertion _ := rfl
  loaded := by simp [Pod.removed]
  code := h.code
  faulted _ := Or.inr rfl

theorem Pod.Ok.fault {p : Pod} (h : p.Ok) (powered : p.state.powered = true) : p.faulted.Ok where
  moving := rfl
  fits := nofun
  supply := rfl
  present := by
    show p.present = _
    rw [h.there fun e => by rw [e] at powered; cases powered]
    rfl
  insertion e := by
    rw [h.insertion e] at powered
    cases powered
  loaded := by simp [Pod.faulted]
  code := h.code
  faulted _ := Or.inl rfl

/-- A transition found in a stage is in flight, and its pod is in the state of the stage. -/
theorem Pod.Ok.inStage {p : Pod} (h : p.Ok) {stage : Stage} {t : Transition} (e : p.inStage stage = some t) :
    t.stage = stage ∧ t.Fits p.state ∧ p.state = stage.state := by
  obtain ⟨ht, hstage⟩ := Option.filter_eq_some_iff.mp e
  have same : t.stage = stage := beq_iff_eq.mp hstage
  have fits := h.fits t ht
  refine ⟨same, fits, ?_⟩
  subst same
  rcases fits with ⟨a, b, _⟩ | ⟨a, b, _⟩ | ⟨a, b, _⟩ <;> rw [a, b] <;> rfl

theorem Pod.Ok.ramped {p : Pod} (h : p.Ok) {t : Transition} (e : p.inStage .ramping = some t) (now : Nat) :
    (p.ramped t.dest now).Ok := by
  obtain ⟨_, _, hs⟩ := h.inStage e
  have powered : p.state.powered = true := by rw [hs]; rfl
  have isolated : ({ p with state := .isolated, transition := none } : Pod).Ok := by
    have k := h.rest (state := .isolated) (supply := p.supply) (by rw [hs]; decide) rfl (by decide)
      (by rw [h.supply, powered]; rfl) nofun fun m => by rw [h.unmarked powered] at m; cases m
    exact k
  unfold Pod.ramped
  split
  · exact h.settle powered now
  · exact isolated
  · exact isolated

theorem Pod.Ok.stopped {p : Pod} (h : p.Ok) {t : Transition} (e : p.inStage .stopping = some t) : (p.stopped t.dest).Ok := by
  obtain ⟨_, _, hs⟩ := h.inStage e
  have there : p.state ≠ .absent := by rw [hs]; decide
  have powered : p.state.powered = true := by rw [hs]; rfl
  have clear : p.faultMark = true → PodState.isolated = .off := fun m => by rw [h.unmarked powered] at m; cases m
  have off : ({ p with state := .off, supply := false, transition := none } : Pod).Ok :=
    h.rest there rfl (by decide) rfl nofun fun _ => rfl
  unfold Pod.stopped
  split
  · have k := h.rest (state := .isolated) (supply := p.supply) there rfl (by decide) (by rw [h.supply, powered]; rfl) nofun clear
    exact k
  · exact off
  · exact off

theorem Pod.Ok.live {p : Pod} (h : p.Ok) {t : Transition} (e : p.inStage .settling = some t) :
    ({ p with state := .live, transition := none } : Pod).Ok := by
  obtain ⟨_, _, hs⟩ := h.inStage e
  have hs : p.state = .settling := hs
  have powered : p.state.powered = true := by rw [hs]; rfl
  have k := h.rest (state := .live) (supply := p.supply) (by rw [hs]; decide) rfl (by decide) (by rw [h.supply, powered]; rfl)
    (fun _ => h.loaded (Or.inr hs)) fun m => by rw [h.unmarked powered] at m; cases m
  exact k

theorem Pod.Ok.insert {p : Pod} (h : p.Ok) (absent : p.state = .absent) :
    ({ p with present := true, state := .off, insertion := none } : Pod).Ok where
  moving := by rw [h.moving, absent]; rfl
  fits t e := by rw [h.still (by rw [absent]; rfl)] at e; cases e
  supply := by rw [h.supply, absent]; rfl
  present := rfl
  insertion := nofun
  loaded := by simp
  code := h.code
  faulted _ := Or.inl rfl

theorem Pod.Ok.reset (present : Bool) : (Pod.reset present).Ok := by
  cases present <;> constructor <;> simp [Pod.reset, PodState.moving, PodState.powered] <;> decide

/-! ### Filters -/

theorem Channel.Ok.dropped (live : Bool) (c : Channel) : ({ c with candidate := none } : Channel).Ok live :=
  ⟨nofun, nofun, nofun⟩

theorem Channel.Ok.mono {c : Channel} {live live' : Bool} (h : c.Ok live) (le : live = true → live' = true) : c.Ok live' :=
  ⟨fun e => le (h.live e), h.level, h.held⟩

/-- A sample that accepts no change leaves a candidate at the other level, within the width (R16). -/
theorem Channel.Ok.sampled {c : Channel} (h : c.Ok true) {level : Bool} (no : ¬ (level ≠ c.accepted ∧ c.accepts = true)) :
    (c.sampled level).Ok true := by
  unfold Channel.sampled
  split
  · exact Channel.Ok.dropped true c
  · next other =>
    have short : c.accepts = false := by simpa using fun e => no ⟨other, e⟩
    have flipped : level = !c.accepted := by cases level <;> cases hc : c.accepted <;> simp_all
    unfold Channel.accepts at short
    split
    · refine ⟨fun _ => rfl, fun k e => ?_, fun k e => ?_⟩ <;> obtain rfl := Option.some.inj e
      · exact flipped
      · exact Nat.zero_le 7
    · next k hk =>
      rw [hk] at short
      have few : k.held + 1 < c.width := by simpa using short
      refine ⟨fun _ => rfl, fun k' e => ?_, fun k' e => ?_⟩ <;> obtain rfl := Option.some.inj e
      · exact h.level k hk
      · have := c.width.isLt
        show k.held + 1 ≤ 7
        omega

/-! ### Pods and filters together -/

theorem PodsOk.of_same {s t : State} (h : PodsOk s) (pods : t.pods = s.pods) (channels : t.channels = s.channels) : PodsOk t :=
  ⟨fun p => by rw [pods]; exact h.pods p, fun c => by rw [channels, State.podLive, pods]; exact h.channels c⟩

theorem PodsOk.ok {s : State} (h : PodsOk s) : PodsOk s.ok := h.of_same rfl rfl

/-- A pod is replaced; its channels must be in order for its new state. -/
theorem PodsOk.replace {s t : State} (h : PodsOk s) {p : Fin 4} {new : Pod} (pods : t.pods = s.pods.set p new) (ok : new.Ok)
    (channels : ∀ c : Fin 32, podOf c = p → (t.channels[c]).Ok (new.state == .live))
    (others : ∀ c : Fin 32, podOf c ≠ p → t.channels[c] = s.channels[c]) : PodsOk t where
  pods q := by
    rw [pods, vset_get]
    split
    · exact ok
    · exact h.pods q
  channels c := by
    rw [State.podLive, pods, vset_get]
    by_cases e : podOf c = p
    · rw [if_pos e.symm]
      exact channels c e
    · rw [if_neg (Ne.symm e), others c e]
      exact h.channels c

/-- A pod is replaced by one that has not left LIVE. -/
theorem PodsOk.stays {s t : State} (h : PodsOk s) {p : Fin 4} {new : Pod} (pods : t.pods = s.pods.set p new) (ok : new.Ok)
    (channels : t.channels = s.channels) (live : s.pods[p].state = .live → new.state = .live) : PodsOk t :=
  h.replace pods ok
    (fun c e => by
      rw [channels]
      exact (h.channels c).mono fun l => by simp_all [State.podLive])
    fun _ _ => by rw [channels]

theorem PodsOk.putPod {s : State} (h : PodsOk s) (p : Fin 4) {new : Pod} (ok : new.Ok)
    (live : s.pods[p].state = .live → new.state = .live) : PodsOk (s.putPod p new) :=
  h.stays (State.putPod_pods p new s) ok (State.putPod_channels p new s) live

theorem State.dropCandidates_get (p : Fin 4) (s : State) (c : Fin 32) :
    (s.dropCandidates p).channels[c] = if podOf c = p then { s.channels[c] with candidate := none } else s.channels[c] :=
  tab_get _ c

/-- A pod that leaves LIVE drops its candidates (R16). -/
theorem PodsOk.podMoves {s : State} (h : PodsOk s) (p : Fin 4) {new : Pod} (cause : DownCause) (ok : new.Ok) :
    PodsOk (s.podMoves p new cause) := by
  unfold State.podMoves
  dsimp only
  split
  · refine h.replace (p := p) (new := new) (by simp) ok (fun c e => ?_) fun c e => ?_
    · rw [State.metersPodDown_channels, State.decodersPodDown_channels, State.dropCandidates_get, if_pos e]
      exact Channel.Ok.dropped _ _
    · rw [State.metersPodDown_channels, State.decodersPodDown_channels, State.dropCandidates_get, if_neg e,
        State.putPod_channels]
  · next left => exact h.putPod p ok fun l => not_not.mp fun away => left ⟨l, away⟩

theorem PodsOk.podUp {s : State} (h : PodsOk s) (p : Fin 4) {new : Pod} (ok : new.Ok) : PodsOk (s.podUp p new) := by
  have load : ∀ (t : State) (c : Fin 32), (t.loadLevels p).channels[c] =
      if podOf c = p then { t.channels[c] with accepted := t.pins.level c, candidate := none } else t.channels[c] :=
    fun t c => tab_get _ c
  unfold State.podUp
  refine h.replace (p := p) (new := new) (by simp) ok (fun c e => ?_) fun c e => ?_
  · rw [State.decodersPodUp_channels, load, if_pos e]
    exact ⟨nofun, nofun, nofun⟩
  · rw [State.decodersPodUp_channels, load, if_neg e, State.putPod_channels]

theorem PodsOk.setWidths {s : State} (h : PodsOk s) (p : Fin 4) (w : Vector (Fin 8) 8) : PodsOk (s.setWidths p w) where
  pods := h.pods
  channels c := by
    have get : (s.setWidths p w).channels[c] = if podOf c = p then { s.channels[c] with width := w[inputOf c] } else s.channels[c] :=
      tab_get _ c
    have k := h.channels c
    rw [get]
    split
    · exact ⟨k.live, k.level, k.held⟩
    · exact k

theorem PodsOk.setChannel {s : State} (h : PodsOk s) (c : Fin 32) {ch : Channel} (level : Bool)
    (ok : ch.Ok (s.podLive (podOf c))) : PodsOk (s.setChannel c ch level) where
  pods := h.pods
  channels e := by
    show ((s.channels.set c ch)[e]).Ok (s.podLive (podOf e))
    rw [vset_get]
    split
    · next same => exact same ▸ ok
    · exact h.channels e

theorem PodsOk.acceptChange {s : State} (h : PodsOk s) (c : Fin 32) : PodsOk (s.acceptChange c) :=
  h.setChannel c _ ⟨nofun, nofun, nofun⟩

theorem PodsOk.sampledAt {s : State} (h : PodsOk s) (now : Nat) : PodsOk (s.sampledAt now) where
  pods := h.pods
  channels c := by
    have get : (s.sampledAt now).channels[c] = (s.advance now).sampleOne c := tab_get _ c
    have k := h.channels c
    rw [get]
    unfold State.sampleOne
    split
    · next taken =>
      obtain ⟨live, no⟩ := Bool.and_eq_true_iff.mp taken
      have live : s.podLive (podOf c) = true := live
      rw [live] at k
      exact Channel.Ok.mono (Channel.Ok.sampled k (fun both => by
        rcases (show _ = _ ∨ _ = _ by simpa using no) with e | e
        · exact both.1 e
        · exact Bool.eq_false_iff.mp e both.2)) fun _ => live
    · exact k

/-! ### Commands -/

/-- The moves of decoders and meters leave pods and channels alone. -/
theorem podsOk_meter (m : Fin 8) : MeterClosed m fun s t => PodsOk s → PodsOk t :=
  ⟨fun _ h => h, fun _ _ _ h k => k ∘ h, fun _ _ h => h.of_same (State.putMeter_pods _ _ _) (State.putMeter_channels _ _ _)⟩

theorem podsOk_decoder (d : Fin 6) : DecoderClosed d fun s t => PodsOk s → PodsOk t where
  refl _ h := h
  trans _ _ _ h k := k ∘ h
  put _ _ h := h.of_same (State.putDecoder_pods _ _ _) (State.putDecoder_channels _ _ _)
  apply _ _ h := h.of_same (State.apply_pods _ _) (State.apply_channels _ _)
  error _ _ _ h := h.of_same (State.errorReport_pods _ _ _ _) (State.errorReport_channels _ _ _ _)
  event _ _ _ h := h.of_same (State.cleanEndEvent_pods _ _ _ _) (State.cleanEndEvent_channels _ _ _ _)

theorem PodsOk.atExpiry {s : State} (h : PodsOk s) (d : Fin 6) (n : Nat) (levels : List (Role × Bool)) :
    PodsOk (s.atExpiry d n levels) :=
  (podsOk_decoder d).atExpiry (fun _ _ k => k.of_same rfl rfl) n levels s h

theorem Pod.changeCode_faultMark (p : Pod) (code : Byte) (now : Nat) : (p.changeCode code now).faultMark = p.faultMark := by
  unfold Pod.changeCode
  split
  · rfl
  · split <;> rfl

theorem Pod.go_faultMark (p : Pod) (now : Nat) : (p.go now).faultMark = p.faultMark := by
  unfold Pod.go
  split <;> rfl

theorem podSet_podsOk {s : State} (h : PodsOk s) (pod requested code : Byte) (widths : Vector Byte 8) :
    PodsOk (podSet pod requested code widths s) := by
  have refused : ∀ st, PodsOk (s.refuse st) := fun _ => h.of_same rfl rfl
  simp only [podSet]
  split
  · next p t w _ _ _ =>
    split
    · exact refused _
    · next small =>
      have moved := (h.setWidths p w).podMoves p .settle (((h.pods p).request t).changeCode (Nat.not_lt.mp small) s.clock.now)
      exact moved.of_same rfl rfl
  · exact refused _

/-- POD_GO takes its pods one by one, and none of them has its fault mark set (R6). -/
theorem podGo_podsOk {s : State} (h : PodsOk s) (mask : Byte) : PodsOk (podGo mask s) := by
  simp only [podGo]
  split
  · exact h.of_same rfl rfl
  · split
    · exact h.of_same rfl rfl
    · split
      · exact h.of_same rfl rfl
      · next clear =>
        have clear : ∀ p ∈ namedPods mask, s.pods[p].faultMark = false := by simpa using clear
        suffices ∀ (l : List (Fin 4)) (t : State), PodsOk t → (∀ p ∈ l, t.pods[p].faultMark = false) →
            PodsOk (l.foldl State.podGoOne t) from (this _ s h clear).of_same rfl rfl
        intro l
        induction l with
        | nil => exact fun _ k _ => k
        | cons p l ih =>
          intro t k unmarked
          have pods : (t.podGoOne p).pods = t.pods.set p (t.pods[p].go t.clock.now) := by
            unfold State.podGoOne State.podMoves
            dsimp only
            split <;> simp
          refine ih _ (k.podMoves p .stop ((k.pods p).go (unmarked p (by simp)) _)) fun q hq => ?_
          rw [pods, vset_get]
          split
          · next e => rw [Pod.go_faultMark, e, unmarked q (by simp [hq])]
          · exact unmarked q (by simp [hq])

theorem insertionTimerStart_podsOk {s : State} (h : PodsOk s) (p : Fin 4) : PodsOk (insertionTimerStart p s) := by
  simp only [insertionTimerStart]
  split
  · next hp => exact h.stays (p := p) rfl { h.pods p with insertion := fun _ => hp.1 } rfl id
  · exact h

theorem insertionTimerStop_podsOk {s : State} (h : PodsOk s) (p : Fin 4) : PodsOk (insertionTimerStop p s) := by
  simp only [insertionTimerStop]
  split
  · exact h
  · exact h.stays (p := p) rfl { h.pods p with insertion := nofun } rfl id

theorem insertion_podsOk {s : State} (h : PodsOk s) (p : Fin 4) : PodsOk (insertion p s) := by
  simp only [insertion]
  split
  · exact h
  · next t ht =>
    have absent := (h.pods p).insertion (by rw [ht]; rfl)
    have put := PodsOk.putPod (h.of_same (t := s.advance t) rfl rfl) p ((h.pods p).insert absent) fun l => by
      rw [State.advance_pods, absent] at l
      cases l
    exact put.of_same (State.raisePodChange_pods _ _) (State.raisePodChange_channels _ _)

theorem removal_podsOk {s : State} (h : PodsOk s) (p : Fin 4) : PodsOk (removal p s) := by
  simp only [removal]
  split
  · exact h
  · have moved := PodsOk.podMoves (h.of_same (t := { s with pins := s.pins.setSense p false }) rfl rfl) p .removal (h.pods p).removed
    exact moved.of_same (State.raisePodChange_pods _ _) (State.raisePodChange_channels _ _)

theorem overcurrent_podsOk {s : State} (h : PodsOk s) (p : Fin 4) : PodsOk (overcurrent p s) := by
  simp only [overcurrent]
  split
  · next powered => exact h.podMoves p .fault ((h.pods p).fault powered)
  · exact h

theorem rampingExpiry_podsOk {s : State} (h : PodsOk s) (p : Fin 4) : PodsOk (rampingExpiry p s) := by
  simp only [rampingExpiry]
  split
  · exact h
  · next t ht =>
    exact PodsOk.putPod (h.of_same (t := s.advance t.endsAt) rfl rfl) p ((h.pods p).ramped ht _) fun l => by
      rw [State.advance_pods, ((h.pods p).inStage ht).2.2] at l
      cases l

theorem settlingExpiry_podsOk {s : State} (h : PodsOk s) (p : Fin 4) (levels : BitVec 8) : PodsOk (settlingExpiry p levels s) := by
  simp only [settlingExpiry]
  split
  · exact h
  · next t ht =>
    exact PodsOk.podUp (h.of_same (t := { s.advance t.endsAt with pins := s.pins.setPodLevels p levels }) rfl rfl)
      p ((h.pods p).live ht)

theorem stoppingExpiry_podsOk {s : State} (h : PodsOk s) (p : Fin 4) : PodsOk (stoppingExpiry p s) := by
  simp only [stoppingExpiry]
  split
  · exact h
  · next t ht =>
    exact PodsOk.putPod (h.of_same (t := s.advance t.endsAt) rfl rfl) p ((h.pods p).stopped ht) fun l => by
      rw [State.advance_pods, ((h.pods p).inStage ht).2.2] at l
      cases l

theorem acceptedEdge_podsOk {s : State} (h : PodsOk s) (channel : Fin 32) (also : List (Fin 32)) (stamp : Nat)
    (order : List Taker) : PodsOk (acceptedEdge channel also stamp order s) := by
  simp only [acceptedEdge]
  split
  · exact h
  · refine deliver_closed podsOk_decoder podsOk_meter _ stamp order _ ?_
    exact foldl_inv PodsOk State.acceptChange (fun t c ht => ht.acceptChange c) _ _ (h.of_same rfl rfl)

theorem filterCandidate_podsOk {s : State} (h : PodsOk s) (c : Fin 32) (level : Bool) (stamp : Nat) :
    PodsOk (filterCandidate c level stamp s) := by
  simp only [filterCandidate]
  split
  · exact h
  · next live =>
    have live : s.podLive (podOf c) = true := by simpa using live
    split
    · exact h
    · next no =>
      have k := h.channels c
      rw [live] at k
      exact PodsOk.setChannel (h.of_same (t := s.advance stamp) rfl rfl) c level ((k.sampled no).mono fun _ => live)

theorem ntcAckNotice_podsOk {s : State} (h : PodsOk s) (kind mask : Byte) : PodsOk (ntcAckNotice kind mask s) := by
  have cleared : PodsOk ((namedPods mask).foldl State.clearMark s) := by
    refine foldl_inv PodsOk State.clearMark (fun t p k => ?_) _ s h
    rw [State.clearMark_eq]
    exact k.putPod p { k.pods p with faulted := nofun } id
  have podFault : PodsOk (ackPodFault mask s) := by
    unfold ackPodFault
    split
    · exact cleared.of_same rfl rfl
    · exact h.of_same rfl rfl
  unfold ntcAckNotice
  split
  · split
    · exact h.of_same rfl rfl
    · exact podFault
  · refine h.of_same ?_ ?_ <;> simp only [ackPodChange, ackPanelLost, ackStoreFull, ackCellsFull] <;> (repeat' split) <;> simp

/-- A timer of a decoder that expires. -/
theorem decoderExpiry_podsOk {s : State} (h : PodsOk s) (d : Fin 6) (line clock data : Bool) :
    PodsOk (twoWireIdleExpiry d clock data s) ∧ PodsOk (asyncIdleExpiry d line s) ∧ PodsOk (asyncSamplePoint d line s) ∧
      PodsOk (characterJudged d line s) ∧ PodsOk (breakTimeout d line s) ∧ PodsOk (idleGapExpiry d s) := by
  have closed := podsOk_decoder d
  refine ⟨?_, ?_, ?_, ?_, ?_, ?_⟩
  · simp only [twoWireIdleExpiry]
    split
    · exact closed.idleAt _ _ (h.atExpiry d _ _)
    · exact h
  · simp only [asyncIdleExpiry]
    split
    · exact closed.idleAt _ _ (h.atExpiry d _ _)
    · exact h
  · simp only [asyncSamplePoint]
    split
    · exact h
    · split
      · exact closed.takeSample _ (h.atExpiry d _ _)
      · exact h
  · simp only [characterJudged]
    split
    · exact h
    · split
      · exact closed.lastSample _ (h.atExpiry d _ _)
      · exact h
  · simp only [breakTimeout]
    split
    · exact h
    · split
      · exact closed.breakTest _ _ (h.atExpiry d _ _)
      · exact h
  · simp only [idleGapExpiry]
    split
    · split
      · exact closed.gapEnd _ _ (h.of_same rfl rfl)
      · exact h
    · exact h

theorem mtrStart_podsOk {s : State} (h : PodsOk s) (meter : Byte) : PodsOk (mtrStart meter s) := by
  have opened : ∀ g stamp, PodsOk (s.openWindow g stamp) := fun g stamp =>
    foldl_inv PodsOk _ (fun t m => (podsOk_meter m).followerOpen g stamp t) _ _ ((podsOk_meter g).setState _ s h)
  simp only [mtrStart]
  repeat' split
  · exact h.of_same rfl rfl
  · exact h.ok
  · exact h.of_same rfl rfl
  · exact ((podsOk_meter _).setState _ s h).ok
  · exact (opened _ _).ok
  all_goals exact ((podsOk_meter _).setState _ s h).ok

theorem mtrStop_podsOk {s : State} (h : PodsOk s) (meter : Byte) : PodsOk (mtrStop meter s) := by
  have stopped : ∀ g, PodsOk ((List.finRange 8).foldl (State.followerStop g) (s.setMeterState g .off)) := fun g =>
    foldl_inv PodsOk _ (fun t m => (podsOk_meter m).followerStop g t) _ _ ((podsOk_meter g).setState _ s h)
  simp only [mtrStop]
  repeat' split
  · exact h.of_same rfl rfl
  · exact h.ok
  · exact (stopped _).ok
  · exact ((podsOk_meter _).setState _ s h).ok

theorem windowExpiry_podsOk {s : State} (h : PodsOk s) (m : Fin 8) (order : List (Fin 8)) : PodsOk (windowExpiry m order s) := by
  simp only [windowExpiry]
  split
  · next openAt _ =>
    exact foldl_inv PodsOk _ (fun t f => (podsOk_meter f).followerEnd _ _ _ t) _ _
      ((podsOk_meter m).result _ _ (s.advance (openAt + s.meters[m].config.windowLength)) (h.of_same rfl rfl))
  · exact h

theorem PodsOk.resetWith (pins : Pins) : PodsOk (State.resetWith pins) where
  pods p := resetWith_pods pins p ▸ Pod.Ok.reset _
  channels c := by
    have get : (State.resetWith pins).channels[c] = Channel.reset := replicate_get 32 _ c
    rw [get]
    exact ⟨nofun, nofun, nofun⟩

theorem effect_podsOk (c : Instr) {s : State} (h : PodsOk s) : PodsOk (effect c s) := by
  cases c
  case fullReset sense => exact (PodsOk.resetWith (s.pins.afterReset sense)).of_same rfl rfl
  case podSet pod requested code widths => exact podSet_podsOk h pod requested code widths
  case podGo mask => exact podGo_podsOk h mask
  case insertionTimerStart p => exact insertionTimerStart_podsOk h p
  case insertionTimerStop p => exact insertionTimerStop_podsOk h p
  case insertion p => exact insertion_podsOk h p
  case removal p => exact removal_podsOk h p
  case overcurrent p => exact overcurrent_podsOk h p
  case rampingExpiry p => exact rampingExpiry_podsOk h p
  case settlingExpiry p levels => exact settlingExpiry_podsOk h p levels
  case stoppingExpiry p => exact stoppingExpiry_podsOk h p
  case acceptedEdge channel also stamp order => exact acceptedEdge_podsOk h channel also stamp order
  case filterCandidate c level stamp => exact filterCandidate_podsOk h c level stamp
  case ntcAckNotice kind mask => exact ntcAckNotice_podsOk h kind mask
  case twoWireIdleExpiry d clock data => exact (decoderExpiry_podsOk h d false clock data).1
  case asyncIdleExpiry d line => exact (decoderExpiry_podsOk h d line false false).2.1
  case asyncSamplePoint d line => exact (decoderExpiry_podsOk h d line false false).2.2.1
  case characterJudged d line => exact (decoderExpiry_podsOk h d line false false).2.2.2.1
  case breakTimeout d line => exact (decoderExpiry_podsOk h d line false false).2.2.2.2.1
  case idleGapExpiry d => exact (decoderExpiry_podsOk h d false false false).2.2.2.2.2
  case mtrStart meter => exact mtrStart_podsOk h meter
  case mtrStop meter => exact mtrStop_podsOk h meter
  case windowExpiry m order => exact windowExpiry_podsOk h m order
  case devStatus later =>
    rw [effect, devStatus_eq]
    exact h.of_same rfl rfl
  all_goals refine h.of_same ?_ ?_
  all_goals
    simp only [effect, requestFrame, readFrame, State.takeSelection, State.takeRead, answer, devIdent, devRestart, podRead,
      tgtFind, tgtList, tgtRead, tgtDeclare, tgtSetCell, tgtExpect, expectSet, expectClear, tgtDropCell, tgtPin, tgtRetire,
      State.withRecord, decConfig, decStart, decStop, decRead, mtrConfig, mtrClear, mtrRead, overrange, State.overrangeEnd, wchSet, wchClear, wchRead, ntcRead, ntcAckWatch, ntcLevels, hold,
      paneSet, paneClear, paneRead, dispInterval, refreshTick, dispRepaint, pnlEnable, pnlRestart, bklSet, lbusyLow, burstEnd,
      waitExpiry, backlightPhaseExpiry, millisecondTick]
      <;> (repeat' split) <;> simp

/-- Settles O53: what every command and the samples of the filters keep, every step keeps. -/
theorem stepKeepsPods : Obligations.StepKeepsPods := fun _ _ hs h =>
  step_keeps (P := PodsOk) (fun _ _ k => k.of_same rfl rfl) (fun c _ k _ => effect_podsOk c k) (fun _ now k _ => k.sampledAt now) h hs

end Sys2Proof.Machine
end

section
/-! Every step keeps the decoders in order (sections 3.3 and 3.4, R63, R69, R80, R97): what the ends, edges and expiries of the profiles make of one decoder, and then every command. -/

namespace Sys2Proof.Machine

/-! ### One decoder -/

/-- The values of a staging are within their limits (R63). -/
def Staging.Ok (st : Staging) : Prop :=
  st.values.length ≤ Config.stagedValues ∧ st.values.length ≤ st.observed ∧ st.observed ≤ Config.observedLimit

/-- A decoder in order but for its timer, as it is between a change of its line view and what the edge makes of it. -/
structure Decoder.Staged (d : Decoder) : Prop where
  staging : d.staging.isSome = (d.state == .busy)
  values  : ∀ st, d.staging = some st → st.Ok
  profile : d.params = .none → d.state = .stopped

theorem Decoder.ok_iff (d : Decoder) : d.Ok ↔ d.Staged ∧ (d.timer.isSome = true → d.timerMayRun = true) :=
  ⟨fun h => ⟨⟨h.staging, h.values, h.profile⟩, h.timer⟩, fun ⟨h, k⟩ => ⟨h.staging, h.values, h.profile, k⟩⟩

theorem Decoder.Ok.staged {d : Decoder} (h : d.Ok) : d.Staged := (d.ok_iff.mp h).1

/-- A decoder with its timer stopped is in order when its staging is. -/
theorem Decoder.Staged.ok {d : Decoder} (h : d.Staged) (timer : d.timer = none) : d.Ok :=
  d.ok_iff.mpr ⟨h, by simp [timer]⟩

/-- A decoder in BUSY holds a staging, and has a profile. -/
theorem Decoder.Ok.busy {d : Decoder} (h : d.Ok) (busy : d.state = .busy) : ∃ st, d.staging = some st :=
  Option.isSome_iff_exists.mp (by rw [h.staging, busy]; rfl)

theorem Staging.Ok.fresh : Staging.fresh.Ok := ⟨by decide, by decide, by decide⟩

/-- A staging whose values and count are those of one in order is in order. -/
theorem Staging.Ok.of_same {st st' : Staging} (h : st.Ok) (values : st'.values = st.values) (observed : st'.observed = st.observed) :
    st'.Ok := by
  unfold Staging.Ok
  rw [values, observed]
  exact h

theorem Staging.Ok.takeValue {st : Staging} (h : st.Ok) (v : Byte) : (st.takeValue v).Ok := by
  obtain ⟨few, counted, limit⟩ := h
  unfold Staging.takeValue
  split
  · next below =>
    refine ⟨?_, ?_, below⟩
    · dsimp only
      split
      · next room => simpa using room
      · exact few
    · dsimp only
      split
      · simpa using counted
      · exact Nat.le_succ_of_le counted
  · exact ⟨few, counted, limit⟩

theorem Staging.Ok.twoWireBit {st : Staging} (h : st.Ok) (slot : Nat) (bit : Bool) : (st.twoWireBit slot bit).Ok := by
  unfold Staging.twoWireBit
  dsimp only
  split <;> exact h.of_same rfl rfl

theorem Staging.Ok.byteDone {st : Staging} (h : st.Ok) : st.byteDone.Ok := h.of_same rfl rfl

theorem Staging.Ok.twoWireData {st : Staging} (h : st.Ok) (value : Byte) (ack : Bool) : (st.twoWireData value ack).Ok := by
  have write : ∀ st' : Staging, st' = (if st.taking then
      if ack then
        match st.pointerSet with
        | none => { st with pointerSet := some value }
        | some _ => st.takeValue value
      else { st with taking := false }
    else st) → st'.Ok := by
    rintro _ rfl
    repeat' split
    · exact h.of_same rfl rfl
    · exact h.takeValue value
    · exact h.of_same rfl rfl
    · exact h
  unfold Staging.twoWireData
  split
  · exact h.takeValue value
  all_goals exact write _ rfl

theorem Staging.Ok.clockedBit {st : Staging} (h : st.Ok) (p : ClockedParams) (out inp : Bool) : (st.clockedBit p out inp).Ok := by
  have byte : ∀ (st' : Staging) (o i : Byte), st'.Ok → (st'.clockedByte p o i).Ok := fun st' o i k => by
    unfold Staging.clockedByte
    split
    · exact k.of_same rfl rfl
    · exact k.takeValue _
    · exact k.takeValue _
  unfold Staging.clockedBit
  dsimp only
  split
  · exact h.of_same rfl rfl
  · exact byte _ _ _ (h.of_same rfl rfl)

theorem Staging.Ok.asyncData {st : Staging} (h : st.Ok) (value : Byte) : (st.asyncData value).Ok := by
  unfold Staging.asyncData
  split
  · exact h.of_same rfl rfl
  · exact h.takeValue value

theorem Staging.Ok.startStaging (p : AsyncParams) (stamp : Nat) : (p.startStaging stamp).Ok := Staging.Ok.fresh.of_same rfl rfl

theorem Staging.Ok.addressed (value : Byte) : (Staging.addressed value).Ok := Staging.Ok.fresh.of_same rfl rfl

/-- The state and the staging that a transaction's end can leave a configured decoder. -/
structure Ends (next : DecState) (staging : Option Staging) : Prop where
  present : staging.isSome = (next == .busy)
  values  : ∀ st, staging = .some st → st.Ok

theorem Ends.none {next : DecState} (h : next ≠ .busy) : Ends next none :=
  ⟨(beq_eq_false_iff_ne.mpr h).symm, nofun⟩

theorem Ends.some {st : Staging} (h : st.Ok) : Ends .busy (some st) := ⟨rfl, fun _ e => Option.some.inj e ▸ h⟩

theorem Decoder.Ok.afterEnd (d : Decoder) {next : DecState} {staging : Option Staging} (h : Ends next staging)
    (profile : d.params = .none → next = .stopped) : (d.afterEnd next staging).Ok :=
  ⟨h.present, h.values, profile, nofun⟩

theorem Decoder.timerMayRun_twoWire {d : Decoder} (params : d.params = .twoWire) (syncing : d.state = .syncing) :
    d.timerMayRun = d.bothHigh := by
  unfold Decoder.timerMayRun
  rw [params, syncing]

/-- A decoder with a timer has TWO_WIRE or ASYNC. -/
theorem Decoder.timerMayRun_silent {d : Decoder} (params : d.params = .none ∨ ∃ p, d.params = .clocked p) : d.timerMayRun = false := by
  unfold Decoder.timerMayRun
  obtain e | ⟨p, e⟩ := params <;> rw [e]

theorem Decoder.timerMayRun_async {d : Decoder} {p : AsyncParams} (params : d.params = .async p) (syncing : d.state = .syncing) :
    d.timerMayRun = d.logical p := by
  unfold Decoder.timerMayRun
  rw [params, syncing]

/-- A decoder with a profile that enters SYNCING is in order: its timer runs only on an idle line, and CLOCKED has none. -/
theorem Decoder.Ok.enterSyncing (d : Decoder) (stamp : Nat) (profile : d.params ≠ .none) : (d.enterSyncing stamp).Ok := by
  unfold Decoder.enterSyncing
  dsimp only
  split
  · next hp => exact absurd hp profile
  · next hp =>
    split
    · next idle => exact ⟨rfl, nofun, fun e => absurd e profile, fun _ =>
        (Decoder.timerMayRun_twoWire (d := { d with state := .syncing, timer := some (stamp + Config.twoWireIdleTime), staging := none })
          hp rfl).trans idle⟩
    · exact ⟨rfl, nofun, fun e => absurd e profile, nofun⟩
  · split
    · exact ⟨rfl, nofun, fun e => absurd e profile, nofun⟩
    · exact ⟨rfl, nofun, fun e => absurd e profile, nofun⟩
  · next p hp =>
    split
    · next idle => exact ⟨rfl, nofun, fun e => absurd e profile, fun _ =>
        (Decoder.timerMayRun_async (d := { d with state := .syncing, timer := some (stamp + p.charTime), staging := none })
          hp rfl).trans idle⟩
    · exact ⟨rfl, nofun, fun e => absurd e profile, nofun⟩

/-- A new staging for a decoder in BUSY, its timer as it is. -/
theorem Decoder.Ok.withStaging {d : Decoder} (h : d.Ok) (busy : d.state = .busy) {st : Staging} (ok : st.Ok) :
    (d.withStaging st).Ok :=
  ⟨by show true = (d.state == .busy); rw [busy]; rfl, fun _ e => Option.some.inj e ▸ ok, h.profile, h.timer⟩

/-- In BUSY the timer of an ASYNC decoder may run (R98, R102). -/
theorem Decoder.Ok.asyncTimer {d : Decoder} {p : AsyncParams} (h : d.Ok) (params : d.params = .async p) (busy : d.state = .busy)
    (timer : Option Nat) : ({ d with timer } : Decoder).Ok :=
  ⟨h.staging, h.values, h.profile, fun _ => by simp [Decoder.timerMayRun, params, busy]⟩

/-- Outside SYNCING a change of the line view leaves a decoder in order; in SYNCING its timer may be due to change. -/
theorem Decoder.Ok.withLevel {d : Decoder} (h : d.Ok) (r : Role) (l : Bool) :
    (d.withLevel r l).Staged ∧ (d.state ≠ .syncing → (d.withLevel r l).Ok) := by
  have staged : (d.withLevel r l).Staged := ⟨h.staging, h.values, h.profile⟩
  refine ⟨staged, fun hs => (Decoder.ok_iff _).mpr ⟨staged, fun t => ?_⟩⟩
  have may := h.timer t
  unfold Decoder.timerMayRun at may ⊢
  revert may
  cases hp : d.params <;> cases hd : d.state <;> simp_all [Decoder.withLevel]

theorem Decoder.Ok.reset : Decoder.reset.Ok := ⟨rfl, nofun, fun _ => rfl, nofun⟩

/-- A configured decoder is STOPPED. -/
theorem Decoder.Ok.stoppedWith (params : Params) (learn : Learn) (bindings : List Binding) :
    ({ Decoder.reset with params, learn, bindings } : Decoder).Ok := ⟨rfl, nofun, fun _ => rfl, nofun⟩

/-! ### The decoders of a state -/

theorem DecodersOk.of_same {s t : State} (h : DecodersOk s) (e : t.decoders = s.decoders) : DecodersOk t := fun d => by
  rw [e]
  exact h d

/-- Every decoder but `d` is in order. -/
def OthersOk (d : Fin 6) (s : State) : Prop := ∀ e : Fin 6, e ≠ d → (s.decoders[e]).Ok

theorem DecodersOk.others {s : State} (h : DecodersOk s) (d : Fin 6) : OthersOk d s := fun e _ => h e

/-- A decoder becomes one that is in order. -/
theorem DecodersOk.of_set {s t : State} {d : Fin 6} {new : Decoder} (h : OthersOk d s) (ok : new.Ok)
    (e : t.decoders = s.decoders.set d new) : DecodersOk t := fun i => by
  rw [e, vset_get]
  split
  · exact ok
  · next hi => exact h i (Ne.symm hi)

theorem OthersOk.put {s : State} {d : Fin 6} (h : OthersOk d s) {new : Decoder} (ok : new.Ok) : DecodersOk (s.putDecoder d new) :=
  DecodersOk.of_set h ok (State.putDecoder_decoders d new s)

theorem DecodersOk.put {s : State} (h : DecodersOk s) (d : Fin 6) {new : Decoder} (ok : new.Ok) : DecodersOk (s.putDecoder d new) :=
  (h.others d).put ok

/-- A running decoder has a profile (R69). -/
theorem DecodersOk.configured {s : State} (h : DecodersOk s) {d : Fin 6} (running : s.decoders[d].state ≠ .stopped) :
    s.decoders[d].params ≠ .none := fun e => running ((h d).profile e)

/-! ### Ends -/

/-- What an end leaves of the decoders: one has ended, with its profile as it was. -/
theorem State.cleanEnd_decoders (d : Fin 6) (stamp : Nat) (next : DecState) (staging : Option Staging) (s : State) :
    ∃ dec : Decoder, (s.cleanEnd d stamp next staging).decoders = s.decoders.set d (dec.afterEnd next staging) ∧
      dec.params = s.decoders[d].params := by
  unfold State.cleanEnd State.discard
  dsimp only
  split
  · exact ⟨s.decoders[d], State.putDecoder_decoders _ _ _, rfl⟩
  · split
    · next a dir _ _ =>
      exact ⟨s.decoders[d].count _, by
        rw [State.cleanEndEvent_decoders, State.putDecoder_decoders, State.apply_decoders], rfl⟩
    · exact ⟨s.decoders[d], State.putDecoder_decoders _ _ _, rfl⟩

theorem State.abortTo_decoders (d : Fin 6) (reason : AbortReason) (f : Decoder → Decoder) (s : State) :
    (s.abortTo d reason f).decoders = s.decoders.set d (f (s.decoders[d].countAbort reason)) := by
  have report : ∀ (st : Option Staging) (t : State), (t.abortReport d reason st).decoders = t.decoders := fun st t => by
    unfold State.abortReport
    split
    · rfl
    · split
      · rfl
      · split
        · exact State.errorReport_decoders _ _ _ _
        · rfl
  unfold State.abortTo
  rw [report, State.putDecoder_decoders]

theorem OthersOk.cleanEnd {s : State} {d : Fin 6} (h : OthersOk d s) {stamp : Nat} {next : DecState} {staging : Option Staging}
    (ends : Ends next staging) (profile : s.decoders[d].params = .none → next = .stopped) :
    DecodersOk (s.cleanEnd d stamp next staging) := by
  obtain ⟨dec, e, params⟩ := s.cleanEnd_decoders d stamp next staging
  exact DecodersOk.of_set h (Decoder.Ok.afterEnd dec ends (params ▸ profile)) e

theorem OthersOk.discard {s : State} {d : Fin 6} (h : OthersOk d s) {next : DecState} {staging : Option Staging}
    (ends : Ends next staging) (profile : s.decoders[d].params = .none → next = .stopped) :
    DecodersOk (s.discard d next staging) := h.put (Decoder.Ok.afterEnd _ ends profile)

theorem OthersOk.abort {s : State} {d : Fin 6} (h : OthersOk d s) {reason : AbortReason} {next : DecState}
    {staging : Option Staging} (ends : Ends next staging) (profile : s.decoders[d].params = .none → next = .stopped) :
    DecodersOk (s.abort d reason next staging) :=
  DecodersOk.of_set h (Decoder.Ok.afterEnd (s.decoders[d].countAbort reason) ends profile) (State.abortTo_decoders _ _ _ _)

theorem OthersOk.abortToSyncing {s : State} {d : Fin 6} (h : OthersOk d s) {reason : AbortReason} {stamp : Nat}
    (profile : s.decoders[d].params ≠ .none) : DecodersOk (s.abortToSyncing d reason stamp) :=
  DecodersOk.of_set h (Decoder.Ok.enterSyncing (s.decoders[d].countAbort reason) stamp profile) (State.abortTo_decoders _ _ _ _)

/-- A staging for decoder `d`, which is BUSY. -/
theorem DecodersOk.setStaging {s : State} (h : DecodersOk s) {d : Fin 6} (busy : s.decoders[d].state = .busy) {st : Staging}
    (ok : st.Ok) : DecodersOk (s.setStaging d st) := h.put d ((h d).withStaging busy ok)

/-! ### TWO_WIRE -/

theorem DecodersOk.twoWireClock {s : State} (h : DecodersOk s) {d : Fin 6} (busy : s.decoders[d].state = .busy) (bit : Bool)
    {st : Staging} (ok : st.Ok) : DecodersOk (s.twoWireClock d bit st) := by
  have running := h.configured (d := d) (by rw [busy]; decide)
  unfold State.twoWireClock
  dsimp only
  generalize (if 9 ≤ st.slot then 1 else st.slot + 1) = slot
  split
  · exact h.setStaging busy (ok.twoWireBit _ _)
  · split
    · split
      · exact (h.others d).abort (Ends.none (by decide)) fun e => absurd e running
      · exact h.setStaging busy ok.byteDone
    · exact h.setStaging busy (ok.byteDone.twoWireData _ _)

theorem DecodersOk.twoWireCondition {s : State} (h : DecodersOk s) {d : Fin 6} (running : s.decoders[d].params ≠ .none)
    (stop : Bool) (stamp : Nat) (st : Staging) : DecodersOk (s.twoWireCondition d stop stamp st) := by
  have ends : Ends (if stop then DecState.idle else .busy) (if stop then none else some Staging.fresh) := by
    cases stop
    · exact Ends.some Staging.Ok.fresh
    · exact Ends.none (by decide)
  unfold State.twoWireCondition
  dsimp only
  split
  · split
    · exact (h.others d).cleanEnd ends fun e => absurd e running
    · exact (h.others d).discard ends fun e => absurd e running
  · exact (h.others d).abort ends fun e => absurd e running

/-- A TWO_WIRE edge sets the timer that its line view gives, so it needs none of the timer before it. -/
theorem OthersOk.twoWireEdge {s : State} {d : Fin 6} (h : OthersOk d s) (params : s.decoders[d].params = .twoWire)
    (staged : s.decoders[d].Staged) (ok : s.decoders[d].state ≠ .syncing → s.decoders[d].Ok) (r : Role) (level : Bool)
    (stamp : Nat) : DecodersOk (s.twoWireEdge d r level stamp) := by
  have all : s.decoders[d].state ≠ .syncing → DecodersOk s := fun hs i => by
    by_cases e : i = d
    · exact e ▸ ok hs
    · exact h i e
  have configured : s.decoders[d].params ≠ .none := by rw [params]; decide
  unfold State.twoWireEdge
  dsimp only
  split
  · next syncing =>
    split
    · exact h.put (Decoder.Ok.afterEnd _ (Ends.none (by decide)) fun e => absurd e configured)
    · refine h.put ((Decoder.ok_iff _).mpr ⟨⟨staged.staging, staged.values, staged.profile⟩, fun t => ?_⟩)
      refine (Decoder.timerMayRun_twoWire params syncing).trans ?_
      show s.decoders[d].bothHigh = true
      by_contra low
      simp only [Decoder.twoWireSyncTimer, if_neg low] at t
      cases t
  · next idle =>
    have all := all (by rw [idle]; decide)
    split
    · exact all.put d (Decoder.Ok.afterEnd _ (Ends.some Staging.Ok.fresh) fun e => absurd e configured)
    · exact all
  · next busy =>
    have all := all (by rw [busy]; decide)
    split
    · exact all
    · next st hst =>
      split
      · exact all.twoWireCondition configured level stamp st
      · split
        · exact all.twoWireClock busy _ ((all d).values st hst)
        · exact all
  · next stopped => exact all (by rw [stopped]; decide)
  · next suspended => exact all (by rw [suspended]; decide)

/-! ### CLOCKED -/

theorem DecodersOk.frameEnd {s : State} (h : DecodersOk s) {d : Fin 6} (running : s.decoders[d].params ≠ .none) (stamp : Nat)
    (st : Staging) : DecodersOk (s.frameEnd d stamp st) := by
  have ended : ∀ t : State, DecodersOk t → t.decoders[d].params = s.decoders[d].params →
      DecodersOk (t.cleanEnd d stamp .idle none) ∧ DecodersOk (t.discard d .idle none) := fun t k params => by
    have running : t.decoders[d].params ≠ .none := params ▸ running
    exact ⟨(k.others d).cleanEnd (Ends.none (by decide)) fun e => absurd e running,
      (k.others d).discard (Ends.none (by decide)) fun e => absurd e running⟩
  have ragged : DecodersOk (s.putDecoder d { s.decoders[d] with ragged := satInc s.decoders[d].ragged }) :=
    h.put d ⟨(h d).staging, (h d).values, (h d).profile, (h d).timer⟩
  have params : (s.putDecoder d { s.decoders[d] with ragged := satInc s.decoders[d].ragged }).decoders[d].params =
      s.decoders[d].params := by
    rw [State.putDecoder_decoders, vset_same]
  unfold State.frameEnd
  dsimp only
  by_cases whole : st.bits.isEmpty = true
  · rw [if_pos whole]
    split
    · exact (ended s h rfl).1
    · exact (ended s h rfl).2
  · rw [if_neg whole]
    split
    · exact (ended _ ragged params).1
    · exact (ended _ ragged params).2

theorem DecodersOk.selectInBusy {s : State} (h : DecodersOk s) {d : Fin 6} (running : s.decoders[d].params ≠ .none) (k : Fin 4)
    (active : Bool) (stamp : Nat) (st : Staging) : DecodersOk (s.selectInBusy d k active stamp st) := by
  unfold State.selectInBusy
  split
  · split
    · exact h
    · exact h.frameEnd running stamp st
  · split
    · exact (h.others d).abortToSyncing running
    · exact h

theorem DecodersOk.clockedEdge {s : State} (h : DecodersOk s) {d : Fin 6} (running : s.decoders[d].params ≠ .none)
    (p : ClockedParams) (r : Role) (level : Bool) (stamp : Nat) : DecodersOk (s.clockedEdge d p r level stamp) := by
  unfold State.clockedEdge
  dsimp only
  split
  · split
    · split
      · exact h.put d (Decoder.Ok.afterEnd _ (Ends.none (by decide)) fun e => absurd e running)
      · exact h
    · split
      · exact h.put d (Decoder.Ok.afterEnd _ (Ends.some (Staging.Ok.fresh.of_same rfl rfl)) fun e => absurd e running)
      · exact h
    · split
      · exact h
      · exact h.selectInBusy running _ _ _ _
    · exact h
    · exact h
  · split
    · next st busy hst =>
      split
      · exact h.setStaging busy (Staging.Ok.clockedBit ((h d).values st hst) p _ _)
      · exact h
    · exact h

/-! ### ASYNC -/

/-- Decoder `d` is an ASYNC decoder in BUSY, and every decoder is in order. -/
structure AsyncBusy (d : Fin 6) (p : AsyncParams) (s : State) : Prop where
  ok     : DecodersOk s
  params : s.decoders[d].params = .async p
  busy   : s.decoders[d].state = .busy

namespace AsyncBusy
variable {d : Fin 6} {p : AsyncParams} {s : State}

theorem configured (h : AsyncBusy d p s) : s.decoders[d].params ≠ .none := by
  rw [h.params]
  nofun

/-- The staging and the timer of an ASYNC decoder in BUSY are set. -/
theorem put (h : AsyncBusy d p s) {st : Staging} (ok : st.Ok) (timer : Option Nat) :
    AsyncBusy d p (s.putDecoder d { s.decoders[d].withStaging st with timer }) where
  ok := h.ok.put d (Decoder.Ok.asyncTimer ((h.ok d).withStaging h.busy ok) h.params h.busy timer)
  params := by rw [State.putDecoder_decoders, vset_same]; exact h.params
  busy := by rw [State.putDecoder_decoders, vset_same]; exact h.busy

theorem setStaging (h : AsyncBusy d p s) {st : Staging} (ok : st.Ok) : AsyncBusy d p (s.setStaging d st) :=
  h.put ok s.decoders[d].timer

theorem setGap (h : AsyncBusy d p s) (start : Nat) : DecodersOk (s.setGap d p start) :=
  h.ok.put d ((h.ok d).asyncTimer h.params h.busy _)

theorem goodCharacter (h : AsyncBusy d p s) (start : Nat) {st : Staging} (ok : st.Ok) :
    DecodersOk (s.goodCharacter d p start st) := by
  have done : st.charDone.Ok := ok.of_same rfl rfl
  unfold State.goodCharacter
  dsimp only
  split
  · split
    · exact (h.setStaging (st := { st.charDone with address := some _, direction := some .write }) (done.of_same rfl rfl)).setGap start
    · next value =>
      have ends : Ends .busy (some (Staging.addressed (byteLsb (p.dataBits st.bits)))) := Ends.some (Staging.Ok.addressed _)
      obtain ⟨dec, e, params⟩ := s.cleanEnd_decoders d (p.samplePoint start (p.positions - 1)) .busy
        (some (Staging.addressed (byteLsb (p.dataBits st.bits))))
      have next : AsyncBusy d p (s.cleanEnd d (p.samplePoint start (p.positions - 1)) .busy
          (some (Staging.addressed (byteLsb (p.dataBits st.bits))))) :=
        { ok := (h.ok.others d).cleanEnd ends fun e => absurd e h.configured
          params := by rw [e, vset_same]; exact params.trans h.params
          busy := by rw [e, vset_same]; rfl }
      exact next.setGap start
  · split
    · exact (h.setStaging (done.asyncData _)).setGap start
    · exact h.ok.put d (Decoder.Ok.afterEnd _ (Ends.none (by decide)) fun e => absurd e h.configured)

theorem judge (h : AsyncBusy d p s) (start : Nat) {st : Staging} (ok : st.Ok) : DecodersOk (s.judge d p start st) := by
  have idle : ∀ reason, DecodersOk (s.abort d reason .idle none) := fun _ =>
    (h.ok.others d).abort (Ends.none (by decide)) fun e => absurd e h.configured
  unfold State.judge
  split
  · exact idle _
  · split
    · exact idle _
    · exact h.goodCharacter start ok

theorem asyncReceiving (h : AsyncBusy d p s) (high : Bool) {st : Staging} (ok : st.Ok) (rc : Receiver) :
    DecodersOk (s.asyncReceiving d p high st rc) := by
  unfold State.asyncReceiving
  split
  · exact h.judge _ ok
  · exact h.ok.setStaging h.busy (ok.of_same rfl rfl)

end AsyncBusy

/-- A start edge of an ASYNC decoder begins a transaction (R98). -/
theorem OthersOk.asyncStart {s : State} {d : Fin 6} (h : OthersOk d s) {p q : AsyncParams} (params : s.decoders[d].params = .async q)
    (stamp : Nat) : DecodersOk (s.asyncStart d p stamp) :=
  h.put (Decoder.Ok.asyncTimer (p := q) (Decoder.Ok.afterEnd _ (Ends.some (Staging.Ok.startStaging p stamp))
    fun e => by rw [params] at e; cases e) params rfl _)

theorem Staging.Ok.receiving {st : Staging} (ok : st.Ok) (rc : Option Receiver) : ({ st with receiver := rc } : Staging).Ok :=
  ok.of_same rfl rfl

theorem Staging.Ok.sampleBit {st : Staging} (ok : st.Ok) (bit : Bool) : (st.sampleBit bit).Ok := ok.of_same rfl rfl

theorem AsyncBusy.asyncNextCharacter {d : Fin 6} {p : AsyncParams} {s : State} (h : AsyncBusy d p s) (stamp : Nat) {st : Staging}
    (ok : st.Ok) : DecodersOk (s.asyncNextCharacter d p stamp st) := by
  unfold State.asyncNextCharacter
  split
  · next t _ =>
    split
    · obtain ⟨dec, e, params⟩ := s.cleanEnd_decoders d t .idle none
      have ended : DecodersOk (s.gapEnd d t) :=
        (h.ok.others d).cleanEnd (Ends.none (by decide)) fun e => absurd e h.configured
      refine (ended.others d).asyncStart (q := p) ?_ stamp
      rw [State.gapEnd, e, vset_same]
      exact params.trans h.params
    · exact (h.put (ok.receiving _) _).ok
  · exact (h.put (ok.receiving _) _).ok

theorem OthersOk.asyncEdge {s : State} {d : Fin 6} (h : OthersOk d s) {p : AsyncParams} (params : s.decoders[d].params = .async p)
    (staged : s.decoders[d].Staged) (ok : s.decoders[d].state ≠ .syncing → s.decoders[d].Ok) (stamp : Nat) :
    DecodersOk (s.asyncEdge d p stamp) := by
  have all : s.decoders[d].state ≠ .syncing → DecodersOk s := fun hs i => by
    by_cases e : i = d
    · exact e ▸ ok hs
    · exact h i e
  unfold State.asyncEdge
  dsimp only
  split
  · next syncing =>
    refine h.put ((Decoder.ok_iff _).mpr ⟨⟨staged.staging, staged.values, staged.profile⟩, fun t => ?_⟩)
    refine (Decoder.timerMayRun_async params syncing).trans ?_
    show s.decoders[d].logical p = true
    by_contra low
    simp only [Decoder.asyncSyncTimer, if_neg low] at t
    cases t
  · next idle =>
    split
    · exact all (by rw [idle]; decide)
    · exact h.asyncStart params stamp
  · next busy =>
    have receives : AsyncBusy d p s := ⟨all (by rw [busy]; decide), params, busy⟩
    split
    · exact receives.ok
    · next st hst =>
      have ok := (receives.ok d).values st hst
      split
      · exact receives.asyncReceiving _ ok _
      · split
        · exact receives.ok
        · exact receives.asyncNextCharacter stamp ok
  · next stopped => exact all (by rw [stopped]; decide)
  · next suspended => exact all (by rw [suspended]; decide)

/-! ### Edges and expiries -/

/-- The edge of one role: the line view follows it, and the profile brings the decoder in order again. -/
theorem DecodersOk.roleEdge {s : State} (h : DecodersOk s) (d : Fin 6) (stamp : Nat) (e : Role × Bool) :
    DecodersOk (s.roleEdge d stamp e) := by
  have run : s.decoders[d].state ≠ .stopped → DecodersOk (if s.decoders[d].level e.1 = e.2 then s else
      match s.decoders[d].params with
      | .none => s
      | .twoWire => (s.putDecoder d (s.decoders[d].withLevel e.1 e.2)).twoWireEdge d e.1 e.2 stamp
      | .clocked p => (s.putDecoder d (s.decoders[d].withLevel e.1 e.2)).clockedEdge d p e.1 e.2 stamp
      | .async p => (s.putDecoder d (s.decoders[d].withLevel e.1 e.2)).asyncEdge d p stamp) := fun running => by
    obtain ⟨staged, ok⟩ := (h d).withLevel e.1 e.2
    have get : (s.putDecoder d (s.decoders[d].withLevel e.1 e.2)).decoders[d] = s.decoders[d].withLevel e.1 e.2 := by
      rw [State.putDecoder_decoders, vset_same]
    have others : OthersOk d (s.putDecoder d (s.decoders[d].withLevel e.1 e.2)) := fun i hi => by
      rw [State.putDecoder_decoders, vset_other _ _ (Ne.symm hi)]
      exact h i
    split
    · exact h
    · split
      · exact h
      · next hp =>
        exact others.twoWireEdge (by rw [get]; exact hp) (by rw [get]; exact staged) (by rw [get]; exact ok) _ _ _
      · next p hp =>
        have ok : (s.decoders[d].withLevel e.1 e.2).Ok := (Decoder.ok_iff _).mpr ⟨staged, fun t => by
          have may := (h d).timer t
          rw [Decoder.timerMayRun_silent (.inr ⟨p, hp⟩)] at may
          cases may⟩
        exact (h.put d ok).clockedEdge (by rw [get]; exact h.configured running) _ _ _ _
      · next p hp =>
        exact others.asyncEdge (by rw [get]; exact hp) (by rw [get]; exact staged) (by rw [get]; exact ok) _
  unfold State.roleEdge
  dsimp only
  split
  · exact h
  · exact h
  all_goals
    next hs =>
    exact run (by rw [hs]; decide)

theorem DecodersOk.deliver {s : State} (h : DecodersOk s) (channels : List (Fin 32)) (stamp : Nat) (order : List Taker) :
    DecodersOk (s.deliver channels stamp order) :=
  foldl_inv DecodersOk _ (fun t taker k => by
    cases taker with
    | decoder d => exact foldl_inv DecodersOk _ (fun u e ku => ku.roleEdge d stamp e) _ _ k
    | meter m => exact k.of_same (State.meterEdges_decoders channels stamp m t)) _ s h

theorem DecodersOk.atExpiry {s : State} (h : DecodersOk s) (d : Fin 6) (n : Nat) (levels : List (Role × Bool)) :
    DecodersOk (s.atExpiry d n levels) :=
  foldl_inv DecodersOk _ (fun _ e k => k.roleEdge d n e) _ _ (h.of_same rfl)

theorem DecodersOk.idleAt {s : State} (h : DecodersOk s) (d : Fin 6) (n : Nat) : DecodersOk (s.idleAt d n) := by
  unfold State.idleAt
  split
  · next running =>
    refine h.put d (Decoder.Ok.afterEnd _ (Ends.none (by decide)) fun e => ?_)
    have may := (h d).timer (by rw [running]; rfl)
    rw [Decoder.timerMayRun_silent (.inl e)] at may
    cases may
  · exact h

/-- A decoder that is receiving is an ASYNC decoder in BUSY. -/
theorem Decoder.receiving_eq_some {dec : Decoder} {p : AsyncParams} {st : Staging} {rc : Receiver} {t : Nat} :
    dec.receiving = some (p, st, rc, t) ↔
      dec.params = .async p ∧ dec.state = .busy ∧ dec.staging = some st ∧ dec.timer = some t ∧ st.receiver = some rc := by
  unfold Decoder.receiving
  constructor
  · intro h
    split at h
    · next hp hs hst ht =>
      split at h
      · next hr =>
        cases h
        exact ⟨hp, hs, hst, ht, hr⟩
      · cases h
    · cases h
  · rintro ⟨hp, hs, hst, ht, hr⟩
    simp only [hp, hs, hst, ht, hr]

theorem DecodersOk.takeSample {s : State} (h : DecodersOk s) (d : Fin 6) : DecodersOk (s.takeSample d) := by
  unfold State.takeSample
  dsimp only
  split
  · exact h
  · next p st rc t hr =>
    obtain ⟨params, busy, hst, _, _⟩ := Decoder.receiving_eq_some.mp hr
    exact (AsyncBusy.put ⟨h, params, busy⟩ (Staging.Ok.sampleBit ((h d).values st hst) _) _).ok

theorem DecodersOk.lastSample {s : State} (h : DecodersOk s) (d : Fin 6) : DecodersOk (s.lastSample d) := by
  unfold State.lastSample
  dsimp only
  split
  · exact h
  · next p st rc t hr =>
    obtain ⟨params, busy, hst, _, _⟩ := Decoder.receiving_eq_some.mp hr
    have receives : AsyncBusy d p s := ⟨h, params, busy⟩
    have sampled := Staging.Ok.sampleBit ((h d).values st hst) (s.decoders[d].logical p)
    split
    · exact (receives.put sampled _).judge _ sampled
    · exact (receives.put sampled _).ok

theorem DecodersOk.breakTest {s : State} (h : DecodersOk s) (d : Fin 6) (n : Nat) : DecodersOk (s.breakTest d n) := by
  unfold State.breakTest
  dsimp only
  split
  · exact h
  · next p st rc t hr =>
    obtain ⟨params, _, _, _, _⟩ := Decoder.receiving_eq_some.mp hr
    split
    · exact h
    · exact (h.others d).abortToSyncing (by rw [params]; nofun)

/-! ### Pod events -/

theorem DecodersOk.decoderPodDown {s : State} (h : DecodersOk s) (p : Fin 4) (cause : DownCause) (d : Fin 6) :
    DecodersOk (s.decoderPodDown p cause d) := by
  have configured : s.decoders[d].state ≠ .stopped → s.decoders[d].params = .none → DecState.suspended = .stopped :=
    fun running e => absurd e (h.configured running)
  unfold State.decoderPodDown
  dsimp only
  split
  · split
    · next hs => exact (h.others d).abort (Ends.none (by decide)) (configured (by rw [hs]; decide))
    · next hs => exact (h.others d).discard (Ends.none (by decide)) (configured (by rw [hs]; decide))
    · next hs => exact (h.others d).discard (Ends.none (by decide)) (configured (by rw [hs]; decide))
    · exact h
    · exact h
  · exact h

theorem DecodersOk.syncDecoder {s : State} (h : DecodersOk s) (d : Fin 6) (configured : s.decoders[d].params ≠ .none) :
    DecodersOk (s.syncDecoder d) := h.put d (Decoder.Ok.enterSyncing _ _ configured)

theorem DecodersOk.decoderPodUp {s : State} (h : DecodersOk s) (p : Fin 4) (d : Fin 6) : DecodersOk (s.decoderPodUp p d) := by
  unfold State.decoderPodUp
  dsimp only
  split
  · next waits =>
    have suspended : s.decoders[d].state = .suspended := by
      simp only [Bool.and_eq_true, beq_iff_eq] at waits
      exact waits.1.2
    exact h.syncDecoder d (h.configured (by rw [suspended]; decide))
  · exact h

theorem DecodersOk.podMoves {s : State} (h : DecodersOk s) (p : Fin 4) (new : Pod) (cause : DownCause) :
    DecodersOk (s.podMoves p new cause) := by
  have put : DecodersOk (s.putPod p new) := h.of_same (State.putPod_decoders p new s)
  unfold State.podMoves
  dsimp only
  split
  · refine DecodersOk.of_same (s := ((s.putPod p new).dropCandidates p).decodersPodDown p cause) ?_ (State.metersPodDown_decoders p _)
    exact foldl_inv DecodersOk _ (fun t d k => k.decoderPodDown p cause d) _ _ (put.of_same rfl)
  · exact put

/-! ### Commands -/

theorem DecodersOk.ok {s : State} (h : DecodersOk s) : DecodersOk s.ok := h.of_same rfl

theorem podSet_decodersOk {s : State} (h : DecodersOk s) (pod requested code : Byte) (widths : Vector Byte 8) :
    DecodersOk (podSet pod requested code widths s) := by
  simp only [podSet]
  split
  · split
    · exact h.of_same rfl
    · exact (DecodersOk.podMoves (s := s.setWidths _ _) h _ _ _).ok
  · exact h.of_same rfl

theorem podGo_decodersOk {s : State} (h : DecodersOk s) (mask : Byte) : DecodersOk (podGo mask s) := by
  have moved : DecodersOk ((namedPods mask).foldl State.podGoOne s) :=
    foldl_inv DecodersOk _ (fun _ p k => k.podMoves p _ .stop) _ s h
  simp only [podGo]
  repeat' split
  · exact h.of_same rfl
  · exact h.of_same rfl
  · exact h.of_same rfl
  · exact moved.of_same rfl

theorem removal_decodersOk {s : State} (h : DecodersOk s) (p : Fin 4) : DecodersOk (removal p s) := by
  simp only [removal]
  split
  · exact h
  · exact DecodersOk.of_same (DecodersOk.podMoves (s := { s with pins := s.pins.setSense p false }) h p _ .removal)
      (State.raisePodChange_decoders _ _)

theorem overcurrent_decodersOk {s : State} (h : DecodersOk s) (p : Fin 4) : DecodersOk (overcurrent p s) := by
  simp only [overcurrent]
  split
  · exact h.podMoves p _ _
  · exact h

theorem settlingExpiry_decodersOk {s : State} (h : DecodersOk s) (p : Fin 4) (levels : BitVec 8) :
    DecodersOk (settlingExpiry p levels s) := by
  simp only [settlingExpiry]
  split
  · exact h
  · refine foldl_inv DecodersOk _ (fun t d k => k.decoderPodUp p d) _ _ ?_
    exact h.of_same (State.putPod_decoders p _ _)

theorem acceptedEdge_decodersOk {s : State} (h : DecodersOk s) (channel : Fin 32) (also : List (Fin 32)) (stamp : Nat)
    (order : List Taker) : DecodersOk (acceptedEdge channel also stamp order s) := by
  simp only [acceptedEdge]
  split
  · exact h
  · exact DecodersOk.deliver (foldl_inv DecodersOk State.acceptChange (fun _ _ k => k.of_same rfl) _ (s.advance stamp) h) _ _ _

theorem twoWireIdleExpiry_decodersOk {s : State} (h : DecodersOk s) (d : Fin 6) (clock data : Bool) :
    DecodersOk (twoWireIdleExpiry d clock data s) := by
  simp only [twoWireIdleExpiry]
  split
  · exact (h.atExpiry d _ _).idleAt d _
  · exact h

theorem asyncIdleExpiry_decodersOk {s : State} (h : DecodersOk s) (d : Fin 6) (line : Bool) :
    DecodersOk (asyncIdleExpiry d line s) := by
  simp only [asyncIdleExpiry]
  split
  · exact (h.atExpiry d _ _).idleAt d _
  · exact h

theorem asyncSamplePoint_decodersOk {s : State} (h : DecodersOk s) (d : Fin 6) (line : Bool) :
    DecodersOk (asyncSamplePoint d line s) := by
  simp only [asyncSamplePoint]
  split
  · exact h
  · split
    · exact (h.atExpiry d _ _).takeSample d
    · exact h

theorem characterJudged_decodersOk {s : State} (h : DecodersOk s) (d : Fin 6) (line : Bool) :
    DecodersOk (characterJudged d line s) := by
  simp only [characterJudged]
  split
  · exact h
  · split
    · exact (h.atExpiry d _ _).lastSample d
    · exact h

theorem breakTimeout_decodersOk {s : State} (h : DecodersOk s) (d : Fin 6) (line : Bool) :
    DecodersOk (breakTimeout d line s) := by
  simp only [breakTimeout]
  split
  · exact h
  · split
    · exact (h.atExpiry d _ _).breakTest d _
    · exact h

theorem idleGapExpiry_decodersOk {s : State} (h : DecodersOk s) (d : Fin 6) : DecodersOk (idleGapExpiry d s) := by
  simp only [idleGapExpiry]
  split
  · next p st t params _ _ _ =>
    split
    · exact OthersOk.cleanEnd (s := s.advance t) (h.others d) (Ends.none (by decide)) fun e => by
        rw [State.advance_decoders, params] at e
        cases e
    · exact h
  · exact h

theorem decConfig_decodersOk {s : State} (h : DecodersOk s) (decoder profile learn : Byte) (bindings : List (Byte × Byte))
    (params : List Byte) : DecodersOk (decConfig decoder profile learn bindings params s) := by
  simp only [decConfig]
  repeat' split
  · exact h.of_same rfl
  · exact h.of_same rfl
  · exact (h.put _ (Decoder.Ok.stoppedWith _ _ _)).ok
  · exact h.of_same rfl
  · exact h.of_same rfl

theorem decStart_decodersOk {s : State} (h : DecodersOk s) (decoder : Byte) : DecodersOk (decStart decoder s) := by
  simp only [decStart]
  repeat' split
  · exact h.of_same rfl
  · exact h.of_same rfl
  · exact h.ok
  · exact (h.syncDecoder _ (by assumption)).ok
  · next configured _ _ => exact (h.put _ (Decoder.Ok.afterEnd _ (Ends.none (by decide)) fun e => absurd e configured)).ok

theorem decStop_decodersOk {s : State} (h : DecodersOk s) (decoder : Byte) : DecodersOk (decStop decoder s) := by
  have stops : ∀ d : Fin 6, DecodersOk (s.putDecoder d (s.decoders[d].afterEnd .stopped none)).ok := fun d =>
    (h.put d (Decoder.Ok.afterEnd _ (Ends.none (by decide)) fun _ => rfl)).ok
  simp only [decStop]
  repeat' split
  · exact h.of_same rfl
  · exact h.ok
  · exact ((h.others _).abort (Ends.none (by decide)) fun _ => rfl).ok
  all_goals exact stops _

theorem decodersOk_of_reset {s : State} (h : s.decoders = Vector.replicate 6 Decoder.reset) : DecodersOk s := fun d => by
  have get : s.decoders[d] = Decoder.reset := by rw [h]; exact replicate_get 6 _ d
  rw [get]
  exact Decoder.Ok.reset

theorem effect_decodersOk (c : Instr) {s : State} (h : DecodersOk s) : DecodersOk (effect c s) := by
  cases c
  case fullReset sense => exact decodersOk_of_reset rfl
  case devRestart => exact decodersOk_of_reset rfl
  case podSet pod requested code widths => exact podSet_decodersOk h pod requested code widths
  case podGo mask => exact podGo_decodersOk h mask
  case removal p => exact removal_decodersOk h p
  case overcurrent p => exact overcurrent_decodersOk h p
  case settlingExpiry p levels => exact settlingExpiry_decodersOk h p levels
  case acceptedEdge channel also stamp order => exact acceptedEdge_decodersOk h channel also stamp order
  case twoWireIdleExpiry d clock data => exact twoWireIdleExpiry_decodersOk h d clock data
  case asyncIdleExpiry d line => exact asyncIdleExpiry_decodersOk h d line
  case asyncSamplePoint d line => exact asyncSamplePoint_decodersOk h d line
  case characterJudged d line => exact characterJudged_decodersOk h d line
  case breakTimeout d line => exact breakTimeout_decodersOk h d line
  case idleGapExpiry d => exact idleGapExpiry_decodersOk h d
  case decConfig decoder profile learn bindings params => exact decConfig_decodersOk h decoder profile learn bindings params
  case decStart decoder => exact decStart_decodersOk h decoder
  case decStop decoder => exact decStop_decodersOk h decoder
  case devStatus later =>
    rw [effect, devStatus_eq]
    exact h.of_same rfl
  case windowExpiry m order =>
    refine h.of_same ?_
    simp only [effect, windowExpiry]
    split <;> simp
  case ntcAckNotice kind mask =>
    have cleared : ((namedPods mask).foldl State.clearMark s).decoders = s.decoders :=
      foldl_keeps State.decoders _ (fun u p => by rw [State.clearMark_eq, State.putPod_decoders]) _ s
    refine h.of_same ?_
    simp only [effect, ntcAckNotice, ackPodFault, ackPodChange, ackPanelLost, ackStoreFull, ackCellsFull]
    (repeat' split) <;> simp [cleared]
  case mtrStart meter =>
    refine h.of_same ?_
    simp only [effect, mtrStart]
    (repeat' split) <;> simp
  case mtrStop meter =>
    have stopped : ∀ (g : Fin 8) (t : State), ((List.finRange 8).foldl (State.followerStop g) t).decoders = t.decoders := fun g t =>
      foldl_keeps State.decoders _ (fun u f => State.followerStop_decoders g f u) _ t
    refine h.of_same ?_
    simp only [effect, mtrStop]
    (repeat' split) <;> simp [stopped]
  all_goals refine h.of_same ?_
  all_goals
    simp only [effect, requestFrame, readFrame, State.takeSelection, State.takeRead, answer, devIdent, podRead,
      insertionTimerStart, insertionTimerStop, insertion, rampingExpiry, stoppingExpiry, filterCandidate,
      tgtFind, tgtList, tgtRead, tgtDeclare, tgtSetCell, tgtExpect, expectSet, expectClear, tgtDropCell, tgtPin, tgtRetire,
      State.withRecord, decRead, mtrConfig, mtrClear, mtrRead, overrange,
      State.overrangeEnd, wchSet, wchClear, wchRead, ntcRead, ntcAckWatch, ntcLevels, hold,
      paneSet, paneClear, paneRead, dispInterval, refreshTick, dispRepaint, pnlEnable, pnlRestart, bklSet, lbusyLow, burstEnd,
      waitExpiry, backlightPhaseExpiry, millisecondTick]
      <;> (repeat' split) <;> simp

/-- Settles O56: what every command keeps, every step keeps; the samples of the filters leave the decoders alone. -/
theorem stepKeepsDecoders : Obligations.StepKeepsDecoders := fun _ _ hs h =>
  step_keeps (P := DecodersOk) (fun _ _ k => k.of_same rfl) (fun c _ k _ => effect_decodersOk c k) (fun _ _ k _ => k.of_same rfl) h hs

end Sys2Proof.Machine
end

section
/-! Every step keeps the meters in order (sections 5.2 to 5.8, R104, R105, R113, R115, R118): what one meter's configuration allows its state, what an edge, an end, a window and a pod down make of it, and then every command. -/

namespace Sys2Proof.Machine

/-! ### Records (R105) -/

theorem satInc_ne_zero {w : Nat} (hw : w ≠ 0) (x : BitVec w) : satInc x ≠ 0 := by
  unfold satInc
  intro e
  split at e
  · next top =>
    rw [top] at e
    have := congrArg BitVec.toNat e
    have big : 1 < 2 ^ w := Nat.one_lt_two_pow hw
    simp only [BitVec.toNat_allOnes, BitVec.ofNat_eq_ofNat, BitVec.toNat_ofNat, Nat.zero_mod] at this
    omega
  · next top =>
    refine top ?_
    have : x = x + 1 - 1 := by simp
    rw [this, e]
    simp [BitVec.neg_one_eq_allOnes]

theorem MeterRecord.Ok.take {r : MeterRecord} (h : r.Ok) (o : MeterOutcome) : (r.take o).Ok := by
  cases o with
  | overrange => exact ⟨nofun, nofun, h.least⟩
  | valid v =>
    refine ⟨nofun, fun _ => satInc_ne_zero (by decide) _, fun _ => ⟨?_, ?_⟩⟩
    · show (if r.count = 0 then v else if v < r.min then v else r.min) ≤ v
      split
      · exact BitVec.le_refl _
      · split
        · exact BitVec.le_refl _
        · next low => exact BitVec.not_lt.mp low
    · show v ≤ if r.count = 0 then v else if r.max < v then v else r.max
      split
      · exact BitVec.le_refl _
      · split
        · exact BitVec.le_refl _
        · next high => exact BitVec.not_lt.mp high

theorem MeterRecord.Ok.result {r : MeterRecord} (h : r.Ok) (freeze : Bool) (o : MeterOutcome) : (r.result freeze o).Ok := by
  unfold MeterRecord.result
  split
  · exact ⟨h.none, h.valid, h.least⟩
  · exact h.take o

theorem MeterRecord.Ok.disturbed {r : MeterRecord} (h : r.Ok) (n : Half) : ({ r with disturbed := n } : MeterRecord).Ok :=
  ⟨h.none, h.valid, h.least⟩

theorem MeterRecord.Ok.cleared : MeterRecord.cleared.Ok := ⟨fun _ => rfl, nofun, fun e => absurd rfl e⟩

/-! ### What a configuration allows (sections 5.2, R104, R113) -/

/-- The pod of every used channel is LIVE. -/
def MeterConfig.On (live : Fin 4 → Bool) (c : MeterConfig) : Prop := ∀ ch ∈ c.usedChannels, live (podOf ch) = true

/-- A COUNT meter names a gate meter. -/
def MeterConfig.Gated (meters : Vector Meter 8) (c : MeterConfig) : Prop := c.mode = .count → meters[c.gate].config.mode = .gate

/-- The configuration allows the state, by the pods that are LIVE and the modes of the meters; the window that a follower counts in aside. -/
def MeterConfig.Allows (live : Fin 4 → Bool) (meters : Vector Meter 8) (c : MeterConfig) : MeterState → Prop
  | .off => True
  | .armed held => c.mode ≠ .gate ∧ c.Gated meters ∧ (held.isSome = true → c.mode = .count ∨ c.mode = .delay)
  | .timing _ => c.mode ≠ .gate ∧ c.mode ≠ .count ∧ c.On live
  | .windowOpen _ => c.mode = .gate
  | .counting _ _ _ => c.mode = .count ∧ c.Gated meters ∧ c.On live

/-- A meter in order but for the window it may count in. -/
structure Meter.Fits (live : Fin 4 → Bool) (meters : Vector Meter 8) (m : Fin 8) : Prop where
  record : meters[m].record.Ok
  window : 1 ≤ meters[m].config.window ∧ meters[m].config.window ≤ 1000000
  below  : meters[m].config.mode = .count → meters[m].config.gate < m
  allows : meters[m].config.Allows live meters meters[m].state

/-- A follower in COUNTING counts in the window of its gate (R113). -/
def Meter.InWindow (meters : Vector Meter 8) (mt : Meter) : Prop :=
  ∀ t n h, mt.state = .counting t n h → meters[mt.config.gate].state = .windowOpen t

/-- Every meter is in order, with these pods LIVE. -/
structure MetersAre (live : Fin 4 → Bool) (meters : Vector Meter 8) : Prop where
  fits     : ∀ m : Fin 8, Meter.Fits live meters m
  inWindow : ∀ m : Fin 8, Meter.InWindow meters meters[m]

theorem usedPodsLive_iff {s : State} {c : MeterConfig} : s.usedPodsLive c = true ↔ c.On s.podLive := by
  simp [State.usedPodsLive, MeterConfig.On]

theorem meterOk_iff {s : State} {m : Fin 8} : Meter.Ok s m ↔ Meter.Fits s.podLive s.meters m ∧ Meter.InWindow s.meters s.meters[m] := by
  constructor
  · intro h
    refine ⟨⟨h.record, h.window, fun e => (h.gate e).1, ?_⟩, fun t n k e => (h.counts t n k e).2⟩
    cases e : s.meters[m].state with
    | off => trivial
    | armed held =>
      refine ⟨h.armed held e, fun c => (h.gate c).2 (by rw [e]; nofun), fun some => ?_⟩
      obtain ⟨x, rfl⟩ := Option.isSome_iff_exists.mp some
      exact h.held x e
    | timing t => exact ⟨(h.timing t e).1, (h.timing t e).2, usedPodsLive_iff.mp (h.live (.inl ⟨t, e⟩))⟩
    | windowOpen t => exact h.isOpen t e
    | counting t n k =>
      exact ⟨(h.counts t n k e).1, fun c => (h.gate c).2 (by rw [e]; nofun), usedPodsLive_iff.mp (h.live (.inr ⟨t, n, k, e⟩))⟩
  · rintro ⟨⟨record, window, below, allows⟩, inWindow⟩
    constructor
    case record => exact record
    case window => exact window
    case held =>
      intro h e
      rw [e] at allows
      exact allows.2.2 rfl
    case armed =>
      intro h e
      rw [e] at allows
      exact allows.1
    case timing =>
      intro t e
      rw [e] at allows
      exact ⟨allows.1, allows.2.1⟩
    case isOpen =>
      intro t e
      rw [e] at allows
      exact allows
    case counts =>
      intro t n h e
      have counts := inWindow t n h e
      rw [e] at allows
      exact ⟨allows.1, counts⟩
    case live =>
      rintro (⟨t, e⟩ | ⟨t, n, h, e⟩) <;> rw [e] at allows <;> exact usedPodsLive_iff.mpr allows.2.2
    case gate =>
      refine fun count => ⟨below count, fun on => ?_⟩
      cases e : s.meters[m].state with
      | off => exact absurd e on
      | armed held => rw [e] at allows; exact allows.2.1 count
      | timing t => rw [e] at allows; exact absurd count allows.2.1
      | windowOpen t => rw [e] at allows; cases count.symm.trans allows
      | counting t n k => rw [e] at allows; exact allows.2.1 count

theorem metersOk_iff {s : State} : MetersOk s ↔ MetersAre s.podLive s.meters :=
  ⟨fun h => ⟨fun m => (meterOk_iff.mp (h m)).1, fun m => (meterOk_iff.mp (h m)).2⟩,
    fun h m => meterOk_iff.mpr ⟨h.fits m, h.inWindow m⟩⟩

theorem MetersOk.of_live {s t : State} (h : MetersOk s) (meters : t.meters = s.meters) (live : t.podLive = s.podLive) : MetersOk t := by
  rw [metersOk_iff] at *
  rw [meters, live]
  exact h

theorem MetersOk.of_same {s t : State} (h : MetersOk s) (meters : t.meters = s.meters) (pods : t.pods = s.pods) : MetersOk t :=
  h.of_live meters (by unfold State.podLive; rw [pods])

theorem MetersOk.ok {s : State} (h : MetersOk s) : MetersOk s.ok := h.of_same rfl rfl

/-! ### One meter changes -/

namespace MeterConfig.Allows
variable {live : Fin 4 → Bool} {meters meters' : Vector Meter 8} {c : MeterConfig} {st : MeterState}

theorem congr (h : c.Allows live meters st) (modes : ∀ i : Fin 8, meters'[i].config.mode = meters[i].config.mode) :
    c.Allows live meters' st := by
  have gated : c.Gated meters → c.Gated meters' := fun g count => (modes _).trans (g count)
  cases st with
  | off => trivial
  | armed held => exact ⟨h.1, gated h.2.1, h.2.2⟩
  | timing t => exact h
  | windowOpen t => exact h
  | counting t n k => exact ⟨h.1, gated h.2.1, h.2.2⟩

/-- A measurement under way stays allowed while the pods it uses are LIVE. -/
theorem relive {live' : Fin 4 → Bool} (h : c.Allows live meters st)
    (on : (∃ t, st = .timing t) ∨ (∃ t n k, st = .counting t n k) → c.On live → c.On live') : c.Allows live' meters st := by
  cases st with
  | off => trivial
  | armed held => exact h
  | timing t => exact ⟨h.1, h.2.1, on (.inl ⟨t, rfl⟩) h.2.2⟩
  | windowOpen t => exact h
  | counting t n k => exact ⟨h.1, h.2.1, on (.inr ⟨t, n, k, rfl⟩) h.2.2⟩

theorem off : c.Allows live meters .off := trivial

/-- The state of a measurement's end (R116). -/
theorem single (h : c.Allows live meters st) (b : Bool) : c.Allows live meters (if b then .off else st) := by
  cases b
  · exact h
  · trivial

theorem rearm {t : Nat} (h : c.Allows live meters (.timing t)) : c.Allows live meters (.armed none) :=
  ⟨h.1, fun e => absurd e h.2.1, nofun⟩

theorem armed_of_counting {t n : Nat} {k held : Option Nat} (h : c.Allows live meters (.counting t n k)) :
    c.Allows live meters (.armed held) := ⟨fun e => (by rw [h.1] at e; cases e), h.2.1, fun _ => .inl h.1⟩

end MeterConfig.Allows

/-- Every meter fits, with these pods LIVE. -/
def MetersFit (live : Fin 4 → Bool) (meters : Vector Meter 8) : Prop := ∀ m : Fin 8, Meter.Fits live meters m

theorem set_config {meters : Vector Meter 8} {m : Fin 8} {new : Meter} (config : new.config = meters[m].config) (i : Fin 8) :
    (meters.set m new)[i].config = meters[i].config := by
  rw [vset_get]
  split
  · next e => rw [config, e]
  · rfl

theorem MetersFit.set {live : Fin 4 → Bool} {meters : Vector Meter 8} (h : MetersFit live meters) (m : Fin 8) {new : Meter}
    (config : new.config = meters[m].config) (record : new.record.Ok) (allows : new.config.Allows live meters new.state) :
    MetersFit live (meters.set m new) := by
  intro i
  have modes : ∀ j : Fin 8, (meters.set m new)[j].config.mode = meters[j].config.mode := fun j => by rw [set_config config]
  by_cases e : m = i
  · subst e
    have get : (meters.set m new)[m] = new := vset_same _ _ _
    refine ⟨by rw [get]; exact record, ?_, ?_, ?_⟩
    · rw [set_config config]; exact (h m).window
    · rw [set_config config]; exact (h m).below
    · rw [get]; exact allows.congr modes
  · have get : (meters.set m new)[i] = meters[i] := vset_other _ _ e
    obtain ⟨r, w, b, a⟩ := h i
    rw [← get] at r w b
    exact ⟨r, w, b, by rw [get]; exact a.congr modes⟩

/-- A follower's gate is another meter. -/
theorem MetersFit.gate_ne {live : Fin 4 → Bool} {meters : Vector Meter 8} (h : MetersFit live meters) {m : Fin 8}
    (count : meters[m].config.mode = .count) : m ≠ meters[m].config.gate := fun e =>
  absurd ((h m).below count) (by rw [← e]; exact lt_irrefl _)

theorem MetersFit.count_of_counting {live : Fin 4 → Bool} {meters : Vector Meter 8} (h : MetersFit live meters) {m : Fin 8} {t n : Nat}
    {k : Option Nat} (e : meters[m].state = .counting t n k) : meters[m].config.mode = .count := by
  have allows := (h m).allows
  rw [e] at allows
  exact allows.1

theorem MetersFit.gate_of_open {live : Fin 4 → Bool} {meters : Vector Meter 8} (h : MetersFit live meters) {m : Fin 8} {t : Nat}
    (e : meters[m].state = .windowOpen t) : meters[m].config.mode = .gate := by
  have allows := (h m).allows
  rw [e] at allows
  exact allows

/-- Another meter's window is as it was for a follower when the changed meter is not OPEN before, or stays so. -/
theorem Meter.InWindow.set {meters : Vector Meter 8} {m f : Fin 8} {new : Meter} (h : Meter.InWindow meters meters[f]) (other : m ≠ f)
    (opens : ∀ t, meters[m].state = .windowOpen t → new.state = .windowOpen t) :
    Meter.InWindow (meters.set m new) (meters.set m new)[f] := by
  intro t n k
  rw [vset_other _ _ other]
  intro e
  have within := h t n k e
  rw [vset_get]
  split
  · next gate =>
    subst gate
    exact opens t within
  · exact within

/-- The changed meter's own window. -/
theorem Meter.InWindow.own {live : Fin 4 → Bool} {meters : Vector Meter 8} (fits : MetersFit live meters) {m : Fin 8} {new : Meter}
    (config : new.config = meters[m].config) (allows : new.config.Allows live meters new.state)
    (h : ∀ t n k, new.state = .counting t n k → meters[meters[m].config.gate].state = .windowOpen t) :
    Meter.InWindow (meters.set m new) (meters.set m new)[m] := by
  intro t n k
  rw [vset_same]
  intro e
  rw [e] at allows
  have count : meters[m].config.mode = .count := config ▸ allows.1
  have gate : ∀ c : MeterConfig, c = meters[m].config → (meters.set m new)[c.gate].state = .windowOpen t := by
    rintro _ rfl
    rw [vset_other _ _ (fits.gate_ne count)]
    exact h t n k e
  exact gate _ config

theorem MetersAre.set {live : Fin 4 → Bool} {meters : Vector Meter 8} (h : MetersAre live meters) (m : Fin 8) {new : Meter}
    (config : new.config = meters[m].config) (record : new.record.Ok) (allows : new.config.Allows live meters new.state)
    (counts : ∀ t n k, new.state = .counting t n k → meters[meters[m].config.gate].state = .windowOpen t)
    (opens : ∀ t, meters[m].state = .windowOpen t → new.state = .windowOpen t) : MetersAre live (meters.set m new) where
  fits := MetersFit.set h.fits m config record allows
  inWindow f := by
    by_cases e : m = f
    · subst e
      exact Meter.InWindow.own h.fits config allows counts
    · exact (h.inWindow f).set e opens

/-! ### Measurements begin and end -/

section
variable {live : Fin 4 → Bool} {s : State} {m : Fin 8}

/-- A meter whose window is not open gets another state, and does not begin to count. -/
theorem MetersAre.become (h : MetersAre live s.meters) {record : MeterRecord} (ok : record.Ok) {st : MeterState}
    (allows : s.meters[m].config.Allows live s.meters st) (counts : ∀ t n k, st ≠ .counting t n k)
    (notOpen : ∀ t, s.meters[m].state ≠ .windowOpen t) :
    MetersAre live (s.putMeter m { s.meters[m] with record, state := st }).meters := by
  rw [State.putMeter_meters]
  exact h.set m rfl ok allows (fun t n k e => absurd e (counts t n k)) fun t e => absurd e (notOpen t)

theorem MetersAre.setState (h : MetersAre live s.meters) {st : MeterState} (allows : s.meters[m].config.Allows live s.meters st)
    (counts : ∀ t n k, st ≠ .counting t n k) (notOpen : ∀ t, s.meters[m].state ≠ .windowOpen t) :
    MetersAre live (s.setMeterState m st).meters := h.become (h.fits m).record allows counts notOpen

theorem MetersAre.result (h : MetersAre live s.meters) (o : MeterOutcome) {next : MeterState}
    (allows : s.meters[m].config.Allows live s.meters next) (counts : ∀ t n k, next ≠ .counting t n k)
    (notOpen : ∀ t, s.meters[m].state ≠ .windowOpen t) : MetersAre live (s.meterResult m o next).meters := by
  refine h.become ((h.fits m).record.result _ o) (allows.single _) (fun t n k => ?_) notOpen
  split
  · nofun
  · exact counts t n k

theorem Meter.Fits.allowsAt {meters : Vector Meter 8} (h : Meter.Fits live meters m) {st : MeterState} (e : meters[m].state = st) :
    meters[m].config.Allows live meters st := e ▸ h.allows

/-- A disturbed measurement (R114, R115). -/
theorem MetersAre.disturb (h : MetersAre live s.meters) (allows : s.meters[m].config.Allows live s.meters (.armed none))
    (notOpen : ∀ t, s.meters[m].state ≠ .windowOpen t) : MetersAre live (s.disturb m).meters :=
  h.become ((h.fits m).record.disturbed _) allows nofun notOpen

theorem MetersAre.overrangeEnd (h : MetersAre live s.meters) {start : Nat} (timing : s.meters[m].state = .timing start) :
    MetersAre live (s.overrangeEnd m).meters :=
  h.result _ ((h.fits m).allowsAt timing).rearm nofun (by rw [timing]; nofun)

theorem MetersAre.overrangeFirst (h : MetersAre live s.meters) (stamp : Nat) : MetersAre live (s.overrangeFirst m stamp).meters := by
  unfold State.overrangeFirst
  split
  · next start timing =>
    split
    · exact h.overrangeEnd timing
    · exact h
  · exact h

/-- A mode other than GATE and COUNT that uses channel A alone. -/
theorem MeterConfig.on_of_channelA {c : MeterConfig} (mode : c.mode = .period ∨ c.mode = .high ∨ c.mode = .low)
    (pod : live (podOf c.channelA) = true) : c.On live := by
  intro ch used
  unfold MeterConfig.usedChannels at used
  rcases mode with e | e | e <;> rw [e] at used <;> rw [List.mem_singleton.mp used] <;> exact pod

/-- An edge of a LIVE pod in ARMED (R108 to R110, R113). -/
theorem MetersAre.armedEdge (h : MetersAre s.podLive s.meters) {ch : Fin 32} (pod : s.podLive (podOf ch) = true) (rising : Bool)
    (stamp : Nat) {held : Option Nat} (armed : s.meters[m].state = .armed held) :
    MetersAre s.podLive (s.armedEdge m ch rising stamp held).meters := by
  have notOpen : ∀ t, s.meters[m].state ≠ .windowOpen t := by rw [armed]; nofun
  have starts : s.meters[m].config.mode ≠ .gate → s.meters[m].config.mode ≠ .count → s.meters[m].config.On s.podLive →
      MetersAre s.podLive (s.setMeterState m (.timing stamp)).meters := fun notGate notCount on =>
    h.setState (st := .timing stamp) ⟨notGate, notCount, on⟩ nofun notOpen
  have level : ∀ mode, s.meters[m].config.mode = mode → (mode = .period ∨ mode = .high ∨ mode = .low) →
      ch = s.meters[m].config.channelA → MetersAre s.podLive (s.setMeterState m (.timing stamp)).meters := fun mode hm which hc => by
    refine starts ?_ ?_ (MeterConfig.on_of_channelA (hm ▸ which) (hc ▸ pod)) <;> rw [hm] <;> rintro rfl <;> simp at which
  unfold State.armedEdge
  dsimp only
  split
  · next hm =>
    split
    · next e => exact level _ hm (.inl rfl) e.1
    · exact h
  · next hm =>
    split
    · next e => exact level _ hm (.inr (.inl rfl)) e.1
    · exact h
  · next hm =>
    split
    · next e => exact level _ hm (.inr (.inr rfl)) e.1
    · exact h
  · next hm =>
    split
    · next e =>
      obtain ⟨_, _, _, _, on⟩ := e
      exact starts (by rw [hm]; nofun) (by rw [hm]; nofun) (usedPodsLive_iff.mp on)
    · exact h
  · next hm =>
    split
    · have allows := (h.fits m).allowsAt armed
      exact h.setState (st := .armed (some stamp)) ⟨allows.1, allows.2.1, fun _ => .inl hm⟩ nofun notOpen
    · exact h
  · exact h

/-- An edge in TIMING (R107 to R110). -/
theorem MetersAre.timingEdge (h : MetersAre live s.meters) (ch : Fin 32) (rising : Bool) (stamp : Nat) {start : Nat}
    (timing : s.meters[m].state = .timing start) : MetersAre live (s.timingEdge m ch rising stamp start).meters := by
  have notOpen : ∀ t, s.meters[m].state ≠ .windowOpen t := by rw [timing]; nofun
  have allows := (h.fits m).allowsAt timing
  have ends : MetersAre live (s.meterResult m (.valid (elapsed start stamp)) (.armed none)).meters :=
    h.result _ allows.rearm nofun notOpen
  unfold State.timingEdge
  dsimp only
  split
  · exact h
  · split
    · split
      · exact h.result (next := .timing stamp) _ allows nofun notOpen
      · exact h
    · split
      · exact ends
      · exact h
    · split
      · exact ends
      · exact h
    · next hm =>
      split
      · exact h.result (next := .armed (some stamp)) _ ⟨allows.1, fun e => absurd e allows.2.1, fun _ => .inr hm⟩ nofun notOpen
      · exact h
    · exact h
    · exact h

/-- An edge of a follower that counts (R113). -/
theorem MetersAre.countingEdge (h : MetersAre live s.meters) (ch : Fin 32) (rising : Bool) (stamp : Nat) {openAt edges : Nat}
    {held : Option Nat} (counting : s.meters[m].state = .counting openAt edges held) :
    MetersAre live (s.countingEdge m ch rising stamp openAt edges held).meters := by
  have counts : ∀ n k, MetersAre live (s.setMeterState m (.counting openAt n k)).meters := fun n k => by
    unfold State.setMeterState
    rw [State.putMeter_meters]
    have allows := (h.fits m).allowsAt counting
    have allows : s.meters[m].config.Allows live s.meters (.counting openAt n k) := allows
    refine h.set m rfl (h.fits m).record allows (fun t n' k' e => ?_) (by rw [counting]; nofun)
    cases e
    exact h.inWindow m openAt edges held counting
  unfold State.countingEdge
  dsimp only
  split
  · split
    · exact counts _ _
    · split
      · exact counts _ _
      · exact h
  · exact h

end

/-- An edge of a LIVE pod's channel reaches a meter (R107). -/
theorem MetersOk.meterEdge {s : State} (h : MetersOk s) (m : Fin 8) {ch : Fin 32} (pod : s.podLive (podOf ch) = true) (rising : Bool)
    (stamp : Nat) : MetersOk (s.meterEdge m ch rising stamp) := by
  rw [metersOk_iff] at *
  unfold State.meterEdge
  split
  · have first := h.overrangeFirst (m := m) stamp
    have live : (s.overrangeFirst m stamp).podLive = s.podLive := by unfold State.podLive; rw [State.overrangeFirst_pods]
    rw [← live] at first pod
    have edge : ((s.overrangeFirst m stamp).takeEdge m ch rising stamp).podLive = (s.overrangeFirst m stamp).podLive := by
      unfold State.podLive; rw [State.takeEdge_pods]
    rw [edge]
    unfold State.takeEdge
    split
    · exact first
    · exact first
    · next armed => exact first.armedEdge pod rising stamp armed
    · next timing => exact first.timingEdge ch rising stamp timing
    · next counting => exact first.countingEdge ch rising stamp counting
  · exact h

/-- A clean-end event reaches a meter (R110). -/
theorem MetersOk.meterCleanEnd {s : State} (h : MetersOk s) (d : Fin 6) (a : Byte) (stamp : Nat) (m : Fin 8) :
    MetersOk (s.meterCleanEnd d a stamp m) := by
  rw [metersOk_iff] at *
  unfold State.meterCleanEnd
  split
  · next starts =>
    have first := h.overrangeFirst (m := m) stamp
    have live : (s.overrangeFirst m stamp).podLive = s.podLive := by unfold State.podLive; rw [State.overrangeFirst_pods]
    rw [← live] at first
    have taken : ((s.overrangeFirst m stamp).takeStart m stamp).podLive = (s.overrangeFirst m stamp).podLive := by
      unfold State.podLive; rw [State.takeStart_pods]
    rw [taken]
    have put : ∀ new : Meter, new.config = s.meters[m].config → (s.putMeter m new).meters[m].config = s.meters[m].config :=
      fun new e => by rw [State.putMeter_meters, vset_same, e]
    have config : (s.overrangeFirst m stamp).meters[m].config = s.meters[m].config := by
      unfold State.overrangeFirst State.overrangeEnd State.meterResult
      split
      · split
        · exact put _ rfl
        · rfl
      · rfl
    have delay : (s.overrangeFirst m stamp).meters[m].config.mode = .delay := by
      rw [config]
      simp only [MeterConfig.startsOn, Bool.and_eq_true, beq_iff_eq] at starts
      exact starts.1.1.1
    unfold State.takeStart
    split
    · next armed =>
      split
      · next ready =>
        refine first.setState ⟨by rw [delay]; nofun, by rw [delay]; nofun, ?_⟩ nofun (by rw [armed]; nofun)
        exact usedPodsLive_iff.mp (Bool.and_eq_true_iff.mp ready).2
      · exact first
    · exact first
  · exact h

theorem MetersOk.cleanEndEvent {s : State} (h : MetersOk s) (d : Fin 6) (a : Byte) (stamp : Nat) : MetersOk (s.cleanEndEvent d a stamp) :=
  foldl_inv MetersOk _ (fun _ m k => k.meterCleanEnd d a stamp m) _ s h

/-- What a decoder does leaves the meters in order and the pods as they are. -/
theorem metersOk_decoder (d : Fin 6) : DecoderClosed d fun s t => (MetersOk s → MetersOk t) ∧ t.pods = s.pods where
  refl _ := ⟨id, rfl⟩
  trans _ _ _ h k := ⟨k.1 ∘ h.1, k.2.trans h.2⟩
  put _ _ := ⟨fun h => h.of_same (State.putDecoder_meters _ _ _) (State.putDecoder_pods _ _ _), State.putDecoder_pods _ _ _⟩
  apply _ _ := ⟨fun h => h.of_same (State.apply_meters _ _) (State.apply_pods _ _), State.apply_pods _ _⟩
  error _ _ _ := ⟨fun h => h.of_same (State.errorReport_meters _ _ _ _) (State.errorReport_pods _ _ _ _), State.errorReport_pods _ _ _ _⟩
  event _ _ _ := ⟨fun h => h.cleanEndEvent _ _ _, State.cleanEndEvent_pods _ _ _ _⟩

theorem MetersOk.deliver {s : State} (h : MetersOk s) {channels : List (Fin 32)} (pods : ∀ c ∈ channels, s.podLive (podOf c) = true)
    (stamp : Nat) (order : List Taker) : MetersOk (s.deliver channels stamp order) := by
  have edges : ∀ (m : Fin 8) (cs : List (Fin 32)), (∀ c ∈ cs, c ∈ channels) → ∀ t : State, MetersOk t → t.pods = s.pods →
      MetersOk (t.meterEdges cs stamp m) ∧ (t.meterEdges cs stamp m).pods = s.pods := by
    intro m cs
    induction cs with
    | nil => exact fun _ t k e => ⟨k, e⟩
    | cons c cs ih =>
      intro sub t k e
      refine ih (fun c hc => sub c (List.mem_cons_of_mem _ hc)) _ (k.meterEdge m ?_ _ stamp) ?_
      · unfold State.podLive
        rw [e]
        exact pods c (sub c List.mem_cons_self)
      · rw [State.meterEdge_pods, e]
  refine (foldl_inv (fun t => MetersOk t ∧ t.pods = s.pods) _ (fun t taker k => ?_) _ s ⟨h, rfl⟩).1
  cases taker with
  | decoder d =>
    have moved := (metersOk_decoder d).decoderEdges channels stamp t
    exact ⟨moved.1 k.1, moved.2.trans k.2⟩
  | meter m => exact edges m channels (fun _ hc => hc) t k.1 k.2

theorem MetersOk.atExpiry {s : State} (h : MetersOk s) (d : Fin 6) (n : Nat) (levels : List (Role × Bool)) :
    MetersOk (s.atExpiry d n levels) :=
  ((metersOk_decoder d).atExpiry (fun _ _ => ⟨fun k => k.of_same rfl rfl, rfl⟩) n levels s).1 h

end Sys2Proof.Machine
end

section
/-! Every step keeps the meters in order: windows and their followers, pod downs, and then every command (sections 5.6, 5.7, 5.9). -/

namespace Sys2Proof.Machine

/-- A fold whose every step keeps `I`, brings what it visits to `Q` and keeps `Q` of the others, brings every member of the list to `Q`. -/
theorem foldl_each {α σ : Type} {I : σ → Prop} {Q : α → σ → Prop} {f : σ → α → σ}
    (h : ∀ s a, I s → I (f s a) ∧ Q a (f s a) ∧ ∀ b, Q b s → Q b (f s a)) (l : List α) (s : σ) (hs : I s) :
    I (l.foldl f s) ∧ ∀ a, (a ∈ l ∨ Q a s) → Q a (l.foldl f s) := by
  induction l generalizing s with
  | nil => exact ⟨hs, fun a k => k.resolve_left (by simp)⟩
  | cons x l ih =>
    obtain ⟨inv, own, others⟩ := h s x hs
    obtain ⟨kept, all⟩ := ih (f s x) inv
    refine ⟨kept, fun a k => all a ?_⟩
    rcases k with k | k
    · rcases List.mem_cons.mp k with rfl | k
      · exact .inr own
      · exact .inl k
    · exact .inr (others a k)

/-! ### Followers of a gate (R112 to R114) -/

/-- Gate `g` has become `gate`, and its followers are still to hear of it. -/
structure GateMoved (g : Fin 8) (gate : Meter) (s : State) : Prop where
  fits   : MetersFit s.podLive s.meters
  moved  : s.meters[g] = gate
  isGate : gate.config.mode = .gate
  others : ∀ f : Fin 8, s.follows g f = false → Meter.InWindow s.meters s.meters[f]

/-- Follower `f` has heard of it, and no other meter changed. -/
structure Heard (g : Fin 8) (gate : Meter) (f : Fin 8) (s t : State) : Prop where
  gate   : GateMoved g gate t
  own    : Meter.InWindow t.meters t.meters[f]
  others : ∀ b : Fin 8, Meter.InWindow s.meters s.meters[b] → Meter.InWindow t.meters t.meters[b]

theorem State.follows_iff {s : State} {g f : Fin 8} :
    s.follows g f = true ↔ s.meters[f].config.mode = .count ∧ s.meters[f].config.gate = g := by
  simp [State.follows]

/-- A gate whose window was open, or which was OFF, goes to another state. -/
theorem MetersOk.moveGate {s : State} (h : MetersOk s) {g : Fin 8} {new : Meter} (isGate : s.meters[g].config.mode = .gate)
    (config : new.config = s.meters[g].config) (record : new.record.Ok)
    (state : new.config.Allows s.podLive s.meters new.state) : GateMoved g new (s.putMeter g new) := by
  rw [metersOk_iff] at h
  have fits := MetersFit.set h.fits g config record state
  have live : (s.putMeter g new).podLive = s.podLive := by unfold State.podLive; rw [State.putMeter_pods]
  constructor
  case fits => rw [live, State.putMeter_meters]; exact fits
  case moved => rw [State.putMeter_meters, vset_same]
  case isGate => rw [config]; exact isGate
  case others =>
    intro f unfollows
    rw [State.putMeter_meters] at *
    have same : (s.meters.set g new)[f].config = s.meters[f].config := set_config config f
    intro t n k e
    have count := fits.count_of_counting e
    by_cases own : g = f
    · subst own
      rw [same, isGate] at count
      cases count
    · rw [vset_other _ _ own] at e
      have notGate : s.meters[f].config.gate ≠ g := fun gate => by
        rw [← Bool.not_eq_true, State.follows_iff, State.putMeter_meters, same] at unfollows
        exact unfollows ⟨same ▸ count, gate⟩
      have within := h.inWindow f t n k e
      have gate : ∀ c : MeterConfig, c = s.meters[f].config → (s.meters.set g new)[c.gate].state = .windowOpen t := by
        rintro _ rfl
        rw [vset_other _ _ (Ne.symm notGate)]
        exact within
      exact gate _ same

namespace GateMoved
variable {g f : Fin 8} {gate : Meter} {s : State}

theorem ok (h : GateMoved g gate s) (all : ∀ f : Fin 8, Meter.InWindow s.meters s.meters[f]) : MetersOk s :=
  metersOk_iff.mpr ⟨h.fits, all⟩

/-- A follower that needs no change. -/
theorem same (h : GateMoved g gate s) (own : Meter.InWindow s.meters s.meters[f]) : Heard g gate f s s := ⟨h, own, fun _ => id⟩

theorem put (h : GateMoved g gate s) (follows : s.follows g f = true) {new : Meter} (config : new.config = s.meters[f].config)
    (record : new.record.Ok) (allows : new.config.Allows s.podLive s.meters new.state)
    (counts : ∀ t n k, new.state = .counting t n k → gate.state = .windowOpen t) : Heard g gate f s (s.putMeter f new) := by
  obtain ⟨count, names⟩ := State.follows_iff.mp follows
  have live : (s.putMeter f new).podLive = s.podLive := by unfold State.podLive; rw [State.putMeter_pods]
  have other : f ≠ g := by
    rintro rfl
    rw [h.moved, h.isGate] at count
    cases count
  have notOpen : ∀ t, s.meters[f].state ≠ .windowOpen t := fun t e => by cases count.symm.trans (h.fits.gate_of_open e)
  have own : Meter.InWindow (s.meters.set f new) (s.meters.set f new)[f] := by
    refine Meter.InWindow.own h.fits config allows fun t n k e => ?_
    have read : ∀ i : Fin 8, i = g → s.meters[i].state = .windowOpen t := by
      rintro _ rfl
      rw [h.moved]
      exact counts t n k e
    exact read _ names
  have kept : ∀ b : Fin 8, Meter.InWindow s.meters s.meters[b] → Meter.InWindow (s.meters.set f new) (s.meters.set f new)[b] := fun b k => by
    by_cases e : f = b
    · exact e ▸ own
    · exact k.set e fun t hopen => absurd hopen (notOpen t)
  refine ⟨⟨?_, ?_, h.isGate, ?_⟩, ?_, ?_⟩ <;> simp only [live, State.putMeter_meters]
  · exact MetersFit.set h.fits f config record allows
  · rw [vset_other _ _ other, h.moved]
  · intro b unfollows
    refine kept b (h.others b ?_)
    rw [← unfollows]
    simp only [State.follows, State.putMeter_meters, set_config config]
  · exact own
  · exact kept

/-- A window open reaches a follower (R113). -/
theorem followerOpen (h : GateMoved g gate s) {stamp : Nat} (isOpen : gate.state = .windowOpen stamp)
    (own : Meter.InWindow s.meters s.meters[f]) : Heard g gate f s (s.followerOpen g stamp f) := by
  unfold State.followerOpen
  split
  · next follows =>
    split
    · next held armed =>
      have allows := (h.fits f).allowsAt armed
      obtain ⟨count, _⟩ := State.follows_iff.mp follows
      split
      · next live =>
        refine h.put follows rfl (h.fits f).record ⟨count, allows.2.1, usedPodsLive_iff.mp live⟩ fun t n k e => ?_
        cases e
        exact isOpen
      · exact h.put follows rfl (h.fits f).record ⟨allows.1, allows.2.1, nofun⟩ nofun
    · exact h.same own
  · exact h.same own

/-- A window end reaches a follower (R113). -/
theorem followerEnd (h : GateMoved g gate s) {stamp : Nat} {reopens : Bool}
    (isOpen : reopens = true → gate.state = .windowOpen stamp) : Heard g gate f s (s.followerEnd g stamp reopens f) := by
  unfold State.followerEnd
  split
  · next follows =>
    split
    · next counting =>
      have allows := (h.fits f).allowsAt counting
      refine h.put follows rfl ((h.fits f).record.result _ _) (MeterConfig.Allows.single ?_ _) fun t n k e => ?_
      · show MeterConfig.Allows s.podLive s.meters s.meters[f].config _
        split
        · exact allows
        · exact allows.armed_of_counting
      · dsimp only at e
        split at e
        · cases e
        · split at e
          · next opens =>
            cases e
            exact isOpen opens
          · cases e
    · next armed =>
      have own : Meter.InWindow s.meters s.meters[f] := by
        unfold Meter.InWindow
        rw [armed]
        nofun
      split
      · next opens => exact h.followerOpen (isOpen opens) own
      · exact h.same own
    · next notCounting _ => exact h.same fun t n k e => absurd e (notCounting t n k)
  · next unfollows => exact h.same (h.others f (by simpa using unfollows))

/-- A gate stop reaches a follower (R114). -/
theorem followerStop (h : GateMoved g gate s) : Heard g gate f s (s.followerStop g f) := by
  unfold State.followerStop
  split
  · next follows =>
    split
    · next counting =>
      exact h.put follows rfl ((h.fits f).record.disturbed _) ((h.fits f).allowsAt counting).armed_of_counting nofun
    · next notCounting => exact h.same fun t n k e => absurd e (notCounting t n k)
  · next unfollows => exact h.same (h.others f (by simpa using unfollows))

/-- Every meter has heard. -/
theorem foldl {step : State → Fin 8 → State} (h : GateMoved g gate s)
    (hears : ∀ (t : State) (f : Fin 8), GateMoved g gate t → Heard g gate f t (step t f)) (order : List (Fin 8))
    (all : ∀ f, f ∈ order) : MetersOk (order.foldl step s) := by
  obtain ⟨moved, windows⟩ := foldl_each (I := GateMoved g gate) (Q := fun f t => Meter.InWindow t.meters t.meters[f])
    (fun t f k => ⟨(hears t f k).gate, (hears t f k).own, (hears t f k).others⟩) order s h
  exact moved.ok fun f => windows f (.inl (all f))

end GateMoved

theorem mem_meterOrder (order : List (Fin 8)) (m : Fin 8) : m ∈ meterOrder order := by
  unfold meterOrder
  by_cases named : m ∈ order
  · exact List.mem_append_left _ named
  · exact List.mem_append_right _ (List.mem_filter.mpr ⟨List.mem_finRange m, by simpa using named⟩)

/-- The window of a gate that is OFF opens (R112). -/
theorem MetersOk.openWindow {s : State} (h : MetersOk s) {g : Fin 8} (isGate : s.meters[g].config.mode = .gate)
    (off : s.meters[g].state = .off) (stamp : Nat) : MetersOk (s.openWindow g stamp) := by
  have moved : GateMoved g _ (s.setMeterState g (.windowOpen stamp)) := h.moveGate isGate rfl (h g).record isGate
  have silent : ∀ f : Fin 8, Meter.InWindow (s.setMeterState g (.windowOpen stamp)).meters (s.setMeterState g (.windowOpen stamp)).meters[f] := by
    intro f
    unfold State.setMeterState
    rw [State.putMeter_meters]
    by_cases e : g = f
    · subst e
      intro t n k
      rw [vset_same]
      nofun
    · exact Meter.InWindow.set ((metersOk_iff.mp h).inWindow f) e fun t isOpen => by rw [off] at isOpen; cases isOpen
  obtain ⟨k, all⟩ := foldl_inv (fun t => GateMoved g _ t ∧ ∀ f : Fin 8, Meter.InWindow t.meters t.meters[f]) (State.followerOpen g stamp)
    (fun t f k => by
      have heard := k.1.followerOpen (f := f) (stamp := stamp) rfl (k.2 f)
      exact ⟨heard.gate, fun b => heard.others b (k.2 b)⟩) (List.finRange 8) _ ⟨moved, silent⟩
  exact k.ok all

theorem mtrStart_metersOk {s : State} (h : MetersOk s) (meter : Byte) : MetersOk (mtrStart meter s) := by
  have arm : ∀ m : Fin 8, s.meters[m].state = .off → s.meters[m].config.mode ≠ .gate → s.meters[m].config.Gated s.meters →
      MetersOk (s.setMeterState m (.armed none)) := fun m off notGate gated => by
    have set := (metersOk_iff.mp h).setState (m := m) (st := .armed none) ⟨notGate, gated, nofun⟩ nofun (by rw [off]; nofun)
    rw [metersOk_iff]
    have live : (s.setMeterState m (.armed none)).podLive = s.podLive := by unfold State.podLive; rw [State.setMeterState_pods]
    rw [live]
    exact set
  simp only [mtrStart]
  split
  · exact h.of_same rfl rfl
  · next m _ =>
    split
    · exact h.ok
    · next off =>
      have off : s.meters[m].state = .off := by simpa using off
      split
      · next mode =>
        split
        · exact h.of_same rfl rfl
        · next gated => exact (arm m off (by rw [mode]; nofun) fun _ => by simpa using gated).ok
      · next mode => exact (h.openWindow mode off _).ok
      all_goals
        next mode =>
        exact (arm m off (by rw [mode]; nofun) fun e => by rw [mode] at e; cases e).ok

theorem mtrStop_metersOk {s : State} (h : MetersOk s) (meter : Byte) : MetersOk (mtrStop meter s) := by
  simp only [mtrStop]
  split
  · exact h.of_same rfl rfl
  · next m _ =>
    split
    · exact h.ok
    · split
      · next mode =>
        have moved : GateMoved m _ (s.setMeterState m .off) := h.moveGate mode rfl (h m).record trivial
        exact (moved.foldl (fun t f k => k.followerStop) _ List.mem_finRange).ok
      · next notGate =>
        have set := (metersOk_iff.mp h).setState (m := m) (st := .off) trivial nofun fun t e =>
          notGate ((metersOk_iff.mp h).fits |> fun fits => MetersFit.gate_of_open fits e)
        have live : (s.setMeterState m .off).podLive = s.podLive := by unfold State.podLive; rw [State.setMeterState_pods]
        rw [← live] at set
        exact (metersOk_iff.mpr set).ok

theorem windowExpiry_metersOk {s : State} (h : MetersOk s) (m : Fin 8) (order : List (Fin 8)) : MetersOk (windowExpiry m order s) := by
  simp only [windowExpiry]
  split
  · next openAt isOpen =>
    have isGate : s.meters[m].config.mode = .gate := MetersFit.gate_of_open (metersOk_iff.mp h).fits isOpen
    have advanced : MetersOk (s.advance (openAt + s.meters[m].config.windowLength)) := h.of_same rfl rfl
    unfold State.expireWindow
    dsimp only
    have moved : GateMoved m _ ((s.advance (openAt + s.meters[m].config.windowLength)).meterResult m
        (.valid (BitVec.ofNat 32 s.meters[m].config.windowLength)) (.windowOpen (openAt + s.meters[m].config.windowLength))) :=
      advanced.moveGate isGate rfl ((advanced m).record.result _ _)
        (MeterConfig.Allows.single (st := .windowOpen (openAt + s.meters[m].config.windowLength)) isGate _)
    refine moved.foldl (fun t f k => k.followerEnd fun reopens => ?_) _ (mem_meterOrder order)
    have again : s.meters[m].config.singleShot = false := by simpa using reopens
    show (if s.meters[m].config.singleShot then MeterState.off else _) = _
    rw [again]
    rfl
  · exact h

theorem mtrClear_metersOk {s : State} (h : MetersOk s) (meter : Byte) : MetersOk (mtrClear meter s) := by
  simp only [mtrClear]
  split
  · exact h.of_same rfl rfl
  · next m _ =>
    have live : (s.putMeter m { s.meters[m] with record := MeterRecord.cleared }).podLive = s.podLive := by
      unfold State.podLive; rw [State.putMeter_pods]
    have ok := metersOk_iff.mp h
    refine MetersOk.ok (metersOk_iff.mpr ?_)
    rw [live, State.putMeter_meters]
    exact ok.set m rfl MeterRecord.Ok.cleared (ok.fits m).allows (ok.inWindow m) fun _ => id

theorem overrange_metersOk {s : State} (h : MetersOk s) (m : Fin 8) : MetersOk (overrange m s) := by
  simp only [overrange]
  split
  · next start timing =>
    have advanced : MetersOk (s.advance (start + Config.overrangeTime)) := h.of_same rfl rfl
    have ended := (metersOk_iff.mp advanced).overrangeEnd (m := m) timing
    rw [metersOk_iff]
    have live : ((s.advance (start + Config.overrangeTime)).overrangeEnd m).podLive = (s.advance (start + Config.overrangeTime)).podLive := by
      unfold State.podLive; rw [State.overrangeEnd_pods]
    rw [live]
    exact ended
  · exact h

/-! ### MTR_CONFIG (R118) -/

theorem meterConfig?_window {b : MeterBytes} {c : MeterConfig} (h : meterConfig? b = some c) : 1 ≤ c.window ∧ c.window ≤ 1000000 := by
  unfold meterConfig? at h
  split at h
  · split at h
    · next limits =>
      cases h
      exact limits
    · cases h
  · cases h

/-- A meter that is OFF takes another configuration: the gate of a follower that is not OFF stays a gate (R118). -/
theorem MetersAre.reconfigure {live : Fin 4 → Bool} {meters : Vector Meter 8} (h : MetersAre live meters) {m : Fin 8}
    (off : meters[m].state = .off) {c : MeterConfig} (window : 1 ≤ c.window ∧ c.window ≤ 1000000)
    (below : c.mode = .count → c.gate < m)
    (gates : ∀ f : Fin 8, meters[f].config.mode = .count → meters[f].config.gate = m → meters[f].state ≠ .off → c.mode = .gate) :
    MetersAre live (meters.set m { config := c, state := .off, record := MeterRecord.cleared }) := by
  have get : ∀ i : Fin 8, m ≠ i → (meters.set m { config := c, state := .off, record := MeterRecord.cleared })[i] = meters[i] :=
    fun i e => vset_other _ _ e
  refine ⟨fun f => ?_, fun f => ?_⟩
  · by_cases e : m = f
    · subst e
      exact ⟨by rw [vset_same]; exact MeterRecord.Ok.cleared, by rw [vset_same]; exact window, by rw [vset_same]; exact below,
        by rw [vset_same]; trivial⟩
    · obtain ⟨record, limits, low, allows⟩ := h.fits f
      have gated : meters[f].state ≠ .off → meters[f].config.Gated meters →
          meters[f].config.Gated (meters.set m { config := c, state := .off, record := MeterRecord.cleared }) := fun on gated count => by
        rw [vset_get]
        split
        · next gate => exact gates f count gate.symm on
        · exact gated count
      refine ⟨by rw [get f e]; exact record, by rw [get f e]; exact limits, by rw [get f e]; exact low, ?_⟩
      rw [get f e]
      revert allows gated
      cases meters[f].state with
      | off => exact fun _ _ => trivial
      | armed held => exact fun allows gated => ⟨allows.1, gated (by nofun) allows.2.1, allows.2.2⟩
      | timing t => exact fun allows _ => allows
      | windowOpen t => exact fun allows _ => allows
      | counting t n k => exact fun allows gated => ⟨allows.1, gated (by nofun) allows.2.1, allows.2.2⟩
  · by_cases e : m = f
    · subst e
      intro t n k
      rw [vset_same]
      nofun
    · exact (h.inWindow f).set e fun t isOpen => by rw [off] at isOpen; cases isOpen

theorem mtrConfig_metersOk {s : State} (h : MetersOk s) (meter : Byte) (b : MeterBytes) : MetersOk (mtrConfig meter b s) := by
  simp only [mtrConfig]
  split
  · exact h.of_same rfl rfl
  · next m _ =>
    split
    · exact h.of_same rfl rfl
    · next off =>
      have off : s.meters[m].state = .off := by simpa using off
      split
      · exact h.of_same rfl rfl
      · next c hc =>
        split
        · exact h.of_same rfl rfl
        · next below =>
          split
          · exact h.of_same rfl rfl
          · next gates =>
            have live : (s.putMeter m { config := c, state := .off, record := MeterRecord.cleared }).podLive = s.podLive := by
              unfold State.podLive; rw [State.putMeter_pods]
            refine MetersOk.ok (metersOk_iff.mpr ?_)
            rw [live, State.putMeter_meters]
            refine (metersOk_iff.mp h).reconfigure off (meterConfig?_window hc)
              (fun count => not_le.mp fun le => below ⟨count, le⟩) fun f count names on => ?_
            by_contra notGate
            refine gates ⟨notGate, ?_⟩
            simp only [State.gatesFollower, List.any_eq_true, Bool.and_eq_true, bne_iff_ne]
            exact ⟨f, List.mem_finRange f, State.follows_iff.mpr ⟨count, names⟩, on⟩

/-! ### Pods (R13, R104, R115) -/

/-- Pods that become LIVE disturb no measurement. -/
theorem MetersAre.relive {live live' : Fin 4 → Bool} {meters : Vector Meter 8} (h : MetersAre live meters)
    (on : ∀ m : Fin 8, (∃ t, meters[m].state = .timing t) ∨ (∃ t n k, meters[m].state = .counting t n k) →
      meters[m].config.On live → meters[m].config.On live') : MetersAre live' meters :=
  ⟨fun m => ⟨(h.fits m).record, (h.fits m).window, (h.fits m).below, (h.fits m).allows.relive (on m)⟩, h.inWindow⟩

/-- A measurement under way in the meter uses no channel of the pod. -/
def Meter.Spares (p : Fin 4) (mt : Meter) : Prop :=
  (∃ t, mt.state = .timing t) ∨ (∃ t n k, mt.state = .counting t n k) → mt.config.usesPod p = false

/-- A pod down leaves no measurement on the pod (R115). -/
theorem MetersAre.metersPodDown {live : Fin 4 → Bool} {s : State} (h : MetersAre live s.meters) (p : Fin 4) :
    MetersAre live (s.metersPodDown p).meters ∧ ∀ m : Fin 8, ((s.metersPodDown p).meters[m]).Spares p := by
  have one : ∀ (t : State) (m : Fin 8), MetersAre live t.meters → MetersAre live (t.meterPodDown p m).meters ∧
      ((t.meterPodDown p m).meters[m]).Spares p ∧
        ∀ b : Fin 8, (t.meters[b]).Spares p → ((t.meterPodDown p m).meters[b]).Spares p := by
    intro t m k
    have same : (t.meters[m]).Spares p → MetersAre live t.meters ∧ (t.meters[m]).Spares p ∧
        ∀ b : Fin 8, (t.meters[b]).Spares p → (t.meters[b]).Spares p := fun own => ⟨k, own, fun _ => id⟩
    have disturbed : t.meters[m].config.Allows live t.meters (.armed none) → (∀ u, t.meters[m].state ≠ .windowOpen u) →
        MetersAre live (t.disturb m).meters ∧ ((t.disturb m).meters[m]).Spares p ∧
          ∀ b : Fin 8, (t.meters[b]).Spares p → ((t.disturb m).meters[b]).Spares p := fun allows notOpen => by
      have own : ((t.disturb m).meters[m]).Spares p := by
        unfold State.disturb
        rw [State.putMeter_meters, vset_same]
        rintro (⟨u, e⟩ | ⟨u, n, c, e⟩) <;> cases e
      refine ⟨k.disturb allows notOpen, own, fun b spares => ?_⟩
      by_cases e : m = b
      · exact e ▸ own
      · unfold State.disturb
        rw [State.putMeter_meters, vset_other _ _ e]
        exact spares
    unfold State.meterPodDown
    dsimp only
    split
    · next timing =>
      split
      · exact disturbed ((k.fits m).allowsAt timing).rearm (by rw [timing]; nofun)
      · next spares => exact same fun _ => by simpa using spares
    · next counting =>
      split
      · exact disturbed ((k.fits m).allowsAt counting).armed_of_counting (by rw [counting]; nofun)
      · next spares => exact same fun _ => by simpa using spares
    · next notTiming notCounting =>
      refine same ?_
      rintro (⟨u, e⟩ | ⟨u, n, c, e⟩)
      · exact absurd e (notTiming u)
      · exact absurd e (notCounting u n c)
  obtain ⟨kept, all⟩ := foldl_each (I := fun t => MetersAre live t.meters) (Q := fun (m : Fin 8) t => (t.meters[m]).Spares p)
    one (List.finRange 8) s h
  exact ⟨kept, fun m => all m (.inl (List.mem_finRange m))⟩

theorem State.podLive_of_set {s t : State} {p : Fin 4} {new : Pod} (e : t.pods = s.pods.set p new) (q : Fin 4) :
    t.podLive q = if p = q then new.state == .live else s.podLive q := by
  unfold State.podLive
  rw [e, vset_get]
  split <;> rfl

/-- A pod is replaced, in LIVE when it was. -/
theorem MetersOk.of_set {s t : State} (h : MetersOk s) {p : Fin 4} {new : Pod} (meters : t.meters = s.meters)
    (pods : t.pods = s.pods.set p new) (stays : s.pods[p].state = .live → new.state = .live) : MetersOk t := by
  rw [metersOk_iff] at *
  rw [meters]
  refine h.relive fun m _ on ch used => ?_
  have live := on ch used
  rw [State.podLive_of_set pods]
  split
  · next e =>
    have was : s.pods[podOf ch].state = .live := beq_iff_eq.mp live
    exact beq_iff_eq.mpr (stays (e ▸ was))
  · exact live

theorem MetersOk.podMoves {s : State} (h : MetersOk s) (p : Fin 4) (new : Pod) (cause : DownCause) :
    MetersOk (s.podMoves p new cause) := by
  unfold State.podMoves
  dsimp only
  split
  · have told : (((s.putPod p new).dropCandidates p).decodersPodDown p cause).meters = s.meters :=
      (State.decodersPodDown_meters _ _ _).trans (State.putPod_meters _ _ _)
    have pods : ((((s.putPod p new).dropCandidates p).decodersPodDown p cause).metersPodDown p).pods = s.pods.set p new :=
      (State.metersPodDown_pods _ _).trans ((State.decodersPodDown_pods _ _ _).trans (State.putPod_pods _ _ _))
    obtain ⟨kept, spares⟩ := MetersAre.metersPodDown
      (s := ((s.putPod p new).dropCandidates p).decodersPodDown p cause) (live := s.podLive) (by rw [told]; exact metersOk_iff.mp h) p
    rw [metersOk_iff]
    refine kept.relive fun m running on ch used => ?_
    have other : p ≠ podOf ch := fun e => by
      have free := spares m running
      simp only [MeterConfig.usesPod, List.any_eq_false, beq_iff_eq] at free
      exact free ch used e.symm
    rw [State.podLive_of_set pods, if_neg other]
    exact on ch used
  · next stays =>
    exact h.of_set (State.putPod_meters _ _ _) (State.putPod_pods _ _ _) fun live => by
      by_contra gone
      exact stays ⟨live, gone⟩

/-! ### Commands -/

theorem podSet_metersOk {s : State} (h : MetersOk s) (pod requested code : Byte) (widths : Vector Byte 8) :
    MetersOk (podSet pod requested code widths s) := by
  simp only [podSet]
  split
  · split
    · exact h.of_same rfl rfl
    · exact (MetersOk.podMoves (s := s.setWidths _ _) (h.of_same rfl rfl) _ _ _).ok
  · exact h.of_same rfl rfl

theorem podGo_metersOk {s : State} (h : MetersOk s) (mask : Byte) : MetersOk (podGo mask s) := by
  have moved : MetersOk ((namedPods mask).foldl State.podGoOne s) :=
    foldl_inv MetersOk _ (fun _ p k => k.podMoves p _ .stop) _ s h
  simp only [podGo]
  split
  · exact h.of_same rfl rfl
  · split
    · exact h.of_same rfl rfl
    · split
      · exact h.of_same rfl rfl
      · exact moved.of_same rfl rfl

theorem insertionTimerStart_metersOk {s : State} (h : MetersOk s) (p : Fin 4) : MetersOk (insertionTimerStart p s) := by
  simp only [insertionTimerStart]
  split
  · exact h.of_set (p := p) rfl rfl id
  · exact h

theorem insertionTimerStop_metersOk {s : State} (h : MetersOk s) (p : Fin 4) : MetersOk (insertionTimerStop p s) := by
  simp only [insertionTimerStop]
  split
  · exact h
  · exact h.of_set (p := p) rfl rfl id

theorem insertion_metersOk {s : State} (pods : PodsOk s) (h : MetersOk s) (p : Fin 4) : MetersOk (insertion p s) := by
  simp only [insertion]
  split
  · exact h
  · next t ht =>
    have absent := (pods.pods p).insertion (by rw [ht]; rfl)
    exact h.of_set (p := p) ((State.raisePodChange_meters _ _).trans (State.putPod_meters _ _ _))
      ((State.raisePodChange_pods _ _).trans (State.putPod_pods _ _ _)) fun live => by rw [absent] at live; cases live

theorem removal_metersOk {s : State} (h : MetersOk s) (p : Fin 4) : MetersOk (removal p s) := by
  simp only [removal]
  split
  · exact h
  · exact MetersOk.of_same (MetersOk.podMoves (s := { s with pins := s.pins.setSense p false }) (h.of_same rfl rfl) p _ .removal)
      (State.raisePodChange_meters _ _) (State.raisePodChange_pods _ _)

theorem overcurrent_metersOk {s : State} (h : MetersOk s) (p : Fin 4) : MetersOk (overcurrent p s) := by
  simp only [overcurrent]
  split
  · exact h.podMoves p _ _
  · exact h

/-- A pod in a stage is not LIVE. -/
theorem Pod.Ok.notLive {p : Pod} (h : p.Ok) {stage : Stage} {t : Transition} (e : p.inStage stage = some t) : p.state ≠ .live := by
  obtain ⟨_, _, state⟩ := h.inStage e
  rw [state]
  cases stage <;> nofun

theorem rampingExpiry_metersOk {s : State} (pods : PodsOk s) (h : MetersOk s) (p : Fin 4) : MetersOk (rampingExpiry p s) := by
  simp only [rampingExpiry]
  split
  · exact h
  · next t ht =>
    exact h.of_set (p := p) (State.putPod_meters _ _ _) (State.putPod_pods _ _ _) fun live => absurd live ((pods.pods p).notLive ht)

theorem settlingExpiry_metersOk {s : State} (h : MetersOk s) (p : Fin 4) (levels : BitVec 8) : MetersOk (settlingExpiry p levels s) := by
  simp only [settlingExpiry]
  split
  · exact h
  · refine h.of_set (p := p) (new := { s.pods[p] with state := .live, transition := none }) (State.podUp_meters _ _ _) ?_ fun _ => rfl
    exact (State.decodersPodUp_pods _ _).trans (State.putPod_pods _ _ _)

theorem stoppingExpiry_metersOk {s : State} (pods : PodsOk s) (h : MetersOk s) (p : Fin 4) : MetersOk (stoppingExpiry p s) := by
  simp only [stoppingExpiry]
  split
  · exact h
  · next t ht =>
    exact h.of_set (p := p) (State.putPod_meters _ _ _) (State.putPod_pods _ _ _) fun live => absurd live ((pods.pods p).notLive ht)

theorem acceptedEdge_metersOk {s : State} (h : MetersOk s) (channel : Fin 32) (also : List (Fin 32)) (stamp : Nat)
    (order : List Taker) : MetersOk (acceptedEdge channel also stamp order s) := by
  simp only [acceptedEdge]
  split
  · exact h
  · have accepted : ∀ (l : List (Fin 32)) (t : State), (l.foldl State.acceptChange t).meters = t.meters ∧
        (l.foldl State.acceptChange t).pods = t.pods := fun l t =>
      ⟨foldl_keeps State.meters State.acceptChange (fun _ _ => rfl) l t, foldl_keeps State.pods State.acceptChange (fun _ _ => rfl) l t⟩
    obtain ⟨meters, pods⟩ := accepted ((channel :: also).filter s.canAccept) (s.advance stamp)
    refine (h.of_same meters pods).deliver (fun c hc => ?_) _ _
    have can := (List.mem_filter.mp hc).2
    unfold State.podLive
    rw [pods]
    exact (Bool.and_eq_true_iff.mp can).1

/-- A timer of a decoder that expires. -/
theorem decoderExpiry_metersOk {s : State} (h : MetersOk s) (d : Fin 6) (line clock data : Bool) :
    MetersOk (twoWireIdleExpiry d clock data s) ∧ MetersOk (asyncIdleExpiry d line s) ∧ MetersOk (asyncSamplePoint d line s) ∧
      MetersOk (characterJudged d line s) ∧ MetersOk (breakTimeout d line s) ∧ MetersOk (idleGapExpiry d s) := by
  have closed := metersOk_decoder d
  refine ⟨?_, ?_, ?_, ?_, ?_, ?_⟩
  · simp only [twoWireIdleExpiry]
    split
    · exact (closed.idleAt _ _).1 (h.atExpiry d _ _)
    · exact h
  · simp only [asyncIdleExpiry]
    split
    · exact (closed.idleAt _ _).1 (h.atExpiry d _ _)
    · exact h
  · simp only [asyncSamplePoint]
    split
    · exact h
    · split
      · exact (closed.takeSample _).1 (h.atExpiry d _ _)
      · exact h
  · simp only [characterJudged]
    split
    · exact h
    · split
      · exact (closed.lastSample _).1 (h.atExpiry d _ _)
      · exact h
  · simp only [breakTimeout]
    split
    · exact h
    · split
      · exact (closed.breakTest _ _).1 (h.atExpiry d _ _)
      · exact h
  · simp only [idleGapExpiry]
    split
    · split
      · exact (closed.gapEnd _ _).1 (h.of_same rfl rfl)
      · exact h
    · exact h

theorem decStop_metersOk {s : State} (h : MetersOk s) (decoder : Byte) : MetersOk (decStop decoder s) := by
  simp only [decStop]
  split
  · exact h.of_same rfl rfl
  · next d _ =>
    split
    · exact h.ok
    · exact (((metersOk_decoder d).abort _ _ _ s).1 h).ok
    all_goals exact (((metersOk_decoder d).put _ s).1 h).ok

theorem ntcAckNotice_metersOk {s : State} (h : MetersOk s) (kind mask : Byte) : MetersOk (ntcAckNotice kind mask s) := by
  have cleared : MetersOk ((namedPods mask).foldl State.clearMark s) := by
    refine foldl_inv MetersOk State.clearMark (fun t p k => ?_) _ s h
    rw [State.clearMark_eq]
    exact k.of_set (State.putPod_meters _ _ _) (State.putPod_pods _ _ _) id
  have podFault : MetersOk (ackPodFault mask s) := by
    unfold ackPodFault
    split
    · exact cleared.of_same rfl rfl
    · exact h.of_same rfl rfl
  unfold ntcAckNotice
  split
  · split
    · exact h.of_same rfl rfl
    · exact podFault
  · refine h.of_same ?_ ?_ <;> simp only [ackPodChange, ackPanelLost, ackStoreFull, ackCellsFull] <;> (repeat' split) <;> simp

theorem Meter.Ok.reset {s : State} {m : Fin 8} (e : s.meters[m] = Meter.reset) : Meter.Ok s m := by
  rw [meterOk_iff]
  constructor
  · refine ⟨?_, ?_, ?_, ?_⟩ <;> rw [e]
    · exact MeterRecord.Ok.cleared
    · exact ⟨by decide, by decide⟩
    · nofun
    · trivial
  · rw [e]
    nofun

theorem metersOk_of_reset {s : State} (h : s.meters = Vector.replicate 8 Meter.reset) : MetersOk s := fun m =>
  Meter.Ok.reset (by rw [h]; exact replicate_get 8 _ m)

theorem effect_metersOk (c : Instr) {s : State} (pods : PodsOk s) (h : MetersOk s) : MetersOk (effect c s) := by
  cases c
  case fullReset sense => exact metersOk_of_reset rfl
  case devRestart => exact metersOk_of_reset rfl
  case podSet pod requested code widths => exact podSet_metersOk h pod requested code widths
  case podGo mask => exact podGo_metersOk h mask
  case insertionTimerStart p => exact insertionTimerStart_metersOk h p
  case insertionTimerStop p => exact insertionTimerStop_metersOk h p
  case insertion p => exact insertion_metersOk pods h p
  case removal p => exact removal_metersOk h p
  case overcurrent p => exact overcurrent_metersOk h p
  case rampingExpiry p => exact rampingExpiry_metersOk pods h p
  case settlingExpiry p levels => exact settlingExpiry_metersOk h p levels
  case stoppingExpiry p => exact stoppingExpiry_metersOk pods h p
  case acceptedEdge channel also stamp order => exact acceptedEdge_metersOk h channel also stamp order
  case ntcAckNotice kind mask => exact ntcAckNotice_metersOk h kind mask
  case twoWireIdleExpiry d clock data => exact (decoderExpiry_metersOk h d false clock data).1
  case asyncIdleExpiry d line => exact (decoderExpiry_metersOk h d line false false).2.1
  case asyncSamplePoint d line => exact (decoderExpiry_metersOk h d line false false).2.2.1
  case characterJudged d line => exact (decoderExpiry_metersOk h d line false false).2.2.2.1
  case breakTimeout d line => exact (decoderExpiry_metersOk h d line false false).2.2.2.2.1
  case idleGapExpiry d => exact (decoderExpiry_metersOk h d false false false).2.2.2.2.2
  case decStop decoder => exact decStop_metersOk h decoder
  case mtrConfig meter config => exact mtrConfig_metersOk h meter config
  case mtrStart meter => exact mtrStart_metersOk h meter
  case mtrStop meter => exact mtrStop_metersOk h meter
  case mtrClear meter => exact mtrClear_metersOk h meter
  case overrange m => exact overrange_metersOk h m
  case windowExpiry m order => exact windowExpiry_metersOk h m order
  case devStatus later =>
    rw [effect, devStatus_eq]
    exact h.of_same rfl rfl
  all_goals refine h.of_same ?_ ?_
  all_goals
    simp only [effect, requestFrame, readFrame, State.takeSelection, State.takeRead, answer, devIdent, podRead, filterCandidate,
      tgtFind, tgtList, tgtRead, tgtDeclare, tgtSetCell, tgtExpect, expectSet, expectClear, tgtDropCell, tgtPin, tgtRetire,
      State.withRecord, decConfig, decStart, decRead, mtrRead, wchSet, wchClear, wchRead, ntcRead, ntcAckWatch, ntcLevels, hold,
      paneSet, paneClear, paneRead, dispInterval, refreshTick, dispRepaint, pnlEnable, pnlRestart, bklSet, lbusyLow, burstEnd,
      waitExpiry, backlightPhaseExpiry, millisecondTick]
      <;> (repeat' split) <;> simp

/-- Settles O57: what every command keeps of the pods and the meters, every step keeps; the samples of the filters leave the meters alone. -/
theorem stepKeepsMeters : Obligations.StepKeepsMeters := fun _ _ pods meters h =>
  (step_keeps (P := fun s => PodsOk s ∧ MetersOk s) (fun _ _ k => ⟨k.1.of_same rfl rfl, k.2.of_same rfl rfl⟩)
    (fun c _ k _ => ⟨effect_podsOk c k.1, effect_metersOk c k.1 k.2⟩) (fun _ now k _ => ⟨k.1.sampledAt now, k.2.of_same rfl rfl⟩)
    h ⟨pods, meters⟩).2

end Sys2Proof.Machine
end

section
/-! What the commands are made of, said once for every relation between states that their parts keep: the writes of pods, decoders and meters with their reports, the store's events, the notices, and what reaches none of these. -/

namespace Sys2Proof.Machine

/-! ### The moves of meters -/

/-- A relation that the writes of meters keep, each with its configuration as it was. -/
structure MeterWrites (R : State → State → Prop) : Prop where
  refl  : ∀ s, R s s
  trans : ∀ s t u, R s t → R t u → R s u
  put   : ∀ (m : Fin 8) (new : Meter) (s : State), new.config = s.meters[m].config → R s (s.putMeter m new)

namespace MeterWrites
variable {R : State → State → Prop} (h : MeterWrites R)
include h

theorem setState (m : Fin 8) (st : MeterState) (s : State) : R s (s.setMeterState m st) := h.put m _ s rfl

theorem result (m : Fin 8) (o : MeterOutcome) (next : MeterState) (s : State) : R s (s.meterResult m o next) := h.put m _ s rfl

theorem disturb (m : Fin 8) (s : State) : R s (s.disturb m) := h.put m _ s rfl

/-- Events at every meter of a list. -/
theorem fold {step : State → Fin 8 → State} (each : ∀ s m, R s (step s m)) (l : List (Fin 8)) (s : State) : R s (l.foldl step s) :=
  fold_closed h.refl h.trans step each l s

theorem armedEdge (m : Fin 8) (ch : Fin 32) (rising : Bool) (stamp : Nat) (held : Option Nat) (s : State) :
    R s (s.armedEdge m ch rising stamp held) := by
  have either : ∀ (P : Prop) [Decidable P] (st : MeterState), R s (if P then s.setMeterState m st else s) := fun P _ st => by
    split
    · exact h.setState m st s
    · exact h.refl s
  unfold State.armedEdge
  dsimp only
  split
  case h_6 => exact h.refl s
  all_goals exact either _ _

theorem timingEdge (m : Fin 8) (ch : Fin 32) (rising : Bool) (stamp start : Nat) (s : State) :
    R s (s.timingEdge m ch rising stamp start) := by
  have either : ∀ (P : Prop) [Decidable P] (o : MeterOutcome) (st : MeterState), R s (if P then s.meterResult m o st else s) :=
    fun P _ o st => by
      split
      · exact h.result m o st s
      · exact h.refl s
  unfold State.timingEdge
  dsimp only
  split
  · exact h.refl s
  · split
    case h_5 => exact h.refl s
    case h_6 => exact h.refl s
    all_goals exact either _ _ _

theorem countingEdge (m : Fin 8) (ch : Fin 32) (rising : Bool) (stamp openAt edges : Nat) (held : Option Nat) (s : State) :
    R s (s.countingEdge m ch rising stamp openAt edges held) := by
  unfold State.countingEdge
  dsimp only
  split
  · split
    · exact h.setState m _ s
    · split
      · exact h.setState m _ s
      · exact h.refl s
  · exact h.refl s

theorem overrangeFirst (m : Fin 8) (stamp : Nat) (s : State) : R s (s.overrangeFirst m stamp) := by
  unfold State.overrangeFirst
  split
  · split
    · exact h.result m _ _ s
    · exact h.refl s
  · exact h.refl s

theorem takeEdge (m : Fin 8) (ch : Fin 32) (rising : Bool) (stamp : Nat) (s : State) : R s (s.takeEdge m ch rising stamp) := by
  unfold State.takeEdge
  split
  · exact h.refl s
  · exact h.refl s
  · exact h.armedEdge m ch rising stamp _ s
  · exact h.timingEdge m ch rising stamp _ s
  · exact h.countingEdge m ch rising stamp _ _ _ s

theorem meterEdge (m : Fin 8) (ch : Fin 32) (rising : Bool) (stamp : Nat) (s : State) : R s (s.meterEdge m ch rising stamp) := by
  unfold State.meterEdge
  split
  · exact h.trans _ _ _ (h.overrangeFirst m stamp s) (h.takeEdge m ch rising stamp _)
  · exact h.refl s

theorem meterEdges (channels : List (Fin 32)) (stamp : Nat) (m : Fin 8) (s : State) : R s (s.meterEdges channels stamp m) :=
  fold_closed h.refl h.trans _ (fun s _ => h.meterEdge m _ _ stamp s) channels s

theorem takeStart (m : Fin 8) (stamp : Nat) (s : State) : R s (s.takeStart m stamp) := by
  unfold State.takeStart
  split
  · split
    · exact h.setState m _ s
    · exact h.refl s
  · exact h.refl s

theorem meterCleanEnd (d : Fin 6) (a : Byte) (stamp : Nat) (s : State) (m : Fin 8) : R s (s.meterCleanEnd d a stamp m) := by
  unfold State.meterCleanEnd
  split
  · exact h.trans _ _ _ (h.overrangeFirst m stamp s) (h.takeStart m stamp _)
  · exact h.refl s

theorem cleanEndEvent (d : Fin 6) (a : Byte) (stamp : Nat) (s : State) : R s (s.cleanEndEvent d a stamp) :=
  h.fold (h.meterCleanEnd d a stamp) _ s

theorem followerOpen (g : Fin 8) (stamp : Nat) (s : State) (f : Fin 8) : R s (s.followerOpen g stamp f) := by
  unfold State.followerOpen
  split
  · split
    · split
      · exact h.setState f _ s
      · exact h.setState f _ s
    · exact h.refl s
  · exact h.refl s

theorem followerEnd (g : Fin 8) (stamp : Nat) (reopens : Bool) (s : State) (f : Fin 8) : R s (s.followerEnd g stamp reopens f) := by
  unfold State.followerEnd
  split
  · split
    · exact h.result f _ _ s
    · split
      · exact h.followerOpen g stamp s f
      · exact h.refl s
    · exact h.refl s
  · exact h.refl s

theorem followerStop (g : Fin 8) (s : State) (f : Fin 8) : R s (s.followerStop g f) := by
  unfold State.followerStop
  split
  · split
    · exact h.disturb f s
    · exact h.refl s
  · exact h.refl s

theorem openWindow (g : Fin 8) (stamp : Nat) (s : State) : R s (s.openWindow g stamp) :=
  h.trans _ _ _ (h.setState g _ s) (h.fold (h.followerOpen g stamp) _ _)

theorem meterPodDown (p : Fin 4) (s : State) (m : Fin 8) : R s (s.meterPodDown p m) := by
  have either : ∀ (P : Prop) [Decidable P], R s (if P then s.disturb m else s) := fun P _ => by
    split
    · exact h.disturb m s
    · exact h.refl s
  unfold State.meterPodDown
  dsimp only
  split
  · exact either _
  · exact either _
  · exact h.refl s

theorem metersPodDown (p : Fin 4) (s : State) : R s (s.metersPodDown p) := h.fold (h.meterPodDown p) _ s

end MeterWrites

/-! ### The parts of commands -/

/-- What a report can reach, and what can give one: pods, decoders, meters, store, watches, panes and grid are the same. -/
structure SameBlocks (s t : State) : Prop where
  pods     : t.pods = s.pods
  decoders : t.decoders = s.decoders
  meters   : t.meters = s.meters
  store    : t.store = s.store
  watch    : t.watch = s.watch
  panes    : t.display.panes = s.display.panes
  grid     : t.display.grid = s.display.grid

/-- A relation between states that the parts of commands keep; the store's requests, and those of watches and panes, aside. -/
structure Parts (R : State → State → Prop) : Prop where
  refl    : ∀ s, R s s
  trans   : ∀ s t u, R s t → R t u → R s u
  same    : ∀ s t, SameBlocks s t → R s t
  pod     : ∀ (p : Fin 4) (new : Pod) (s : State), R s (s.putPod p new)
  timer   : ∀ (p : Fin 4) (insertion : Option Nat) (s : State), R s { s with pods := s.pods.set p { s.pods[p] with insertion } }
  decoder : ∀ (d : Fin 6) (new : Decoder) (s : State), R s (s.putDecoder d new)
  meter   : ∀ (m : Fin 8) (new : Meter) (s : State), new.config = s.meters[m].config → R s (s.putMeter m new)
  config  : ∀ (m : Fin 8) (c : MeterConfig) (s : State), R s (s.putMeter m { config := c, state := .off, record := MeterRecord.cleared })
  apply   : ∀ (a : Application) (s : State), R s (s.apply a).1
  error   : ∀ (d : Fin 6) (a : Byte) (reason : AbortReason) (s : State), R s (s.errorReport d a reason)
  notices : ∀ (u : WatchUnit) (s : State), u.watches = s.watch.watches → u.freeze = s.watch.freeze → u.current = s.watch.current →
              R s (State.derive { s with watch := u })

/-- A command that is no reset, and no request of the store's records, of a watch or of a pane. -/
def isPlain : Instr → Bool
  | .fullReset _ | .devRestart | .tgtRead _ _ _ _ | .tgtDeclare _ _ _ | .tgtSetCell _ _ _ | .tgtExpect _ _ _ _ _ | .tgtDropCell _ _
  | .tgtPin _ _ | .tgtRetire _ _ | .wchSet _ _ _ _ _ | .wchClear _ | .ntcAckWatch _ | .paneSet _ _ _ _ _ _ _ _ _ _ | .paneClear _ _
  | .refreshTick _ => false
  | _ => true

namespace Parts
variable {R : State → State → Prop} (h : Parts R)
include h

theorem meters : MeterWrites R := ⟨h.refl, h.trans, h.meter⟩

theorem decoders (d : Fin 6) : DecoderClosed d R := ⟨h.refl, h.trans, h.decoder d, h.apply, h.error d, h.meters.cleanEndEvent d⟩

theorem followed {s t u : State} (k : R s t) (l : R t u) : R s u := h.trans s t u k l

theorem answered (st : Status) (payload : List Byte) (s : State) : R s (s.answered st payload) := h.same _ _ ⟨rfl, rfl, rfl, rfl, rfl, rfl, rfl⟩

theorem ok (s : State) : R s s.ok := h.answered _ _ s

theorem refuse (st : Status) (s : State) : R s (s.refuse st) := h.answered _ _ s

theorem advance (t : Nat) (s : State) : R s (s.advance t) := h.same _ _ ⟨rfl, rfl, rfl, rfl, rfl, rfl, rfl⟩

theorem deliver (channels : List (Fin 32)) (stamp : Nat) (order : List Taker) (s : State) : R s (s.deliver channels stamp order) := by
  refine fold_closed h.refl h.trans _ (fun t taker => ?_) _ s
  cases taker with
  | decoder d => exact (h.decoders d).decoderEdges channels stamp t
  | meter m => exact h.meters.meterEdges channels stamp m t

theorem podMoves (p : Fin 4) (new : Pod) (cause : DownCause) (s : State) : R s (s.podMoves p new cause) := by
  unfold State.podMoves
  dsimp only
  split
  · have dropped : R s ((s.putPod p new).dropCandidates p) := h.followed (h.pod p new s) (h.same _ _ ⟨rfl, rfl, rfl, rfl, rfl, rfl, rfl⟩)
    have told : R s (((s.putPod p new).dropCandidates p).decodersPodDown p cause) :=
      h.followed dropped (fold_closed h.refl h.trans _ (fun t d => (h.decoders d).decoderPodDown p cause t) _ _)
    exact h.followed told (h.meters.metersPodDown p _)
  · exact h.pod p new s

theorem podUp (p : Fin 4) (new : Pod) (s : State) : R s (s.podUp p new) := by
  have loaded : R s ((s.putPod p new).loadLevels p) := h.followed (h.pod p new s) (h.same _ _ ⟨rfl, rfl, rfl, rfl, rfl, rfl, rfl⟩)
  exact h.followed loaded (fold_closed h.refl h.trans _ (fun t d => (h.decoders d).decoderPodUp p t) _ _)

theorem raisePodChange (p : Fin 4) (s : State) : R s (s.raisePodChange p) := h.notices _ s rfl rfl rfl

theorem atExpiry (d : Fin 6) (n : Nat) (levels : List (Role × Bool)) (s : State) : R s (s.atExpiry d n levels) :=
  (h.decoders d).atExpiry h.advance n levels s

/-! The commands of pods. -/

theorem podSet (pod requested code : Byte) (widths : Vector Byte 8) (s : State) : R s (Machine.podSet pod requested code widths s) := by
  simp only [Machine.podSet]
  split
  · next p _ w _ _ _ =>
    split
    · exact h.refuse _ s
    · have wide : R s (s.setWidths p w) := h.same _ _ ⟨rfl, rfl, rfl, rfl, rfl, rfl, rfl⟩
      exact h.followed (h.followed wide (h.podMoves p _ _ _)) (h.ok _)
  · exact h.refuse _ s

theorem podGo (mask : Byte) (s : State) : R s (Machine.podGo mask s) := by
  have moved : R s ((namedPods mask).foldl State.podGoOne s) :=
    fold_closed h.refl h.trans State.podGoOne (fun t p => h.podMoves p _ .stop t) _ s
  simp only [Machine.podGo]
  split
  · exact h.refuse _ s
  · split
    · exact h.refuse _ s
    · split
      · exact h.refuse _ s
      · exact h.followed moved (h.answered _ _ _)

theorem insertionTimerStart (p : Fin 4) (s : State) : R s (Machine.insertionTimerStart p s) := by
  simp only [Machine.insertionTimerStart]
  split
  · exact h.followed (h.timer p _ s) (h.same _ _ ⟨rfl, rfl, rfl, rfl, rfl, rfl, rfl⟩)
  · exact h.refl s

theorem insertionTimerStop (p : Fin 4) (s : State) : R s (Machine.insertionTimerStop p s) := by
  simp only [Machine.insertionTimerStop]
  split
  · exact h.refl s
  · exact h.followed (h.timer p _ s) (h.same _ _ ⟨rfl, rfl, rfl, rfl, rfl, rfl, rfl⟩)

theorem insertion (p : Fin 4) (s : State) : R s (Machine.insertion p s) := by
  simp only [Machine.insertion]
  split
  · exact h.refl s
  · exact h.followed (h.followed (h.advance _ s) (h.pod p _ _)) (h.raisePodChange p _)

theorem removal (p : Fin 4) (s : State) : R s (Machine.removal p s) := by
  simp only [Machine.removal]
  split
  · exact h.refl s
  · have sensed : R s { s with pins := s.pins.setSense p false } := h.same _ _ ⟨rfl, rfl, rfl, rfl, rfl, rfl, rfl⟩
    exact h.followed (h.followed sensed (h.podMoves p _ _ _)) (h.raisePodChange p _)

theorem overcurrent (p : Fin 4) (s : State) : R s (Machine.overcurrent p s) := by
  simp only [Machine.overcurrent]
  split
  · exact h.podMoves p _ _ s
  · exact h.refl s

theorem rampingExpiry (p : Fin 4) (s : State) : R s (Machine.rampingExpiry p s) := by
  simp only [Machine.rampingExpiry]
  split
  · exact h.refl s
  · exact h.followed (h.advance _ s) (h.pod p _ _)

theorem settlingExpiry (p : Fin 4) (levels : BitVec 8) (s : State) : R s (Machine.settlingExpiry p levels s) := by
  simp only [Machine.settlingExpiry]
  split
  · exact h.refl s
  · next t _ =>
    have loaded : R s { s.advance t.endsAt with pins := s.pins.setPodLevels p levels } := h.same _ _ ⟨rfl, rfl, rfl, rfl, rfl, rfl, rfl⟩
    exact h.followed loaded (h.podUp p _ _)

theorem stoppingExpiry (p : Fin 4) (s : State) : R s (Machine.stoppingExpiry p s) := by
  simp only [Machine.stoppingExpiry]
  split
  · exact h.refl s
  · exact h.followed (h.advance _ s) (h.pod p _ _)

theorem clearMarks (l : List (Fin 4)) (s : State) : R s (l.foldl State.clearMark s) := by
  refine fold_closed h.refl h.trans State.clearMark (fun t p => ?_) l s
  unfold State.clearMark
  split
  · exact h.pod p _ t
  · exact h.refl t

/-! The commands of channels and decoders. -/

theorem acceptedEdge (channel : Fin 32) (also : List (Fin 32)) (stamp : Nat) (order : List Taker) (s : State) :
    R s (Machine.acceptedEdge channel also stamp order s) := by
  simp only [Machine.acceptedEdge]
  split
  · exact h.refl s
  · have accepted : ∀ (l : List (Fin 32)) (t : State), R t (l.foldl State.acceptChange t) :=
      fold_closed h.refl h.trans State.acceptChange fun t c => h.same _ _ ⟨rfl, rfl, rfl, rfl, rfl, rfl, rfl⟩
    exact h.followed (h.followed (h.advance stamp s) (accepted _ _)) (h.deliver _ _ _ _)

theorem twoWireIdleExpiry (d : Fin 6) (clock data : Bool) (s : State) : R s (Machine.twoWireIdleExpiry d clock data s) := by
  simp only [Machine.twoWireIdleExpiry]
  split
  · exact h.followed (h.atExpiry d _ _ s) ((h.decoders d).idleAt _ _)
  · exact h.refl s

theorem asyncIdleExpiry (d : Fin 6) (line : Bool) (s : State) : R s (Machine.asyncIdleExpiry d line s) := by
  simp only [Machine.asyncIdleExpiry]
  split
  · exact h.followed (h.atExpiry d _ _ s) ((h.decoders d).idleAt _ _)
  · exact h.refl s

theorem asyncSamplePoint (d : Fin 6) (line : Bool) (s : State) : R s (Machine.asyncSamplePoint d line s) := by
  simp only [Machine.asyncSamplePoint]
  split
  · exact h.refl s
  · split
    · exact h.followed (h.atExpiry d _ _ s) ((h.decoders d).takeSample _)
    · exact h.refl s

theorem characterJudged (d : Fin 6) (line : Bool) (s : State) : R s (Machine.characterJudged d line s) := by
  simp only [Machine.characterJudged]
  split
  · exact h.refl s
  · split
    · exact h.followed (h.atExpiry d _ _ s) ((h.decoders d).lastSample _)
    · exact h.refl s

theorem breakTimeout (d : Fin 6) (line : Bool) (s : State) : R s (Machine.breakTimeout d line s) := by
  simp only [Machine.breakTimeout]
  split
  · exact h.refl s
  · split
    · exact h.followed (h.atExpiry d _ _ s) ((h.decoders d).breakTest _ _)
    · exact h.refl s

theorem idleGapExpiry (d : Fin 6) (s : State) : R s (Machine.idleGapExpiry d s) := by
  simp only [Machine.idleGapExpiry]
  split
  · split
    · exact h.followed (h.advance _ s) ((h.decoders d).gapEnd _ _)
    · exact h.refl s
  · exact h.refl s

theorem decConfig (decoder profile learn : Byte) (bindings : List (Byte × Byte)) (params : List Byte) (s : State) :
    R s (Machine.decConfig decoder profile learn bindings params s) := by
  simp only [Machine.decConfig]
  split
  · exact h.refuse _ s
  · split
    · exact h.refuse _ s
    · split
      · split
        · exact h.followed (h.decoder _ _ s) (h.ok _)
        · exact h.refuse _ s
      · exact h.refuse _ s

theorem decStart (decoder : Byte) (s : State) : R s (Machine.decStart decoder s) := by
  simp only [Machine.decStart]
  split
  · exact h.refuse _ s
  · split
    · exact h.refuse _ s
    · split
      · exact h.ok s
      · split
        · exact h.followed (h.decoder _ _ s) (h.ok _)
        · exact h.followed (h.decoder _ _ s) (h.ok _)

theorem decStop (decoder : Byte) (s : State) : R s (Machine.decStop decoder s) := by
  simp only [Machine.decStop]
  split
  · exact h.refuse _ s
  · split
    · exact h.ok s
    · exact h.followed ((h.decoders _).abort _ _ _ s) (h.ok _)
    all_goals exact h.followed (h.decoder _ _ s) (h.ok _)

/-! The commands of meters. -/

theorem mtrConfig (meter : Byte) (b : MeterBytes) (s : State) : R s (Machine.mtrConfig meter b s) := by
  simp only [Machine.mtrConfig]
  split
  · exact h.refuse _ s
  · split
    · exact h.refuse _ s
    · split
      · exact h.refuse _ s
      · split
        · exact h.refuse _ s
        · split
          · exact h.refuse _ s
          · exact h.followed (h.config _ _ s) (h.ok _)

theorem mtrStart (meter : Byte) (s : State) : R s (Machine.mtrStart meter s) := by
  have arm : ∀ m, R s (s.setMeterState m (.armed none)).ok := fun m => h.followed (h.meters.setState m _ s) (h.ok _)
  simp only [Machine.mtrStart]
  split
  · exact h.refuse _ s
  · split
    · exact h.ok s
    · split
      · split
        · exact h.refuse _ s
        · exact arm _
      · exact h.followed (h.meters.openWindow _ _ s) (h.ok _)
      all_goals exact arm _

theorem mtrStop (meter : Byte) (s : State) : R s (Machine.mtrStop meter s) := by
  simp only [Machine.mtrStop]
  split
  · exact h.refuse _ s
  · split
    · exact h.ok s
    · split
      · exact h.followed (h.followed (h.meters.setState _ _ s) (h.meters.fold (h.meters.followerStop _) _ _)) (h.ok _)
      · exact h.followed (h.meters.setState _ _ s) (h.ok _)

theorem mtrClear (meter : Byte) (s : State) : R s (Machine.mtrClear meter s) := by
  simp only [Machine.mtrClear]
  split
  · exact h.refuse _ s
  · next m _ => exact h.followed (h.meter m { s.meters[m] with record := MeterRecord.cleared } s rfl) (h.ok _)

theorem overrange (m : Fin 8) (s : State) : R s (Machine.overrange m s) := by
  simp only [Machine.overrange]
  split
  · exact h.followed (h.advance _ s) (h.meters.result m _ _ _)
  · exact h.refl s

theorem windowExpiry (m : Fin 8) (order : List (Fin 8)) (s : State) : R s (Machine.windowExpiry m order s) := by
  simp only [Machine.windowExpiry]
  split
  · next openAt _ =>
    have ended := h.followed (h.advance (openAt + s.meters[m].config.windowLength) s) (h.meters.result m
      (.valid (BitVec.ofNat 32 s.meters[m].config.windowLength)) (.windowOpen (openAt + s.meters[m].config.windowLength)) _)
    exact h.followed ended (h.meters.fold (h.meters.followerEnd m _ _) _ _)
  · exact h.refl s

/-! The notices. -/

theorem ntcAckNotice (kind mask : Byte) (s : State) : R s (Machine.ntcAckNotice kind mask s) := by
  have cleared : ∀ u : WatchUnit, u.watches = s.watch.watches → u.freeze = s.watch.freeze → u.current = s.watch.current →
      R s (State.derive { s with watch := u }).ok := fun u watches freeze current =>
    h.followed (h.notices u s watches freeze current) (h.ok _)
  have podFault : R s (ackPodFault mask s) := by
    unfold ackPodFault
    split
    · exact h.followed (h.clearMarks _ s) (h.ok _)
    · exact h.refuse _ s
  simp only [Machine.ntcAckNotice, ackPodChange, ackPanelLost, ackStoreFull, ackCellsFull]
  split
  · split
    · exact h.refuse _ s
    · exact podFault
  · repeat' split
    all_goals first
      | exact h.refuse _ s
      | exact cleared _ rfl rfl rfl

theorem ntcLevels (attention freeze : Byte) (s : State) : R s (Machine.ntcLevels attention freeze s) := by
  simp only [Machine.ntcLevels]
  split
  · exact h.refuse _ s
  · exact h.followed (h.notices { s.watch with attention, freezeLevel := freeze } s rfl rfl rfl) (h.ok _)

theorem hold (on : Byte) (s : State) : R s (Machine.hold on s) := by
  simp only [Machine.hold]
  split
  · exact h.refuse _ s
  · next b _ =>
    split
    · exact h.ok s
    · exact h.followed (h.notices { s.watch with hold := b } s rfl rfl rfl) (h.ok _)

theorem waitExpiry (s : State) : R s (Machine.waitExpiry s) := by
  simp only [Machine.waitExpiry]
  split
  · next t _ _ =>
    have lost : R s { s.advance t with panel := { s.panel with link := .lost, wait := none } } := h.same _ _ ⟨rfl, rfl, rfl, rfl, rfl, rfl, rfl⟩
    exact h.followed lost (h.notices { s.watch with panelLost := true } _ rfl rfl rfl)
  · exact h.refl s

/-- Every plain command is made of these parts. -/
theorem plain {c : Instr} (k : isPlain c = true) (s : State) : R s (effect c s) := by
  cases c
  case podSet pod requested code widths => exact h.podSet pod requested code widths s
  case podGo mask => exact h.podGo mask s
  case insertionTimerStart p => exact h.insertionTimerStart p s
  case insertionTimerStop p => exact h.insertionTimerStop p s
  case insertion p => exact h.insertion p s
  case removal p => exact h.removal p s
  case overcurrent p => exact h.overcurrent p s
  case rampingExpiry p => exact h.rampingExpiry p s
  case settlingExpiry p levels => exact h.settlingExpiry p levels s
  case stoppingExpiry p => exact h.stoppingExpiry p s
  case acceptedEdge channel also stamp order => exact h.acceptedEdge channel also stamp order s
  case twoWireIdleExpiry d clock data => exact h.twoWireIdleExpiry d clock data s
  case asyncIdleExpiry d line => exact h.asyncIdleExpiry d line s
  case asyncSamplePoint d line => exact h.asyncSamplePoint d line s
  case characterJudged d line => exact h.characterJudged d line s
  case breakTimeout d line => exact h.breakTimeout d line s
  case idleGapExpiry d => exact h.idleGapExpiry d s
  case decConfig decoder profile learn bindings params => exact h.decConfig decoder profile learn bindings params s
  case decStart decoder => exact h.decStart decoder s
  case decStop decoder => exact h.decStop decoder s
  case mtrConfig meter config => exact h.mtrConfig meter config s
  case mtrStart meter => exact h.mtrStart meter s
  case mtrStop meter => exact h.mtrStop meter s
  case mtrClear meter => exact h.mtrClear meter s
  case overrange m => exact h.overrange m s
  case windowExpiry m order => exact h.windowExpiry m order s
  case ntcAckNotice kind mask => exact h.ntcAckNotice kind mask s
  case ntcLevels attention freeze => exact h.ntcLevels attention freeze s
  case hold on => exact h.hold on s
  case waitExpiry => exact h.waitExpiry s
  case devStatus later =>
    rw [effect, devStatus_eq]
    exact h.same _ _ ⟨rfl, rfl, rfl, rfl, rfl, rfl, rfl⟩
  case requestFrame | readFrame | answer | devIdent | podRead | filterCandidate | tgtFind | tgtList | decRead | mtrRead | wchRead | ntcRead | paneRead |
      dispInterval | dispRepaint | pnlEnable | pnlRestart | bklSet | lbusyLow | burstEnd | backlightPhaseExpiry | millisecondTick =>
    refine h.same _ _ ⟨?_, ?_, ?_, ?_, ?_, ?_, ?_⟩
    all_goals
      simp only [effect, requestFrame, readFrame, State.takeSelection, State.takeRead, answer, devIdent, podRead, filterCandidate,
        tgtFind, tgtList, decRead, mtrRead, wchRead, ntcRead, paneRead, dispInterval, dispRepaint, pnlEnable, pnlRestart, bklSet,
        lbusyLow, burstEnd, backlightPhaseExpiry, millisecondTick]
      repeat' split
      all_goals simp
  all_goals cases k

end Parts

end Sys2Proof.Machine
end

section
/-! Every step keeps the panes in the grid and apart, and every cell outside them blank (R158, R159): reports leave rectangles and grid alone, and a cell is written only where a pane is set, cleared or rendered. -/

namespace Sys2Proof.Machine

/-! ### Relations that see watches, panes and grid alone -/

/-- A relation between states that reports keep, and that sees neither the owners nor the store. -/
structure Blind (R : State → State → Prop) : Prop where
  refl     : ∀ s, R s s
  trans    : ∀ s t u, R s t → R t u → R s u
  write    : ∀ s t, t.watch.watches = s.watch.watches → t.display.panes = s.display.panes → t.display.grid = s.display.grid → R s t
  evaluate : ∀ (c : Subject → Bool) (s : State), R s (s.evaluate c)
  mark     : ∀ (c : PaneSubject → Bool) (s : State), R s (s.markPanes c)
  derive   : ∀ s : State, R s s.derive

namespace Blind
variable {R : State → State → Prop} (h : Blind R)
include h

theorem followed {s t u : State} (k : R s t) (l : R t u) : R s u := h.trans s t u k l

theorem store (st : Store) (s : State) : R s { s with store := st } := h.write _ _ rfl rfl rfl

theorem targetReport (x : Handle) (regs : List Byte) (fields : List TargetField) (s : State) : R s (s.targetReport x regs fields) :=
  h.followed (h.evaluate _ s) (h.mark _ _)

theorem notices (u : WatchUnit) (s : State) (e : u.watches = s.watch.watches) : R s (State.derive { s with watch := u }) :=
  h.followed (h.write s { s with watch := u } e rfl rfl) (h.derive _)

theorem pod (p : Fin 4) (new : Pod) (s : State) : R s (s.putPod p new) := by
  have put : R s { s with pods := s.pods.set p new } := h.write _ _ rfl rfl rfl
  unfold State.putPod
  dsimp only
  split
  · exact h.followed (h.followed (h.followed put (h.evaluate _ _)) (h.mark _ _)) (h.notices _ _ rfl)
  · exact put

theorem decoder (d : Fin 6) (new : Decoder) (s : State) : R s (s.putDecoder d new) := by
  have put : R s { s with decoders := s.decoders.set d new } := h.write _ _ rfl rfl rfl
  have told : ∀ (P Q : Prop) [Decidable P] [Decidable Q] (c : Subject → Bool) (k : PaneSubject → Bool), R s
      (if Q then (if P then State.evaluate c { s with decoders := s.decoders.set d new } else { s with decoders := s.decoders.set d new }).markPanes k
       else if P then State.evaluate c { s with decoders := s.decoders.set d new } else { s with decoders := s.decoders.set d new }) :=
    fun P Q _ _ c k => by
      have evaluated : R s (if P then State.evaluate c { s with decoders := s.decoders.set d new }
          else { s with decoders := s.decoders.set d new }) := by
        split
        · exact h.followed put (h.evaluate _ _)
        · exact put
      split
      · exact h.followed evaluated (h.mark _ _)
      · exact evaluated
  exact told _ _ _ _

theorem meter (m : Fin 8) (new : Meter) (s : State) : R s (s.putMeter m new) := by
  have put : R s { s with meters := s.meters.set m new } := h.write _ _ rfl rfl rfl
  unfold State.putMeter
  dsimp only
  split
  · exact put
  · refine h.followed (h.followed put ?_) (h.mark _ _)
    exact h.evaluate _ _

theorem applyTo (a : Application) (i : Fin 64) (r : Record) (s : State) : R s (s.applyTo a i r) := by
  have raised : ∀ st : Store, R s (State.raiseCellsFull { s with store := st }) := fun st =>
    h.followed (h.store st s) (h.notices { s.watch with cellsFull := true } { s with store := st } rfl)
  unfold State.applyTo
  dsimp only
  refine h.followed ?_ (h.targetReport _ _ _ _)
  split
  · exact raised _
  · exact h.store _ s

theorem applyNew (a : Application) (i : Fin 64) (s : State) : R s (s.applyNew a i) :=
  h.followed (h.store _ s) (h.applyTo a i _ _)

theorem withhold (a : Application) (s : State) : R s (s.withhold a) := by
  unfold State.withhold
  split
  · exact h.refl s
  · split
    · exact h.refl s
    · dsimp only
      split
      · exact h.store _ s
      · exact h.followed (h.store _ s) (h.mark _ _)

theorem apply (a : Application) (s : State) : R s (s.apply a).1 := by
  unfold State.apply
  split
  · exact h.withhold a s
  · split
    · split
      · exact h.applyTo a _ _ s
      · exact h.refl s
    · split
      · exact h.refl s
      · split
        · exact h.applyNew a _ s
        · split
          · exact h.followed (h.store _ s) (h.applyNew a _ _)
          · exact h.notices { s.watch with storeFull := true } s rfl

theorem error (d : Fin 6) (a : Byte) (reason : AbortReason) (s : State) : R s (s.errorReport d a reason) := by
  unfold State.errorReport
  split
  · exact h.refl s
  · split
    · exact h.refl s
    · split
      · exact h.refl s
      · dsimp only
        split
        · exact h.store _ s
        · exact h.followed (h.store _ s) (h.targetReport _ _ _ _)

theorem parts : Parts R where
  refl := h.refl
  trans := h.trans
  same _ _ e := h.write _ _ (congrArg WatchUnit.watches e.watch) e.panes e.grid
  pod := h.pod
  timer _ _ _ := h.write _ _ rfl rfl rfl
  decoder := h.decoder
  meter m new s _ := h.meter m new s
  config m _ s := h.meter m _ s
  apply := h.apply
  error := h.error
  notices u s e _ _ := h.notices u s e

/-! The requests of the store, but for retirement. -/

theorem withRecord {x : Handle} {b : Bool} {act : Fin 64 → Record → State → State} {s : State} (each : ∀ i r, R s (act i r s)) :
    R s (s.withRecord x b act) := by
  unfold State.withRecord
  split
  · exact h.parts.refuse _ s
  · split
    · exact h.parts.refuse _ s
    · exact each _ _

theorem putCells (i : Fin 64) (r : Record) (cells : List TargetCell) (free : Nat) (x : Handle) (regs : List Byte) (s : State) :
    R s ((s.putCells i r cells free).targetReport x regs []).ok := by
  have put : R s (s.putCells i r cells free) := h.store _ s
  exact h.followed (h.followed put (h.targetReport x regs [] _)) (h.parts.ok _)

theorem tgtRead (x : Handle) (first max clear : Byte) (s : State) : R s (Machine.tgtRead x first max clear s) := by
  refine h.withRecord fun i r => ?_
  have answered : ∀ payload, R s (s.answered .ok payload) := fun _ => h.parts.answered _ _ s
  dsimp only
  split
  · split
    · exact h.followed (h.followed (answered _) (h.store _ _)) (h.mark _ _)
    · exact h.followed (answered _) (h.store _ _)
  · exact answered _

theorem tgtDeclare (decoder address pinned : Byte) (s : State) : R s (Machine.tgtDeclare decoder address pinned s) := by
  unfold Machine.tgtDeclare
  split
  · split
    · exact h.parts.answered _ _ s
    · split
      · exact h.parts.refuse _ s
      · exact h.write _ _ rfl rfl rfl
  · exact h.parts.refuse _ s

theorem tgtSetCell (x : Handle) (register value : Byte) (s : State) : R s (Machine.tgtSetCell x register value s) := by
  refine h.withRecord fun i r => ?_
  split
  · dsimp only
    split
    · exact h.write _ _ rfl rfl rfl
    · exact h.putCells _ _ _ _ _ _ s
  · split
    · exact h.putCells _ _ _ _ _ _ s
    · exact h.parts.refuse _ s

theorem tgtExpect (x : Handle) (register operation value mask : Byte) (s : State) :
    R s (Machine.tgtExpect x register operation value mask s) := by
  refine h.withRecord fun i r => ?_
  split
  · unfold expectSet
    split
    · exact h.putCells _ _ _ _ _ _ s
    · split
      · exact h.putCells _ _ _ _ _ _ s
      · exact h.parts.refuse _ s
  · unfold expectClear
    split
    · exact h.parts.refuse _ s
    · split
      · exact h.parts.refuse _ s
      · split
        · exact h.putCells _ _ _ _ _ _ s
        · exact h.putCells _ _ _ _ _ _ s

theorem tgtDropCell (x : Handle) (register : Byte) (s : State) : R s (Machine.tgtDropCell x register s) := by
  refine h.withRecord fun i r => ?_
  split
  · exact h.parts.refuse _ s
  · exact h.putCells _ _ _ _ _ _ s

theorem tgtPin (x : Handle) (on : Byte) (s : State) : R s (Machine.tgtPin x on s) :=
  h.withRecord fun _ _ => h.write _ _ rfl rfl rfl

end Blind

/-! ### The layout of the screen -/

/-- The grid, the rectangles and which panes are FREE are the same. -/
structure SameLayout (s t : State) : Prop where
  grid : t.display.grid = s.display.grid
  rect : ∀ i : Fin 16, t.display.panes[i].rect = s.display.panes[i].rect
  free : ∀ i : Fin 16, t.display.panes[i].state = .free ↔ s.display.panes[i].state = .free

namespace SameLayout

theorem of_same {s t : State} (panes : t.display.panes = s.display.panes) (grid : t.display.grid = s.display.grid) : SameLayout s t :=
  ⟨grid, fun i => by rw [panes], fun i => by rw [panes]⟩

theorem trans {s t u : State} (h : SameLayout s t) (k : SameLayout t u) : SameLayout s u :=
  ⟨k.grid.trans h.grid, fun i => (k.rect i).trans (h.rect i), fun i => (k.free i).trans (h.free i)⟩

theorem of_upTo {s t : State} (h : UpToReports s t) : SameLayout s t :=
  ⟨h.grid, fun i => (h.panes i).rect, fun i => by rw [(h.panes i).state]⟩

end SameLayout

theorem sameLayout_blind : Blind SameLayout where
  refl _ := .of_same rfl rfl
  trans _ _ _ := .trans
  write _ _ _ := .of_same
  evaluate c s := .of_upTo (s.evaluate_upTo c)
  mark c s := .of_upTo (s.markPanes_upTo c)
  derive s := .of_upTo s.derive_upTo

theorem State.setWatches_layout (ws : Vector Watch 32) (s : State) : SameLayout s (s.setWatches ws) :=
  SameLayout.trans (t := { s with watch := { s.watch with watches := ws } }) (.of_same rfl rfl) (.of_upTo (s.setWatches_upTo ws))

/-- A retirement notice orphans panes where they are. -/
theorem State.retireNotice_layout (h : Handle) (s : State) : SameLayout s (s.retireNotice h) := by
  have orphaned : SameLayout s (s.withPanes (tab fun i => s.display.panes[i].orphan h)) := by
    refine ⟨rfl, fun i => ?_, fun i => ?_⟩
    · show (tab fun i : Fin 16 => s.display.panes[i].orphan h)[i].rect = _
      rw [tab_get]
      unfold Pane.orphan
      split <;> rfl
    · show (tab fun i : Fin 16 => s.display.panes[i].orphan h)[i].state = _ ↔ _
      rw [tab_get]
      unfold Pane.orphan
      split
      · next live => exact ⟨nofun, fun free => by cases live.1.symm.trans free⟩
      · exact Iff.rfl
  unfold State.retireNotice
  dsimp only
  split
  · exact (orphaned.trans (State.setWatches_layout _ _)).trans (.of_upTo (State.deriveHighlights_upTo _))
  · exact orphaned.trans (State.setWatches_layout _ _)

/-! ### Rectangles -/

theorem Rect.meets_comm (a b : Rect) : a.meets b = b.meets a := by
  unfold Rect.meets
  rw [Bool.eq_iff_iff]
  simp only [Bool.and_eq_true, decide_eq_true_eq]
  omega

theorem rect?_inGrid {row col width height : Byte} {r : Rect} (h : rect? row col width height = some r) : r.InGrid := by
  unfold rect? at h
  split at h
  · next limits =>
    cases h
    obtain ⟨_, _, wide, _, high, _, rows, cols⟩ := limits
    exact ⟨wide, high, cols, rows⟩
  · cases h

theorem writeRect_get (r : Rect) (cells : Nat → Nat → GridCell) (grid : Vector GridRow 16) (i : Fin 16) (j : Fin 40) :
    (writeRect r cells grid)[i][j] = if r.covers i j then cells (i - r.row) (j - r.col) else grid[i][j] := by
  unfold writeRect
  rw [tab_get, tab_get]

/-! ### Panes and grid -/

theorem State.vacateRect_panes (p : Pane) (s : State) : (s.vacateRect p).display.panes = s.display.panes := by
  unfold State.vacateRect
  split <;> rfl

theorem State.vacateRect_grid (p : Pane) {s t : State} (e : t.display = s.display) :
    (t.vacateRect p).display.grid = (s.vacateRect p).display.grid := by
  unfold State.vacateRect
  split
  · rw [e]
  · show writeRect p.rect (fun _ _ => GridCell.blank) t.display.grid = writeRect p.rect (fun _ _ => GridCell.blank) s.display.grid
    rw [e]

theorem DisplayOk.of_layout {s t : State} (h : DisplayOk s) (e : SameLayout s t) : DisplayOk t where
  inGrid i := e.rect i ▸ h.inGrid i
  apart i j other used used' := by
    rw [e.rect i, e.rect j]
    exact h.apart i j other (fun k => used ((e.free i).mpr k)) (fun k => used' ((e.free j).mpr k))
  blank row col out := by
    rw [e.grid]
    refine h.blank row col fun i used => ?_
    rw [← e.rect i]
    exact out i fun k => used ((e.free i).mp k)

/-- The cells of a pane that is not FREE are written. -/
theorem DisplayOk.write {s : State} (h : DisplayOk s) {i : Fin 16} (used : s.display.panes[i].state ≠ .free)
    (cells : Nat → Nat → GridCell) : DisplayOk (s.write s.display.panes[i].rect cells) where
  inGrid := h.inGrid
  apart := h.apart
  blank row col out := by
    show (writeRect _ _ _)[row][col] = _
    have clear : s.display.panes[i].rect.covers row col = false := out i used
    rw [writeRect_get, if_neg (by rw [clear]; decide)]
    exact h.blank row col out

theorem DisplayOk.renderPane {s : State} (h : DisplayOk s) (i : Fin 16) : DisplayOk (s.renderPane i) := by
  unfold State.renderPane
  dsimp only
  split
  · next waits =>
    have used : s.display.panes[i].state ≠ .free := by
      simp only [Pane.waits, Bool.and_eq_true, bne_iff_ne] at waits
      exact waits.2
    refine (h.write used (s.display.panes[i].cellAt (s.content s.display.panes[i]))).of_layout ⟨rfl, fun j => ?_, fun j => ?_⟩
    · show (s.display.panes.set i _)[j].rect = s.display.panes[j].rect
      rw [vset_get]
      split
      · next e => rw [e]
      · rfl
    · show (s.display.panes.set i _)[j].state = _ ↔ s.display.panes[j].state = _
      rw [vset_get]
      split
      · next e => rw [e]
      · exact Iff.rfl
  · exact h

theorem DisplayOk.render {s : State} (h : DisplayOk s) : DisplayOk s.render :=
  foldl_inv DisplayOk State.renderPane (fun _ i k => k.renderPane i) _ _ (h.of_layout (.of_upTo s.deriveHighlights_upTo))

/-- A cell in no pane but `i` is blank once the rectangle of `i` is vacated (R162, R163). -/
theorem DisplayOk.vacated {s : State} (h : DisplayOk s) (i : Fin 16) (row : Fin 16) (col : Fin 40)
    (out : ∀ j : Fin 16, j ≠ i → s.display.panes[j].state ≠ .free → s.display.panes[j].rect.covers row col = false) :
    (s.vacateRect s.display.panes[i]).display.grid[row][col] = GridCell.blank := by
  have blank : (s.display.panes[i].state = .free ∨ s.display.panes[i].rect.covers row col = false) →
      s.display.grid[row][col] = GridCell.blank := fun own => by
    refine h.blank row col fun j used => ?_
    by_cases e : j = i
    · exact own.resolve_left (e ▸ used) |> fun k => e ▸ k
    · exact out j e used
  unfold State.vacateRect
  split
  · next free => exact blank (.inl free)
  · show (writeRect _ _ _)[row][col] = _
    rw [writeRect_get]
    split
    · rfl
    · next clear => exact blank (.inr (by simpa using clear))

/-- A vacated pane is replaced by one that is FREE, or that meets no other. -/
theorem DisplayOk.replacePane {s t : State} (h : DisplayOk s) (i : Fin 16) {new : Pane}
    (panes : t.display.panes = s.display.panes.set i new) (grid : t.display.grid = (s.vacateRect s.display.panes[i]).display.grid)
    (inGrid : new.rect.InGrid)
    (apart : new.state ≠ .free → ∀ j : Fin 16, j ≠ i → s.display.panes[j].state ≠ .free → s.display.panes[j].rect.meets new.rect = false) :
    DisplayOk t where
  inGrid j := by
    rw [panes, vset_get]
    split
    · exact inGrid
    · exact h.inGrid j
  apart j k other := by
    rw [panes, vset_get, vset_get]
    split
    · next ej =>
      rw [if_neg (fun ek => other (ej.symm.trans ek))]
      intro used used'
      rw [Rect.meets_comm]
      exact apart used k (fun e => other (ej.symm.trans e.symm)) used'
    · next ej =>
      split
      · exact fun used used' => apart used' j (Ne.symm ej) used
      · exact h.apart j k other
  blank row col out := by
    rw [grid]
    refine h.vacated i row col fun j other used => ?_
    have out := out j
    rw [panes, vset_other _ _ (Ne.symm other)] at out
    exact out used

/-- A pane is set in its place once its rectangle is vacated. -/
theorem DisplayOk.setVacated {s u : State} (h : DisplayOk s) (i : Fin 16) (e : u.display = s.display) {new : Pane}
    (inGrid : new.rect.InGrid)
    (apart : new.state ≠ .free → ∀ j : Fin 16, j ≠ i → s.display.panes[j].state ≠ .free → s.display.panes[j].rect.meets new.rect = false) :
    DisplayOk ((u.vacateRect s.display.panes[i]).setPane i new) := by
  refine h.replacePane i (new := new) ?_ (State.vacateRect_grid _ e) inGrid apart
  show (u.vacateRect _).display.panes.set i new = _
  rw [State.vacateRect_panes, e]

theorem paneSet_displayOk {s : State} (h : DisplayOk s) (pane row col width height kind : Byte) (names : NameBytes) (format : Byte)
    (label : List Byte) (lbusy : Bool) : DisplayOk (paneSet pane row col width height kind names format label lbusy s) := by
  have refused : ∀ st, DisplayOk (s.refuse st) := fun _ => h.of_layout (.of_same rfl rfl)
  simp only [paneSet]
  split
  · exact refused _
  · next i _ =>
    split
    · exact refused _
    · next sub f _ =>
      split
      · exact refused _
      · next r hr =>
        split
        · exact refused _
        · next apart =>
          split
          · exact refused _
          · have bound : ((s.bind? sub.handle?).unbind? s.display.panes[i].holds).display = s.display := by
              rw [State.unbindOpt_display, State.bindOpt_display]
            refine DisplayOk.of_layout (h.setVacated i bound (new := Pane.of r sub f label _) (rect?_inGrid hr) fun _ j other used => ?_)
              (.of_same (congrArg Display.panes (State.panelTest_display _ _)) (congrArg Display.grid (State.panelTest_display _ _)))
            simp only [State.overlaps, Bool.not_eq_true, List.any_eq_false, Bool.and_eq_true, bne_iff_ne, not_and] at apart
            exact apart j (List.mem_finRange j) ⟨other, used⟩

theorem paneClear_displayOk {s : State} (h : DisplayOk s) (pane : Byte) (lbusy : Bool) : DisplayOk (paneClear pane lbusy s) := by
  simp only [paneClear]
  split
  · exact h.of_layout (.of_same rfl rfl)
  · next i _ =>
    exact DisplayOk.of_layout (h.setVacated i (State.unbindOpt_display _ _) (new := Pane.reset)
      ⟨by decide, by decide, by decide, by decide⟩ fun used => absurd rfl used)
      (.of_same (congrArg Display.panes (State.panelTest_display _ _)) (congrArg Display.grid (State.panelTest_display _ _)))

theorem refreshTick_displayOk {s : State} (h : DisplayOk s) (lbusy : Bool) : DisplayOk (refreshTick lbusy s) := by
  have after : ∀ u : State, DisplayOk u → DisplayOk (u.nextInterval.panelTest lbusy) := fun u k => by
    have later : DisplayOk u.nextInterval := k.of_layout (.of_same rfl rfl)
    have same := State.panelTest_display lbusy u.nextInterval
    exact later.of_layout (.of_same (congrArg Display.panes same) (congrArg Display.grid same))
  unfold refreshTick
  split
  · exact after _ h.render
  · exact h

theorem DisplayOk.reset {s : State} (panes : s.display.panes = Vector.replicate 16 Pane.reset) (grid : s.display.grid = blankGrid) :
    DisplayOk s := by
  have pane : ∀ i : Fin 16, s.display.panes[i] = Pane.reset := fun i => by rw [panes]; exact replicate_get 16 _ i
  refine ⟨fun i => ?_, fun i j _ used => ?_, fun row col _ => ?_⟩
  · rw [pane]
    exact ⟨by decide, by decide, by decide, by decide⟩
  · rw [pane] at used
    exact absurd rfl used
  · rw [grid]
    simp [blankGrid]

theorem effect_displayOk (c : Instr) {s : State} (h : DisplayOk s) : DisplayOk (effect c s) := by
  have blind := sameLayout_blind
  by_cases plain : isPlain c = true
  · exact h.of_layout (blind.parts.plain plain s)
  cases c
  case fullReset sense => exact DisplayOk.reset rfl rfl
  case devRestart => exact DisplayOk.reset rfl rfl
  case tgtRead x first max clear => exact h.of_layout (blind.tgtRead x first max clear s)
  case tgtDeclare decoder address pinned => exact h.of_layout (blind.tgtDeclare decoder address pinned s)
  case tgtSetCell x register value => exact h.of_layout (blind.tgtSetCell x register value s)
  case tgtExpect x register operation value mask => exact h.of_layout (blind.tgtExpect x register operation value mask s)
  case tgtDropCell x register => exact h.of_layout (blind.tgtDropCell x register s)
  case tgtPin x on => exact h.of_layout (blind.tgtPin x on s)
  case tgtRetire x force =>
    simp only [effect, tgtRetire]
    refine h.of_layout (blind.withRecord fun i r => ?_)
    split
    · exact .of_same rfl rfl
    · exact (s.retireNotice_layout _).trans (.of_same rfl rfl)
  case wchSet watch sub cond level actions =>
    refine h.of_layout ?_
    simp only [effect, wchSet]
    repeat' split
    · exact .of_same rfl rfl
    · exact .of_same rfl rfl
    · exact .of_same rfl rfl
    · exact (SameLayout.of_same (by simp) (by simp)).trans ((State.setWatches_layout _ _).trans (.of_same rfl rfl))
  case wchClear watch =>
    refine h.of_layout ?_
    simp only [effect, wchClear]
    repeat' split
    · exact .of_same rfl rfl
    · exact .of_same rfl rfl
    · exact (SameLayout.of_same (by simp) (by simp)).trans ((State.setWatches_layout _ _).trans (.of_same rfl rfl))
  case ntcAckWatch watch =>
    refine h.of_layout ?_
    simp only [effect, ntcAckWatch]
    repeat' split
    · exact .of_same rfl rfl
    · exact .of_same rfl rfl
    · exact (State.setWatches_layout _ _).trans (.of_same rfl rfl)
  case paneSet pane row col width height kind names format label lbusy =>
    exact paneSet_displayOk h pane row col width height kind names format label lbusy
  case paneClear pane lbusy => exact paneClear_displayOk h pane lbusy
  case refreshTick lbusy => exact refreshTick_displayOk h lbusy
  all_goals exact absurd rfl plain

/-- Settles O58: what every command keeps, every step keeps; the samples of the filters leave the screen alone. -/
theorem stepKeepsDisplay : Obligations.StepKeepsDisplay := fun _ _ hs h =>
  step_keeps (P := DisplayOk) (fun _ _ k => k.of_layout (.of_same rfl rfl)) (fun c _ k _ => effect_displayOk c k)
    (fun _ _ k _ => k.of_layout (.of_same rfl rfl)) h hs

end Sys2Proof.Machine
end

section
/-! Every step keeps the store in order, and the references (R25, R26, R39, R40, R53): what the store's operations make of slots and counts of holders, and then every command. -/

namespace Sys2Proof.Machine

/-! ### The store alone -/

/-- The store in order: cells, pool and keys. -/
structure Store.Ok (st : Store) : Prop where
  cells : ∀ (i : Fin 64) (r : Record), st.slots[i].record = some r → r.CellsOk
  pool  : st.free + st.cellsHeld = Config.poolCells
  keys  : ∀ (i j : Fin 64) (a b : Record), st.slots[i].record = some a → st.slots[j].record = some b →
            a.decoder = b.decoder → a.address = b.address → i = j

/-- The references of the records against a count of the holders of each handle. -/
structure Store.RefsOk (st : Store) (holders : Handle → Nat) : Prop where
  count : ∀ (i : Fin 64) (r : Record), st.slots[i].record = some r → r.references = holders (st.handle i)
  reach : ∀ h : Handle, holders h ≠ 0 → (st.reach h).isSome = true

theorem storeOk_iff {s : State} : StoreOk s ↔ s.store.Ok := ⟨fun h => ⟨h.cells, h.pool, h.keys⟩, fun h => ⟨h.cells, h.pool, h.keys⟩⟩

theorem holders_ne_zero {s : State} {h : Handle} :
    s.holders h ≠ 0 ↔ (∃ i : Fin 32, s.watch.watches[i].holds = some h) ∨ ∃ i : Fin 16, s.display.panes[i].holds = some h := by
  unfold State.holders
  rw [← Nat.pos_iff_ne_zero, Nat.add_pos_iff_pos_or_pos, List.countP_pos_iff, List.countP_pos_iff]
  simp

theorem referencesOk_iff {s : State} : ReferencesOk s ↔ s.store.RefsOk s.holders := by
  constructor
  · intro h
    refine ⟨h.count, fun x held => ?_⟩
    obtain ⟨i, e⟩ | ⟨i, e⟩ := holders_ne_zero.mp held
    · exact h.watches i x e
    · exact h.panes i x e
  · intro h
    exact ⟨h.count, fun i x e => h.reach x (holders_ne_zero.mpr (.inl ⟨i, e⟩)), fun i x e => h.reach x (holders_ne_zero.mpr (.inr ⟨i, e⟩))⟩

/-! ### Handles -/

theorem byte_toNat_slot (i : Fin 64) : (byte i).toNat = i.val := by
  simp [byte]
  omega

/-- A handle that reaches slot `i` is the slot's own. -/
theorem Store.handle_of_reach {st : Store} {h : Handle} {i : Fin 64} {r : Record} (e : st.reach h = some (i, r)) : st.handle i = h := by
  obtain ⟨slot, _, gen⟩ := Store.reach_some.mp e
  have same : byte i = h.slot := BitVec.eq_of_toNat_eq ((byte_toNat_slot i).trans slot.symm)
  unfold Store.handle
  rw [same, gen]

theorem Store.reach_handle {st : Store} {i : Fin 64} {r : Record} (e : st.slots[i].record = some r) :
    st.reach (st.handle i) = some (i, r) := Store.reach_some.mpr ⟨byte_toNat_slot i, e, rfl⟩

/-- Handles stay current while generations stay and no slot becomes FREE. -/
theorem Store.reach_isSome_of {st st' : Store} {h : Handle} (k : (st.reach h).isSome = true)
    (stays : ∀ i : Fin 64, st.handle i = h → st'.slots[i].gen = st.slots[i].gen ∧
      (st.slots[i].record.isSome = true → st'.slots[i].record.isSome = true)) : (st'.reach h).isSome = true := by
  obtain ⟨⟨i, r⟩, e⟩ := Option.isSome_iff_exists.mp k
  obtain ⟨slot, record, gen⟩ := Store.reach_some.mp e
  obtain ⟨same, live⟩ := stays i (Store.handle_of_reach e)
  obtain ⟨r', record'⟩ := Option.isSome_iff_exists.mp (live (by rw [record]; rfl))
  rw [Store.reach_some.mpr ⟨slot, record', same.trans gen⟩]
  rfl

/-! ### The cells of all slots -/

theorem Store.cellsHeld_eq_sum (st : Store) : st.cellsHeld = ∑ i : Fin 64, st.slots[i].cellCount := by
  unfold Store.cellsHeld
  rw [Fin.sum_univ_def]

/-- One slot changes. -/
theorem Store.cellsHeld_set (st : Store) (i : Fin 64) (x : Slot) (free : Nat) :
    ({ slots := st.slots.set i x, free } : Store).cellsHeld + st.slots[i].cellCount = st.cellsHeld + x.cellCount := by
  rw [Store.cellsHeld_eq_sum, Store.cellsHeld_eq_sum, ← Finset.add_sum_erase _ _ (Finset.mem_univ i),
    ← Finset.add_sum_erase Finset.univ (fun i : Fin 64 => st.slots[i].cellCount) (Finset.mem_univ i)]
  have others : ∑ j ∈ Finset.univ.erase i, (st.slots.set i x)[j].cellCount = ∑ j ∈ Finset.univ.erase i, st.slots[j].cellCount :=
    Finset.sum_congr rfl fun j hj => by rw [vset_other _ _ (Finset.ne_of_mem_erase hj).symm]
  have own : (st.slots.set i x)[i].cellCount = x.cellCount := by rw [vset_same]
  show (st.slots.set i x)[i].cellCount + ∑ j ∈ Finset.univ.erase i, (st.slots.set i x)[j].cellCount + _ = _
  rw [others, own]
  omega

/-- What a slot comes to hold fits the store. -/
theorem Store.Ok.replace {st : Store} (h : st.Ok) (i : Fin 64) {x : Slot} {free : Nat} (cells : ∀ r, x.record = some r → r.CellsOk)
    (pool : free + x.cellCount = st.free + st.slots[i].cellCount)
    (key : ∀ r, x.record = some r → ∀ (j : Fin 64) (b : Record), j ≠ i → st.slots[j].record = some b →
      ¬ (r.decoder = b.decoder ∧ r.address = b.address)) : ({ slots := st.slots.set i x, free } : Store).Ok where
  cells j r e := by
    dsimp only at e
    rw [vset_get] at e
    split at e
    · exact cells r e
    · exact h.cells j r e
  pool := by
    have := Store.cellsHeld_set st i x free
    have := h.pool
    show free + ({ slots := st.slots.set i x, free } : Store).cellsHeld = Config.poolCells
    omega
  keys j k a b ej ek d ad := by
    dsimp only at ej ek
    rw [vset_get] at ej ek
    split at ej
    · next ij =>
      split at ek
      · next ik => exact ij.symm.trans ik
      · next ik => exact absurd ⟨d, ad⟩ (key a ej k b (Ne.symm ik) ek)
    · next ij =>
      split at ek
      · next ik => exact absurd ⟨d.symm, ad.symm⟩ (key b ek j a (Ne.symm ij) ej)
      · exact h.keys j k a b ej ek d ad

theorem Slot.cellCount_some {x : Slot} {r : Record} (h : x.record = some r) : x.cellCount = r.cells.length := by
  unfold Slot.cellCount
  rw [h]

/-! ### What keeps the store, and the references -/

/-- The store in order stays so, and the references agree with the same holders. -/
structure Store.Keeps (st st' : Store) : Prop where
  ok   : st.Ok → st'.Ok
  refs : ∀ holders, st.RefsOk holders → st'.RefsOk holders

namespace Store.Keeps

theorem refl (st : Store) : st.Keeps st := ⟨id, fun _ => id⟩

theorem trans {st st' st'' : Store} (h : st.Keeps st') (k : st'.Keeps st'') : st.Keeps st'' :=
  ⟨k.ok ∘ h.ok, fun c => k.refs c ∘ h.refs c⟩

/-- A record changes, but for its key and its references. -/
theorem record {st : Store} {i : Fin 64} {r r' : Record} (h : st.slots[i].record = some r) {free : Nat}
    (key : r'.decoder = r.decoder ∧ r'.address = r.address) (references : r'.references = r.references)
    (cells : r.CellsOk → r'.CellsOk ∧ free + r'.cells.length = st.free + r.cells.length) :
    st.Keeps { st.setRecord i r' with free } where
  ok k := by
    obtain ⟨ok, pool⟩ := cells (k.cells i r h)
    refine k.replace i (x := { st.slots[i] with record := some r' }) (fun a e => by cases e; exact ok) ?_ fun a e j b other eb => ?_
    · rw [Slot.cellCount_some rfl, Slot.cellCount_some h]
      exact pool
    · cases e
      rw [key.1, key.2]
      exact fun same => other (k.keys i j r b h eb same.1 same.2).symm
  refs c k := by
    have gen : ∀ j : Fin 64, (st.slots.set i { st.slots[i] with record := some r' })[j].gen = st.slots[j].gen := fun j => by
      rw [vset_get]
      split
      · next e => rw [e]
      · rfl
    have handle : ∀ j : Fin 64, ({ st.setRecord i r' with free } : Store).handle j = st.handle j := fun j => by
      unfold Store.handle Store.setRecord
      dsimp only
      rw [gen]
    refine ⟨fun j a e => ?_, fun x held => Store.reach_isSome_of (k.reach x held) fun j _ => ⟨gen j, fun live => ?_⟩⟩
    · rw [handle]
      have e : (st.slots.set i { st.slots[i] with record := some r' })[j].record = some a := e
      rw [vset_get] at e
      split at e
      · next ij =>
        cases e
        rw [references, ← ij]
        exact k.count i r h
      · exact k.count j a e
    · show ((st.slots.set i { st.slots[i] with record := some r' })[j].record).isSome = true
      rw [vset_get]
      split
      · rfl
      · exact live

/-- A record changes, and its cells stay as they are but for what they hold. -/
theorem setRecord {st : Store} {i : Fin 64} {r r' : Record} (h : st.slots[i].record = some r)
    (key : r'.decoder = r.decoder ∧ r'.address = r.address) (references : r'.references = r.references)
    (cells : r.CellsOk → r'.CellsOk ∧ r'.cells.length = r.cells.length) : st.Keeps (st.setRecord i r') :=
  record (free := st.free) h key references fun k => ⟨(cells k).1, by rw [(cells k).2]⟩

/-- A FREE slot takes a record that nobody refers to, of a new key and without cells. -/
theorem fresh {st : Store} {i : Fin 64} {r : Record} (free : st.slots[i].record = none) (newKey : st.find r.decoder r.address = none)
    (cells : r.cells = []) (references : r.references = 0) : st.Keeps (st.setRecord i r) where
  ok k := by
    refine k.replace i (x := { st.slots[i] with record := some r }) (fun a e => ?_) ?_ fun a e j b _ eb same => ?_
    · cases e
      exact ⟨by rw [cells]; decide, by rw [cells]; exact List.Pairwise.nil⟩
    · rw [Slot.cellCount_some rfl, cells]
      unfold Slot.cellCount
      rw [free]
      rfl
    · cases e
      exact Store.find_none.mp newKey j b eb ⟨same.1.symm, same.2.symm⟩
  refs c k := by
    have gen : ∀ j : Fin 64, (st.slots.set i { st.slots[i] with record := some r })[j].gen = st.slots[j].gen := fun j => by
      rw [vset_get]
      split
      · next e => rw [e]
      · rfl
    have handle : ∀ j : Fin 64, (st.setRecord i r).handle j = st.handle j := fun j => by
      unfold Store.handle Store.setRecord
      dsimp only
      rw [gen]
    refine ⟨fun j a e => ?_, fun x held => Store.reach_isSome_of (k.reach x held) fun j _ => ⟨gen j, fun live => ?_⟩⟩
    · rw [handle]
      have e : (st.slots.set i { st.slots[i] with record := some r })[j].record = some a := e
      rw [vset_get] at e
      split at e
      · next ij =>
        cases e
        rw [references]
        by_contra held
        obtain ⟨⟨l, b⟩, reaches⟩ := Option.isSome_iff_exists.mp (k.reach _ (Ne.symm held))
        obtain ⟨slot, record, _⟩ := Store.reach_some.mp reaches
        have same : l = j := Fin.ext (slot.symm.trans (byte_toNat_slot j))
        rw [same, ← ij, free] at record
        cases record
      · exact k.count j a e
    · show ((st.slots.set i { st.slots[i] with record := some r })[j].record).isSome = true
      rw [vset_get]
      split
      · rfl
      · exact live

end Store.Keeps

/-- A slot without record. -/
theorem Store.vacate_free {st : Store} {i : Fin 64} (h : st.slots[i].record = none) : st.vacate i = st := by
  unfold Store.vacate
  rw [h]

theorem Store.vacate_eq {st : Store} {i : Fin 64} {r : Record} (h : st.slots[i].record = some r) :
    st.vacate i = { slots := st.slots.set i { gen := st.slots[i].gen + 1, record := none }, free := st.free + r.cells.length } := by
  unfold Store.vacate
  rw [h]

theorem Store.Ok.vacate {st : Store} (h : st.Ok) (i : Fin 64) : (st.vacate i).Ok := by
  cases e : st.slots[i].record with
  | none => rw [Store.vacate_free e]; exact h
  | some r =>
    rw [Store.vacate_eq e]
    refine h.replace i nofun ?_ nofun
    rw [Slot.cellCount_some e]
    rfl

/-- A slot is vacated that nobody holds any more. -/
theorem Store.RefsOk.vacate {st : Store} {before after : Handle → Nat} (h : st.RefsOk before) (i : Fin 64)
    (gone : after (st.handle i) = 0) (others : ∀ x, x ≠ st.handle i → after x = before x) : (st.vacate i).RefsOk after := by
  have held : ∀ x, after x ≠ 0 → x ≠ st.handle i ∧ (st.reach x).isSome = true := fun x hx => by
    have other : x ≠ st.handle i := fun e => hx (e ▸ gone)
    exact ⟨other, h.reach x (others x other ▸ hx)⟩
  have apart : ∀ j : Fin 64, j ≠ i → st.handle j ≠ st.handle i := fun j ji e => ji (Fin.ext (by
    have := congrArg (fun h => h.slot.toNat) e
    simpa only [Store.handle, byte_toNat_slot] using this))
  cases e : st.slots[i].record with
  | none =>
    rw [Store.vacate_free e]
    refine ⟨fun j r ej => ?_, fun x hx => (held x hx).2⟩
    have ji : j ≠ i := by
      rintro rfl
      rw [e] at ej
      cases ej
    rw [others _ (apart j ji)]
    exact h.count j r ej
  | some r =>
    rw [Store.vacate_eq e]
    have get : ∀ j : Fin 64, j ≠ i → (st.slots.set i { gen := st.slots[i].gen + 1, record := none })[j] = st.slots[j] :=
      fun j ji => vset_other _ _ (Ne.symm ji)
    refine ⟨fun j a ej => ?_, fun x hx => Store.reach_isSome_of (held x hx).2 fun j ej => ?_⟩
    · have ej : (st.slots.set i { gen := st.slots[i].gen + 1, record := none })[j].record = some a := ej
      have ji : j ≠ i := by
        rintro rfl
        rw [vset_same] at ej
        cases ej
      rw [get j ji] at ej
      have handle : ({ slots := st.slots.set i { gen := st.slots[i].gen + 1, record := none }, free := st.free + r.cells.length } : Store).handle j
          = st.handle j := by
        unfold Store.handle
        dsimp only
        rw [get j ji]
      rw [handle, others _ (apart j ji)]
      exact h.count j a ej
    · have ji : j ≠ i := by
        rintro rfl
        exact (held x hx).1 ej.symm
      dsimp only
      rw [get j ji]
      exact ⟨rfl, id⟩

/-- A record without references is taken away. -/
theorem Store.Keeps.vacate {st : Store} {i : Fin 64} {r : Record} (h : st.slots[i].record = some r) (unreferred : r.references = 0) :
    st.Keeps (st.vacate i) :=
  ⟨fun k => k.vacate i, fun _ k => k.vacate i ((k.count i r h).symm.trans unreferred) fun _ _ => rfl⟩

/-! ### Placing (R33 to R35) -/

/-- The cells of a placing are in order, and each came from the pool. -/
structure Placing.Ok (cells free : Nat) (p : Placing) : Prop where
  few    : p.cells.length ≤ Config.recordCells
  sorted : p.cells.Pairwise fun a b => a.register < b.register
  pool   : p.free + p.cells.length = free + cells

theorem updateCell_length (reg : Byte) (f : TargetCell → TargetCell) (cells : List TargetCell) :
    (updateCell reg f cells).length = cells.length := by
  unfold updateCell
  rw [List.length_map]

theorem canCreate_iff {cells : List TargetCell} {free : Nat} : canCreate cells free = true ↔ cells.length < Config.recordCells ∧ 0 < free := by
  simp [canCreate]

theorem Placing.Ok.place {cells free : Nat} {p : Placing} (h : p.Ok cells free) (origin : CellOrigin) (reg value : Byte) :
    (p.place origin reg value).Ok cells free := by
  unfold Placing.place
  split
  · refine ⟨?_, updateCell_sorted _ _ ?_ h.sorted, ?_⟩
    · dsimp only
      rw [updateCell_length]
      exact h.few
    · exact fun _ => rfl
    · dsimp only
      rw [updateCell_length]
      exact h.pool
  · next absent =>
    split
    · next can =>
      obtain ⟨few, some⟩ := canCreate_iff.mp can
      refine ⟨by dsimp only; rw [insertCell_length]; exact few, insertCell_sorted h.sorted absent, ?_⟩
      dsimp only
      rw [insertCell_length]
      have := h.pool
      omega
    · exact ⟨h.few, h.sorted, h.pool⟩

theorem Placing.Ok.placeAll {cells free : Nat} (origin : CellOrigin) (base wrap : Nat) (values : List Byte) (k : Nat) {p : Placing}
    (h : p.Ok cells free) : (Placing.placeAll origin base wrap k p values).Ok cells free := by
  induction values generalizing k p with
  | nil => exact h
  | cons v vs ih => exact ih (k + 1) (h.place origin _ v)

theorem Application.placing_ok (a : Application) {r : Record} (h : r.CellsOk) (free : Nat) : (a.placing r free).Ok r.cells.length free := by
  have start : ({ cells := r.cells, free, touched := [], unplaced := false, poolEmpty := false } : Placing).Ok r.cells.length free :=
    ⟨h.few, h.sorted, rfl⟩
  unfold Application.placing
  dsimp only
  split
  · exact start
  · exact start.placeAll _ _ _ _ _

/-! ### Applications and error reports -/

theorem Store.Keeps.applied {st : Store} {i : Fin 64} {r : Record} (h : st.slots[i].record = some r) (a : Application) (ms : Word) :
    st.Keeps (st.applied a ms i r) :=
  .record h ⟨rfl, rfl⟩ rfl fun k =>
    have placed := a.placing_ok k st.free
    ⟨⟨placed.few, placed.sorted⟩, placed.pool⟩

theorem Store.setRecord_get (st : Store) (i : Fin 64) (r : Record) : ((st.setRecord i r).slots[i]).record = some r := by
  unfold Store.setRecord
  dsimp only
  rw [vset_same]

theorem Store.freeSlot_some {st : Store} {i : Fin 64} (h : st.freeSlot = some i) : st.slots[i].record = none :=
  Option.isNone_iff_eq_none.mp (List.find?_some (p := fun j : Fin 64 => st.slots[j].record.isNone) h)

/-- A record that eviction takes has no references (R30). -/
theorem Store.victim_some {st : Store} {now : Word} {i : Fin 64} (h : st.victim now = some i) :
    ∃ r, st.slots[i].record = some r ∧ r.evictable = true := by
  have one : ∀ j a, st.evictableAge now j = some a → ∃ r, st.slots[j].record = some r ∧ r.evictable = true := fun j a e => by
    unfold Store.evictableAge at e
    split at e
    · next r hr =>
      split at e
      · next can => exact ⟨r, hr, can⟩
      · cases e
    · cases e
  have all : ∀ b, (List.finRange 64).foldl (st.olderVictim now) none = some b → ∃ r, st.slots[b.1].record = some r ∧ r.evictable = true := by
    refine foldl_inv (fun best : Option (Fin 64 × Word) => ∀ b, best = some b → ∃ r, st.slots[b.1].record = some r ∧ r.evictable = true)
      (st.olderVictim now) (fun best j k b e => ?_) _ none nofun
    unfold Store.olderVictim at e
    split at e
    · exact k b e
    · next a ha =>
      cases e
      exact one j a ha
    · next a _ _ ha =>
      split at e
      · cases e
        exact one j a ha
      · exact k b e
  unfold Store.victim at h
  obtain ⟨b, hb, rfl⟩ := Option.map_eq_some_iff.mp h
  exact all b hb

theorem Record.evictable_references {r : Record} (h : r.evictable = true) : r.references = 0 := by
  simp only [Record.evictable, Bool.and_eq_true, beq_iff_eq] at h
  exact h.2

theorem Store.find_vacate {st : Store} {d : Fin 6} {a : Byte} (h : st.find d a = none) (i : Fin 64) : (st.vacate i).find d a = none := by
  refine Store.find_none.mpr fun j r e => ?_
  cases hi : st.slots[i].record with
  | none =>
    rw [Store.vacate_free hi] at e
    exact Store.find_none.mp h j r e
  | some b =>
    rw [Store.vacate_eq hi] at e
    dsimp only at e
    rw [vset_get] at e
    split at e
    · cases e
    · exact Store.find_none.mp h j r e

theorem Store.vacate_get {st : Store} (i : Fin 64) : ((st.vacate i).slots[i]).record = none := by
  cases hi : st.slots[i].record with
  | none => rw [Store.vacate_free hi]; exact hi
  | some b =>
    rw [Store.vacate_eq hi]
    dsimp only
    rw [vset_same]

theorem State.applyTo_keeps (a : Application) {i : Fin 64} {r : Record} {s : State} (h : s.store.slots[i].record = some r) :
    s.store.Keeps (s.applyTo a i r).store := by
  rw [(State.applyTo_upTo a i r s).store]
  exact .applied h a _

theorem State.applyNew_keeps (a : Application) {i : Fin 64} {s : State} (free : s.store.slots[i].record = none)
    (newKey : s.store.find a.decoder a.address = none) : s.store.Keeps (s.applyNew a i).store :=
  Store.Keeps.trans (.fresh free newKey rfl rfl)
    (State.applyTo_keeps a (s := { s with store := s.store.setRecord i (Record.fresh a.decoder a.address false false s.clock.ms) })
      (Store.setRecord_get _ _ _))

theorem State.apply_keeps (a : Application) (s : State) : s.store.Keeps (s.apply a).1.store := by
  unfold State.apply
  split
  · show s.store.Keeps (s.withhold a).store
    unfold State.withhold
    split
    · exact .refl _
    · split
      · exact .refl _
      · next r hr =>
        have marked : s.store.Keeps (s.store.setRecord _ { r with withheldMark := true, withheldCount := satInc r.withheldCount }) :=
          .setRecord hr ⟨rfl, rfl⟩ rfl fun k => ⟨⟨k.few, k.sorted⟩, rfl⟩
        dsimp only
        split
        · exact marked
        · rw [State.markTarget_store]
          exact marked
  · split
    · split
      · next hr => exact State.applyTo_keeps a hr
      · exact .refl _
    · next newKey =>
      split
      · exact .refl _
      · split
        · next free => exact State.applyNew_keeps a (Store.freeSlot_some free) newKey
        · split
          · next i victim =>
            obtain ⟨r, hr, can⟩ := Store.victim_some victim
            exact (Store.Keeps.vacate hr (Record.evictable_references can)).trans
              (State.applyNew_keeps (s := { s with store := s.store.vacate i }) a (Store.vacate_get i) (Store.find_vacate newKey i))
          · rw [State.raiseStoreFull_store]
            exact .refl _

theorem State.errorReport_keeps (d : Fin 6) (a : Byte) (reason : AbortReason) (s : State) : s.store.Keeps (s.errorReport d a reason).store := by
  unfold State.errorReport
  split
  · exact .refl _
  · split
    · exact .refl _
    · next i _ =>
      split
      · exact .refl _
      · next r hr =>
        have counted : s.store.Keeps (s.store.setRecord i (r.countError reason).1) := by
          unfold Record.countError
          split
          · exact .setRecord hr ⟨rfl, rfl⟩ rfl fun k => ⟨⟨k.few, k.sorted⟩, rfl⟩
          · exact .setRecord hr ⟨rfl, rfl⟩ rfl fun k => ⟨⟨k.few, k.sorted⟩, rfl⟩
        dsimp only
        split
        · exact counted
        · rw [State.targetReport_store]
          exact counted

end Sys2Proof.Machine
end

section
/-! Every step keeps the store and the references: who holds a handle, and then every command (R39, R40). -/

namespace Sys2Proof.Machine

/-! ### Holders -/

/-- One more holder of a handle, if any. -/
def holds1 (o : Option Handle) (h : Handle) : Nat := if o = some h then 1 else 0

/-- Watches and panes hold what they held. -/
structure SameHolds (s t : State) : Prop where
  watches : ∀ i : Fin 32, t.watch.watches[i].holds = s.watch.watches[i].holds
  panes   : ∀ i : Fin 16, t.display.panes[i].holds = s.display.panes[i].holds

theorem SameHolds.of_same {s t : State} (watches : t.watch.watches = s.watch.watches) (panes : t.display.panes = s.display.panes) :
    SameHolds s t := ⟨fun i => by rw [watches], fun i => by rw [panes]⟩

theorem SameHolds.trans {s t u : State} (h : SameHolds s t) (k : SameHolds t u) : SameHolds s u :=
  ⟨fun i => (k.watches i).trans (h.watches i), fun i => (k.panes i).trans (h.panes i)⟩

theorem SameHolds.holders {s t : State} (h : SameHolds s t) : t.holders = s.holders := by
  funext x
  unfold State.holders
  simp only [h.watches, h.panes]

theorem Pane.SameSetting.holds {a b : Pane} (h : a.SameSetting b) : b.holds = a.holds := by
  unfold Pane.holds
  rw [h.state, h.subject]

theorem Watch.evaluate_holds (ms : Word) (now : Sample) (w : Watch) : (w.evaluate ms now).holds = w.holds := by
  unfold Watch.holds
  rw [Watch.evaluate_active, (w.evaluate_same ms now).subject]

theorem sameHolds_blind : Blind SameHolds where
  refl _ := .of_same rfl rfl
  trans _ _ _ := .trans
  write _ _ watches panes _ := .of_same watches panes
  evaluate c s := by
    refine ⟨fun i => ?_, fun i => ((s.evaluate_upTo c).panes i).holds⟩
    rw [State.evaluate_get]
    split
    · exact Watch.evaluate_holds _ _ _
    · rfl
  mark c s := ⟨fun i => by rw [State.markPanes_watch], fun i => ((s.markPanes_upTo c).panes i).holds⟩
  derive s := ⟨fun i => by rw [State.derive_watches], fun i => (s.derive_upTo.panes i).holds⟩

/-- A table in which one entry changes. -/
theorem countP_set {α : Type} {n : Nat} (f : α → Option Handle) (v : Vector α n) (i : Fin n) (new : α) (h : Handle) :
    ((List.finRange n).countP fun j => f (v.set i new)[j] == some h) + holds1 (f v[i]) h =
      ((List.finRange n).countP fun j => f v[j] == some h) + holds1 (f new) h := by
  have list : ∀ l : List (Fin n), l.Nodup → (l.countP fun j => f (v.set i new)[j] == some h) + (if i ∈ l then holds1 (f v[i]) h else 0) =
      (l.countP fun j => f v[j] == some h) + (if i ∈ l then holds1 (f new) h else 0) := by
    intro l
    induction l with
    | nil => exact fun _ => rfl
    | cons x l ih =>
      intro nodup
      obtain ⟨notin, rest⟩ := List.nodup_cons.mp nodup
      have ih := ih rest
      by_cases e : i = x
      · subst e
        rw [if_neg notin, if_neg notin] at ih
        simp only [List.countP_cons, vset_same, List.mem_cons, true_or, if_true, holds1, beq_iff_eq]
        omega
      · have mem : i ∈ x :: l ↔ i ∈ l := by simp [e]
        simp only [mem]
        rw [List.countP_cons, List.countP_cons, vset_other _ _ e]
        omega
  simpa using list (List.finRange n) (List.nodup_finRange n)

theorem State.holders_setWatches (i : Fin 32) (new : Watch) (s : State) (h : Handle) :
    (s.putWatch i new).holders h + holds1 s.watch.watches[i].holds h = s.holders h + holds1 new.holds h := by
  have panes : ∀ j : Fin 16, (s.putWatch i new).display.panes[j].holds = s.display.panes[j].holds := fun j =>
    ((State.setWatches_upTo (s.watch.watches.set i new) s).panes j).holds
  have count := countP_set Watch.holds s.watch.watches i new h
  unfold State.holders
  simp only [panes]
  rw [State.putWatch, State.setWatches_watches]
  omega

theorem State.holders_setPane (i : Fin 16) (new : Pane) (s : State) (h : Handle) :
    (s.setPane i new).holders h + holds1 s.display.panes[i].holds h = s.holders h + holds1 new.holds h := by
  have count := countP_set Pane.holds s.display.panes i new h
  have watches : (s.setPane i new).watch = s.watch := rfl
  have panes : (s.setPane i new).display.panes = s.display.panes.set i new := rfl
  unfold State.holders
  rw [watches, panes]
  omega

/-! ### Binding (R39) -/

/-- One reference more or less in the record that a handle names. -/
theorem Store.RefsOk.refer {st : Store} {before after : Handle → Nat} (h : st.RefsOk before) {x : Handle} {i : Fin 64} {r : Record}
    (e : st.reach x = some (i, r)) {n : Nat} (own : after x = n) (others : ∀ y, y ≠ x → after y = before y) :
    (st.setRecord i { r with references := n }).RefsOk after := by
  obtain ⟨_, record, _⟩ := Store.reach_some.mp e
  have gen : ∀ j : Fin 64, ((st.setRecord i { r with references := n }).slots[j]).gen = st.slots[j].gen := fun j => by
    show (st.slots.set i _)[j].gen = _
    rw [vset_get]
    split
    · next ij => rw [ij]
    · rfl
  have live : ∀ j : Fin 64, st.slots[j].record.isSome = true → ((st.setRecord i { r with references := n }).slots[j]).record.isSome = true :=
    fun j some => by
      show ((st.slots.set i { st.slots[i] with record := .some { r with references := n } })[j].record).isSome = true
      rw [vset_get]
      split
      · rfl
      · exact some
  have handle : ∀ j : Fin 64, (st.setRecord i { r with references := n }).handle j = st.handle j := fun j => by
    unfold Store.handle
    rw [gen]
  refine ⟨fun j a ej => ?_, fun y held => ?_⟩
  · rw [handle]
    have ej : (st.slots.set i { st.slots[i] with record := some { r with references := n } })[j].record = some a := ej
    rw [vset_get] at ej
    split at ej
    · next ij =>
      cases ej
      rw [← ij, Store.handle_of_reach e, own]
    · next ij =>
      rw [others, h.count j a ej]
      intro same
      rw [← Store.handle_of_reach e] at same
      exact ij (Fin.ext (by
        have := congrArg (fun h => h.slot.toNat) same
        simpa only [Store.handle, byte_toNat_slot] using this.symm))
  · refine Store.reach_isSome_of ?_ fun j _ => ⟨gen j, live j⟩
    by_cases xy : y = x
    · rw [xy, e]; rfl
    · exact h.reach y (others y xy ▸ held)

theorem State.bind_refs {s : State} {before : Handle → Nat} (h : s.store.RefsOk before) {o : Option Handle} (can : s.bindable o = true) :
    (s.bind? o).store.RefsOk fun x => before x + holds1 o x := by
  cases o with
  | none => simpa [State.bind?, holds1] using h
  | some x =>
    obtain ⟨⟨i, r⟩, e⟩ := Option.isSome_iff_exists.mp can
    obtain ⟨_, record, _⟩ := Store.reach_some.mp e
    have references : r.references = before x := by rw [h.count i r record, Store.handle_of_reach e]
    have bound : (s.bind? (some x)).store = s.store.setRecord i { r with references := r.references + 1 } := by
      simp only [State.bind?, State.bind, e]
    rw [bound]
    refine h.refer e ?_ fun y xy => ?_
    · simp [holds1, references]
    · simp [holds1, Ne.symm xy]

theorem State.unbind_refs {s : State} {before after : Handle → Nat} (h : s.store.RefsOk before) {o : Option Handle}
    (less : ∀ x, after x + holds1 o x = before x) : (s.unbind? o).store.RefsOk after := by
  cases o with
  | none =>
    have same : after = before := funext fun x => by simpa [holds1] using less x
    exact same ▸ h
  | some x =>
    have held : after x + 1 = before x := by simpa [holds1] using less x
    obtain ⟨⟨i, r⟩, e⟩ := Option.isSome_iff_exists.mp (h.reach x (by omega))
    obtain ⟨_, record, _⟩ := Store.reach_some.mp e
    have references : r.references = before x := by rw [h.count i r record, Store.handle_of_reach e]
    have unbound : (s.unbind? (some x)).store = s.store.setRecord i { r with references := r.references - 1 } := by
      simp only [State.unbind?, State.unbind, e]
    rw [unbound]
    refine h.refer e (by omega) fun y xy => ?_
    simpa [holds1, Ne.symm xy] using less y

/-- A binding leaves keys, cells and the pool. -/
theorem State.bind_ok {s : State} (h : s.store.Ok) (o : Option Handle) : (s.bind? o).store.Ok := by
  have keeps : ∀ (i : Fin 64) (r : Record) (n : Nat), s.store.slots[i].record = some r → (s.store.setRecord i { r with references := n }).Ok :=
    fun i r n e => h.replace i (x := { s.store.slots[i] with record := some { r with references := n } })
      (fun a ea => by cases ea; exact ⟨(h.cells i r e).few, (h.cells i r e).sorted⟩)
      (by rw [Slot.cellCount_some rfl, Slot.cellCount_some e])
      (fun a ea j b other eb same => by cases ea; exact other (h.keys i j r b e eb same.1 same.2).symm)
  cases o with
  | none => exact h
  | some x =>
    unfold State.bind? State.bind
    dsimp only
    split
    · exact h
    · next e => exact keeps _ _ _ (Store.reach_some.mp e).2.1

theorem State.unbind_ok {s : State} (h : s.store.Ok) (o : Option Handle) : (s.unbind? o).store.Ok := by
  have keeps : ∀ (i : Fin 64) (r : Record) (n : Nat), s.store.slots[i].record = some r → (s.store.setRecord i { r with references := n }).Ok :=
    fun i r n e => h.replace i (x := { s.store.slots[i] with record := some { r with references := n } })
      (fun a ea => by cases ea; exact ⟨(h.cells i r e).few, (h.cells i r e).sorted⟩)
      (by rw [Slot.cellCount_some rfl, Slot.cellCount_some e])
      (fun a ea j b other eb same => by cases ea; exact other (h.keys i j r b e eb same.1 same.2).symm)
  cases o with
  | none => exact h
  | some x =>
    unfold State.unbind? State.unbind
    dsimp only
    split
    · exact h
    · next e => exact keeps _ _ _ (Store.reach_some.mp e).2.1

/-! ### The store of a state -/

/-- The store stays in order, and the references with it. -/
structure StoreKept (s t : State) : Prop where
  ok   : StoreOk s → StoreOk t
  refs : ReferencesOk s → ReferencesOk t

theorem StoreKept.of_keeps {s t : State} (keeps : s.store.Keeps t.store) (holds : SameHolds s t) : StoreKept s t where
  ok h := storeOk_iff.mpr (keeps.ok (storeOk_iff.mp h))
  refs h := referencesOk_iff.mpr (by rw [holds.holders]; exact keeps.refs _ (referencesOk_iff.mp h))

theorem StoreKept.of_same {s t : State} (store : t.store = s.store) (holds : SameHolds s t) : StoreKept s t :=
  .of_keeps (store ▸ .refl _) holds

theorem StoreKept.refl (s : State) : StoreKept s s := ⟨id, id⟩

theorem StoreKept.trans {s t u : State} (h : StoreKept s t) (k : StoreKept t u) : StoreKept s u := ⟨k.ok ∘ h.ok, k.refs ∘ h.refs⟩

theorem storeKept_parts : Parts StoreKept where
  refl := .refl
  trans _ _ _ := .trans
  same _ _ e := .of_same e.store (.of_same (congrArg WatchUnit.watches e.watch) e.panes)
  pod p new s := .of_same (State.putPod_store p new s) (sameHolds_blind.pod p new s)
  timer _ _ _ := .of_same rfl (.of_same rfl rfl)
  decoder d new s := .of_same (State.putDecoder_store d new s) (sameHolds_blind.decoder d new s)
  meter m new s _ := .of_same (State.putMeter_store m new s) (sameHolds_blind.meter m new s)
  config m _ s := .of_same (State.putMeter_store m _ s) (sameHolds_blind.meter m _ s)
  apply a s := .of_keeps (s.apply_keeps a) (sameHolds_blind.apply a s)
  error d a reason s := .of_keeps (s.errorReport_keeps d a reason) (sameHolds_blind.error d a reason s)
  notices u s e _ _ := .of_same (State.derive_store _) (sameHolds_blind.notices u s e)

/-! ### Requests of the store -/

theorem State.withRecord_storeKeeps {x : Handle} {b : Bool} {act : Fin 64 → Record → State → State} {s : State}
    (each : ∀ i r, s.store.slots[i].record = some r → s.store.Keeps (act i r s).store) : s.store.Keeps (s.withRecord x b act).store := by
  unfold State.withRecord
  split
  · exact .refl _
  · split
    · exact .refl _
    · next e => exact each _ _ (Store.reach_some.mp e).2.1

theorem State.putCells_keeps {s : State} {i : Fin 64} {r : Record} (h : s.store.slots[i].record = some r) {cells : List TargetCell}
    {free : Nat} (ok : r.CellsOk → (cells.length ≤ Config.recordCells ∧ cells.Pairwise fun a b => a.register < b.register) ∧
      free + cells.length = s.store.free + r.cells.length) : s.store.Keeps (s.putCells i r cells free).store :=
  .record h ⟨rfl, rfl⟩ rfl fun k => ⟨⟨(ok k).1.1, (ok k).1.2⟩, (ok k).2⟩

theorem State.putCells_update {s : State} {i : Fin 64} {r : Record} (h : s.store.slots[i].record = some r) (reg : Byte)
    {f : TargetCell → TargetCell} (hf : ∀ c, (f c).register = c.register) :
    s.store.Keeps (s.putCells i r (updateCell reg f r.cells) s.store.free).store :=
  State.putCells_keeps h fun k => by
    rw [updateCell_length]
    exact ⟨⟨k.few, updateCell_sorted reg f hf k.sorted⟩, rfl⟩

theorem State.putCells_insert {s : State} {i : Fin 64} {r : Record} (h : s.store.slots[i].record = some r) {c : TargetCell}
    (absent : cellAt c.register r.cells = none) (can : canCreate r.cells s.store.free = true) :
    s.store.Keeps (s.putCells i r (insertCell c r.cells) (s.store.free - 1)).store :=
  State.putCells_keeps h fun k => by
    obtain ⟨few, some⟩ := canCreate_iff.mp can
    rw [insertCell_length]
    exact ⟨⟨few, insertCell_sorted k.sorted absent⟩, by omega⟩

theorem State.putCells_remove {s : State} {i : Fin 64} {r : Record} (h : s.store.slots[i].record = some r) {reg : Byte} {c : TargetCell}
    (present : cellAt reg r.cells = some c) :
    s.store.Keeps (s.putCells i r (removeCell reg r.cells) (s.store.free + 1)).store :=
  State.putCells_keeps h fun k => by
    have length := removeCell_length k.sorted present
    have few := k.few
    exact ⟨⟨by omega, removeCell_sorted reg k.sorted⟩, by omega⟩

theorem tgtRead_storeKept (x : Handle) (first max clear : Byte) (s : State) : StoreKept s (tgtRead x first max clear s) := by
  refine .of_keeps (State.withRecord_storeKeeps fun i r h => ?_) (sameHolds_blind.tgtRead x first max clear s)
  have cleared : s.store.Keeps (s.store.setRecord i (r.clearMarks (returnedCells first max r))) := by
    have registers : ∀ c : TargetCell, (if (returnedCells first max r).any (fun x => x.register == c.register) then
        { c with changed := false } else c).register = c.register := fun c => by
      split <;> rfl
    refine .setRecord h ⟨rfl, rfl⟩ rfl fun k => ⟨⟨?_, ?_⟩, ?_⟩
    · show (List.map _ r.cells).length ≤ _
      rw [List.length_map]
      exact k.few
    · show (List.map _ r.cells).Pairwise _
      rw [List.pairwise_map]
      simp only [registers]
      exact k.sorted
    · exact List.length_map _
  dsimp only
  split
  · split
    · rw [State.markTarget_store]
      exact cleared
    · exact cleared
  · exact .refl _

theorem tgtDeclare_storeKept (decoder address pinned : Byte) (s : State) : StoreKept s (tgtDeclare decoder address pinned s) := by
  refine .of_keeps ?_ (sameHolds_blind.tgtDeclare decoder address pinned s)
  unfold tgtDeclare
  split
  · split
    · exact .refl _
    · next newKey =>
      split
      · exact .refl _
      · next free => exact .fresh (Store.freeSlot_some free) newKey rfl rfl
  · exact .refl _

theorem tgtSetCell_storeKept (x : Handle) (register value : Byte) (s : State) : StoreKept s (tgtSetCell x register value s) := by
  refine .of_keeps (State.withRecord_storeKeeps fun i r h => ?_) (sameHolds_blind.tgtSetCell x register value s)
  split
  · next c _ =>
    have written := State.putCells_update h register (f := fun c => { c with value := some value, origin := .host }) fun _ => rfl
    dsimp only
    split
    · exact written
    · rw [State.ok_store, State.targetReport_store]
      exact written
  · next absent =>
    split
    · next can =>
      rw [State.ok_store, State.targetReport_store]
      exact State.putCells_insert h absent can
    · exact .refl _

theorem tgtExpect_storeKept (x : Handle) (register operation value mask : Byte) (s : State) :
    StoreKept s (tgtExpect x register operation value mask s) := by
  refine .of_keeps (State.withRecord_storeKeeps fun i r h => ?_) (sameHolds_blind.tgtExpect x register operation value mask s)
  have updated : ∀ e : Option Expected, s.store.Keeps (s.putCells i r (updateCell register (fun c => { c with expected := e }) r.cells) s.store.free).store :=
    fun e => State.putCells_update h register fun _ => rfl
  split
  · unfold expectSet
    split
    · rw [State.ok_store, State.targetReport_store]
      exact updated _
    · next absent =>
      split
      · next can =>
        rw [State.ok_store, State.targetReport_store]
        exact State.putCells_insert h absent can
      · exact .refl _
  · unfold expectClear
    split
    · exact .refl _
    · next present =>
      split
      · exact .refl _
      · split
        · rw [State.ok_store, State.targetReport_store]
          exact State.putCells_remove h present
        · rw [State.ok_store, State.targetReport_store]
          exact updated _

theorem tgtDropCell_storeKept (x : Handle) (register : Byte) (s : State) : StoreKept s (tgtDropCell x register s) := by
  refine .of_keeps (State.withRecord_storeKeeps fun i r h => ?_) (sameHolds_blind.tgtDropCell x register s)
  split
  · exact .refl _
  · next present =>
    rw [State.ok_store, State.targetReport_store]
    exact State.putCells_remove h present

theorem tgtPin_storeKept (x : Handle) (on : Byte) (s : State) : StoreKept s (tgtPin x on s) :=
  .of_keeps (State.withRecord_storeKeeps fun _ _ h => .setRecord h ⟨rfl, rfl⟩ rfl fun k => ⟨⟨k.few, k.sorted⟩, rfl⟩)
    (sameHolds_blind.tgtPin x on s)

/-! ### Retirement (R40) -/

theorem Watch.retire_holds (h : Handle) (w : Watch) : (w.retire h).holds = if w.holds = some h then none else w.holds := by
  have names : w.subject.names h = (w.subject.handle? == some h) := by
    unfold Subject.names Subject.handle?
    cases w.subject <;> simp
  unfold Watch.retire Watch.holds
  rw [names]
  cases active : w.state.active
  · simp [active]
  · by_cases e : w.subject.handle? = some h
    · simp [e, WatchState.active]
    · simp [e, active]

theorem Pane.orphan_holds (h : Handle) (p : Pane) : (p.orphan h).holds = if p.holds = some h then none else p.holds := by
  have shows : p.subject.shows h = (p.subject.handle? == some h) := by
    unfold PaneSubject.shows PaneSubject.handle?
    cases p.subject <;> simp
  unfold Pane.orphan Pane.holds
  rw [shows]
  by_cases live : p.state = .live
  · by_cases e : p.subject.handle? = some h
    · simp [live, e]
    · simp [live, e]
  · simp [live]

/-- After a retirement notice nobody holds the handle, and the holders of every other are as they were. -/
theorem State.retireNotice_holders (h : Handle) (s : State) (x : Handle) :
    (s.retireNotice h).holders x = if x = h then 0 else s.holders x := by
  have watches : ∀ i : Fin 32, (s.retireNotice h).watch.watches[i].holds =
      if s.watch.watches[i].holds = some h then none else s.watch.watches[i].holds := fun i => by
    have same : (s.retireNotice h).watch.watches = tab fun i => s.watch.watches[i].retire h := by
      unfold State.retireNotice
      dsimp only
      split
      · exact State.setWatches_watches _ _
      · exact State.setWatches_watches _ _
    rw [same, tab_get, Watch.retire_holds]
  have panes : ∀ i : Fin 16, (s.retireNotice h).display.panes[i].holds =
      if s.display.panes[i].holds = some h then none else s.display.panes[i].holds := fun i => by
    have orphaned : (s.withPanes (tab fun i => s.display.panes[i].orphan h)).display.panes[i] = s.display.panes[i].orphan h := tab_get _ i
    rw [← Pane.orphan_holds, ← orphaned]
    unfold State.retireNotice
    dsimp only
    split
    · exact ((State.deriveHighlights_upTo _).panes i).holds.trans ((State.setWatches_upTo _ _).panes i).holds
    · exact ((State.setWatches_upTo _ _).panes i).holds
  have one : ∀ o : Option Handle, ((if o = some h then none else o) == some x) = (!(x == h) && (o == some x)) := fun o => by
    by_cases e : o = some h
    · subst e
      by_cases xh : x = h
      · simp [xh]
      · simp [xh, Ne.symm xh]
    · by_cases xh : x = h
      · subst xh
        simp [e]
      · simp [e, xh]
  unfold State.holders
  simp only [watches, panes, one]
  by_cases xh : x = h
  · simp [xh]
  · have other : (x == h) = false := beq_eq_false_iff_ne.mpr xh
    simp [other, xh]

theorem tgtRetire_storeKept (x : Handle) (force : Byte) (s : State) : StoreKept s (tgtRetire x force s) := by
  have retired : ∀ i : Fin 64, StoreKept s (s.retire i).ok := fun i => by
    have store : (s.retire i).ok.store = s.store.vacate i := by
      show (s.retireNotice _).store.vacate i = _
      rw [State.retireNotice_store]
    refine ⟨fun h => storeOk_iff.mpr ?_, fun h => referencesOk_iff.mpr ?_⟩
    · rw [store]
      exact (storeOk_iff.mp h).vacate i
    · rw [store]
      have holders : (s.retire i).ok.holders = (s.retireNotice (s.store.handle i)).holders := rfl
      rw [holders]
      refine (referencesOk_iff.mp h).vacate i ?_ fun y other => ?_
      · rw [State.retireNotice_holders, if_pos rfl]
      · rw [State.retireNotice_holders, if_neg other]
  unfold tgtRetire State.withRecord
  split
  · exact .of_same rfl (.of_same rfl rfl)
  · split
    · exact .of_same rfl (.of_same rfl rfl)
    · dsimp only
      split
      · exact .of_same rfl (.of_same rfl rfl)
      · exact retired _

/-! ### Watches and panes -/

theorem wchSet_storeKept (watch : Byte) (sub : SubjectBytes) (cond : ConditionBytes) (level actions : Byte) (s : State) :
    StoreKept s (wchSet watch sub cond level actions s) := by
  have refused : ∀ st, StoreKept s (s.refuse st) := fun _ => .of_same rfl (.of_same rfl rfl)
  simp only [wchSet]
  split
  · exact refused _
  · next i _ =>
    split
    · exact refused _
    · next w _ =>
      split
      · exact refused _
      · next can =>
        have can : s.bindable w.subject.handle? = true := by simpa using can
        let t := (s.bind? w.subject.handle?).unbind? s.watch.watches[i].holds
        let new := w.watch (t.subjectSample w.subject)
        have watch : t.watch = s.watch := (State.unbindOpt_watch _ _).trans (State.bindOpt_watch _ _)
        have display : t.display = s.display := (State.unbindOpt_display _ _).trans (State.bindOpt_display _ _)
        have store : (t.putWatch i new).ok.store = t.store := State.putWatch_store _ _ _
        have holds : new.holds = w.subject.handle? := by
          have active : (w.start (t.subjectSample w.subject)).active = true := by
            unfold WatchSetting.start
            repeat' split
            all_goals rfl
          exact if_pos active
        refine ⟨fun h => storeOk_iff.mpr ?_, fun h => referencesOk_iff.mpr ?_⟩
        · rw [store]
          exact State.unbind_ok (State.bind_ok (storeOk_iff.mp h) _) _
        · rw [store]
          refine State.unbind_refs (State.bind_refs (referencesOk_iff.mp h) can) fun x => ?_
          have count := State.holders_setWatches i new t x
          rw [holds, watch] at count
          have same : t.holders = s.holders := (SameHolds.of_same (by rw [watch]) (by rw [display])).holders
          rw [same] at count
          exact count

theorem wchClear_storeKept (watch : Byte) (s : State) : StoreKept s (wchClear watch s) := by
  simp only [wchClear]
  split
  · exact .of_same rfl (.of_same rfl rfl)
  · next i _ =>
    split
    · exact .of_same rfl (.of_same rfl rfl)
    · let t := s.unbind? s.watch.watches[i].holds
      have watch : t.watch = s.watch := State.unbindOpt_watch _ _
      have display : t.display = s.display := State.unbindOpt_display _ _
      have store : (t.putWatch i Watch.reset).ok.store = t.store := State.putWatch_store _ _ _
      refine ⟨fun h => storeOk_iff.mpr ?_, fun h => referencesOk_iff.mpr ?_⟩
      · rw [store]
        exact State.unbind_ok (storeOk_iff.mp h) _
      · rw [store]
        refine State.unbind_refs (referencesOk_iff.mp h) fun x => ?_
        have count := State.holders_setWatches i Watch.reset t x
        have same : t.holders = s.holders := (SameHolds.of_same (by rw [watch]) (by rw [display])).holders
        rw [watch, same] at count
        exact count

theorem ntcAckWatch_storeKept (watch : Byte) (s : State) : StoreKept s (ntcAckWatch watch s) := by
  simp only [ntcAckWatch]
  split
  · exact .of_same rfl (.of_same rfl rfl)
  · next i _ =>
    split
    · exact .of_same rfl (.of_same rfl rfl)
    · next tripped =>
      have tripped : s.watch.watches[i].state = .tripped := by simpa using tripped
      refine StoreKept.trans (t := s.putWatch i (s.watch.watches[i].acknowledged (s.subjectSample s.watch.watches[i].subject))) ?_
        (.of_same rfl (.of_same rfl rfl))
      refine .of_same (State.putWatch_store _ _ _) ⟨fun j => ?_, fun j => ((State.setWatches_upTo _ _).panes j).holds⟩
      rw [State.putWatch, State.setWatches_watches, vset_get]
      split
      · next ij =>
        subst ij
        unfold Watch.holds Watch.acknowledged
        dsimp only
        rw [tripped]
        repeat' split
        all_goals simp_all [WatchState.active]
      · rfl

theorem paneSet_storeKept (pane row col width height kind : Byte) (names : NameBytes) (format : Byte) (label : List Byte) (lbusy : Bool)
    (s : State) : StoreKept s (paneSet pane row col width height kind names format label lbusy s) := by
  have refused : ∀ st, StoreKept s (s.refuse st) := fun _ => .of_same rfl (.of_same rfl rfl)
  have tested : ∀ t : State, StoreKept t (t.panelTest lbusy).ok := fun t =>
    .of_same (State.panelTest_store _ _) (.of_same (by simp) (by simp))
  simp only [paneSet]
  split
  · exact refused _
  · next i _ =>
    split
    · exact refused _
    · next sub f _ =>
      split
      · exact refused _
      · next r _ =>
        split
        · exact refused _
        · split
          · exact refused _
          · next can =>
            have can : s.bindable sub.handle? = true := by simpa using can
            refine StoreKept.trans ?_ (tested _)
            let u := (s.bind? sub.handle?).unbind? s.display.panes[i].holds
            let t := u.vacateRect s.display.panes[i]
            let new := Pane.of r sub f label (t.watch.highlighted sub)
            have watch : t.watch = s.watch :=
              (State.vacateRect_watch _ _).trans ((State.unbindOpt_watch _ _).trans (State.bindOpt_watch _ _))
            have panes : t.display.panes = s.display.panes :=
              (State.vacateRect_panes _ _).trans (congrArg Display.panes ((State.unbindOpt_display _ _).trans (State.bindOpt_display _ _)))
            have store : (t.setPane i new).store = u.store := State.vacateRect_store _ _
            refine ⟨fun h => storeOk_iff.mpr ?_, fun h => referencesOk_iff.mpr ?_⟩
            · show (t.setPane i new).store.Ok
              rw [store]
              exact State.unbind_ok (State.bind_ok (storeOk_iff.mp h) _) _
            · show (t.setPane i new).store.RefsOk (t.setPane i new).holders
              rw [store]
              refine State.unbind_refs (State.bind_refs (referencesOk_iff.mp h) can) fun x => ?_
              have count := State.holders_setPane i new t x
              have holds : new.holds = sub.handle? := rfl
              have same : t.holders = s.holders := (SameHolds.of_same (by rw [watch]) panes).holders
              rw [holds, same, panes] at count
              exact count

theorem paneClear_storeKept (pane : Byte) (lbusy : Bool) (s : State) : StoreKept s (paneClear pane lbusy s) := by
  have tested : ∀ t : State, StoreKept t (t.panelTest lbusy).ok := fun t =>
    .of_same (State.panelTest_store _ _) (.of_same (by simp) (by simp))
  simp only [paneClear]
  split
  · exact .of_same rfl (.of_same rfl rfl)
  · next i _ =>
    refine StoreKept.trans ?_ (tested _)
    let u := s.unbind? s.display.panes[i].holds
    let t := u.vacateRect s.display.panes[i]
    have watch : t.watch = s.watch := (State.vacateRect_watch _ _).trans (State.unbindOpt_watch _ _)
    have panes : t.display.panes = s.display.panes :=
      (State.vacateRect_panes _ _).trans (congrArg Display.panes (State.unbindOpt_display _ _))
    have store : (t.setPane i Pane.reset).store = u.store := State.vacateRect_store _ _
    refine ⟨fun h => storeOk_iff.mpr ?_, fun h => referencesOk_iff.mpr ?_⟩
    · show (t.setPane i Pane.reset).store.Ok
      rw [store]
      exact State.unbind_ok (storeOk_iff.mp h) _
    · show (t.setPane i Pane.reset).store.RefsOk (t.setPane i Pane.reset).holders
      rw [store]
      refine State.unbind_refs (referencesOk_iff.mp h) fun x => ?_
      have count := State.holders_setPane i Pane.reset t x
      have same : t.holders = s.holders := (SameHolds.of_same (by rw [watch]) panes).holders
      rw [same, panes] at count
      exact count

theorem State.render_holds (s : State) : SameHolds s s.render := by
  have highlighted : SameHolds s s.deriveHighlights := ⟨fun _ => rfl, fun i => (s.deriveHighlights_upTo.panes i).holds⟩
  have one : ∀ (t : State) (i : Fin 16), SameHolds t (t.renderPane i) := fun t i => by
    unfold State.renderPane
    dsimp only
    split
    · refine ⟨fun _ => rfl, fun j => ?_⟩
      show (t.display.panes.set i { t.display.panes[i] with stale := false })[j].holds = _
      rw [vset_get]
      split
      · next e => rw [← e]; rfl
      · rfl
    · exact .of_same rfl rfl
  exact foldl_inv (SameHolds s) State.renderPane (fun t i k => k.trans (one t i)) _ _ highlighted

theorem refreshTick_storeKept (lbusy : Bool) (s : State) : StoreKept s (refreshTick lbusy s) := by
  have later : ∀ u : State, StoreKept u (u.nextInterval.panelTest lbusy) := fun u =>
    .of_same (State.panelTest_store _ _) (.of_same (by rw [State.panelTest_watch]; rfl) (by rw [State.panelTest_display]; rfl))
  unfold refreshTick
  split
  · exact StoreKept.trans (.of_same s.render_store s.render_holds) (later _)
  · exact .refl s

/-! ### Resets (R53, R178) -/

theorem Store.Ok.empty {st : Store} (h : ∀ i : Fin 64, st.slots[i].record = none) (free : st.free = Config.poolCells) : st.Ok where
  cells i r e := by rw [h] at e; cases e
  pool := by
    have none : ∀ i : Fin 64, st.slots[i].cellCount = 0 := fun i => by
      unfold Slot.cellCount
      rw [h]
    rw [Store.cellsHeld_eq_sum, Finset.sum_eq_zero fun i _ => none i, free, Nat.add_zero]
  keys i j a b e := by rw [h] at e; cases e

theorem StoreKept.empty {s t : State} (slots : ∀ i : Fin 64, t.store.slots[i].record = none) (free : t.store.free = Config.poolCells)
    (watches : ∀ i : Fin 32, t.watch.watches[i] = Watch.reset) (panes : ∀ i : Fin 16, t.display.panes[i] = Pane.reset) : StoreKept s t where
  ok _ := storeOk_iff.mpr (.empty slots free)
  refs _ := by
    refine ⟨fun i r e => ?_, fun i x e => ?_, fun i x e => ?_⟩
    · rw [slots] at e
      cases e
    · rw [watches] at e
      cases e
    · rw [panes] at e
      cases e

theorem effect_storeKept (c : Instr) (s : State) : StoreKept s (effect c s) := by
  by_cases plain : isPlain c = true
  · exact storeKept_parts.plain plain s
  cases c
  case fullReset sense =>
    exact .empty (fun i => congrArg Slot.record (replicate_get 64 _ i)) rfl (fun i => replicate_get 32 _ i) fun i => replicate_get 16 _ i
  case devRestart =>
    refine .empty (fun i => ?_) rfl (fun i => replicate_get 32 _ i) fun i => replicate_get 16 _ i
    show (tab fun j : Fin 64 => s.store.slots[j].restarted)[i].record = none
    rw [tab_get]
    unfold Slot.restarted
    split
    · rfl
    · next free => exact Option.not_isSome_iff_eq_none.mp free
  case tgtRead x first max clear => exact tgtRead_storeKept x first max clear s
  case tgtDeclare decoder address pinned => exact tgtDeclare_storeKept decoder address pinned s
  case tgtSetCell x register value => exact tgtSetCell_storeKept x register value s
  case tgtExpect x register operation value mask => exact tgtExpect_storeKept x register operation value mask s
  case tgtDropCell x register => exact tgtDropCell_storeKept x register s
  case tgtPin x on => exact tgtPin_storeKept x on s
  case tgtRetire x force => exact tgtRetire_storeKept x force s
  case wchSet watch sub cond level actions => exact wchSet_storeKept watch sub cond level actions s
  case wchClear watch => exact wchClear_storeKept watch s
  case ntcAckWatch watch => exact ntcAckWatch_storeKept watch s
  case paneSet pane row column width height kind names format label lbusy =>
    exact paneSet_storeKept pane row column width height kind names format label lbusy s
  case paneClear pane lbusy => exact paneClear_storeKept pane lbusy s
  case refreshTick lbusy => exact refreshTick_storeKept lbusy s
  all_goals exact absurd rfl plain

/-- Settles O54: what every command keeps of the store and the references, every step keeps; the samples of the filters reach neither. -/
theorem stepKeepsStore : Obligations.StepKeepsStore := fun s t h ok => by
  have same : ∀ u v : State, v.store = u.store → v.watch = u.watch → v.display = u.display → StoreKept u v := fun _ _ a b c =>
    .of_same a (.of_same (by rw [b]) (by rw [c]))
  have kept := step_keeps (P := fun u => StoreKept s u) (fun _ _ k => k.trans (same _ _ rfl rfl rfl)) (fun c u k _ => k.trans (effect_storeKept c u))
    (fun u now k _ => k.trans (same u (u.sampledAt now) rfl rfl rfl)) h (.refl s)
  exact ⟨kept.ok ok, kept.refs⟩

end Sys2Proof.Machine
end

section
/-! Every step keeps the sample of every active watch what its subject reads (R129, R130): what a subject reads, what an evaluation makes of a watch, and then every command. -/

namespace Sys2Proof.Machine

/-! ### What a held handle reaches -/

/-- What a record reads for a target subject. -/
def Record.sampleOf (r : Record) : Subject → Sample
  | .targetCell _ reg => cellSample (cellAt reg r.cells)
  | .targetField _ f => Sample.present ((r.field f).setWidth 32)
  | .none | .meter _ _ | .pod _ | .decoder _ _ => Sample.absent

theorem State.subjectSample_target {s : State} {sub : Subject} {h : Handle} {i : Fin 64} {r : Record} (names : sub.handle? = some h)
    (reach : s.store.reach h = some (i, r)) : s.subjectSample sub = r.sampleOf sub := by
  cases sub with
  | targetCell x reg =>
    cases names
    simp only [State.subjectSample, reach, Record.sampleOf]
  | targetField x f =>
    cases names
    simp only [State.subjectSample, reach, Record.sampleOf]
  | none | meter | pod | decoder => cases names

/-- Another store in which a record is replaced. -/
theorem Store.reach_replace {st : Store} {i : Fin 64} {x : Slot} {r' : Record} {free : Nat} (gen : x.gen = st.slots[i].gen)
    (record : x.record = some r') {h : Handle} {j : Fin 64} {a : Record} (reach : st.reach h = some (j, a)) :
    ({ slots := st.slots.set i x, free } : Store).reach h = some (j, if i = j then r' else a) := by
  obtain ⟨slot, own, g⟩ := Store.reach_some.mp reach
  refine Store.reach_some.mpr ⟨slot, ?_⟩
  dsimp only
  rw [vset_get]
  split
  · next e =>
    subst e
    exact ⟨record, gen.trans g⟩
  · exact ⟨own, g⟩

/-- A handle that reaches a slot reaches what a write there leaves. -/
theorem Store.reach_setRecord {st : Store} (i : Fin 64) (r' : Record) {h : Handle} {j : Fin 64} {a : Record}
    (reach : st.reach h = some (j, a)) : (st.setRecord i r').reach h = some (j, if i = j then r' else a) :=
  Store.reach_replace (x := { st.slots[i] with record := some r' }) rfl rfl reach

/-- A slot that is vacated is out of reach of every other slot's handle. -/
theorem Store.reach_vacate {st : Store} {i : Fin 64} {h : Handle} {j : Fin 64} {a : Record} (reach : st.reach h = some (j, a))
    (other : j ≠ i) : (st.vacate i).reach h = some (j, a) := by
  cases hi : st.slots[i].record with
  | none => rw [Store.vacate_free hi]; exact reach
  | some r =>
    obtain ⟨slot, own, g⟩ := Store.reach_some.mp reach
    rw [Store.vacate_eq hi]
    refine Store.reach_some.mpr ⟨slot, ?_⟩
    dsimp only
    rw [vset_other _ _ (Ne.symm other)]
    exact ⟨own, g⟩

/-- Every handle that someone holds reaches in `st'` what it reaches in `st`. -/
def Store.SameFor (holders : Handle → Nat) (st st' : Store) : Prop :=
  ∀ h j a, holders h ≠ 0 → st.reach h = some (j, a) → st'.reach h = some (j, a)

/-- A FREE slot that is written is out of everyone's reach. -/
theorem Store.sameFor_of_free {holders : Handle → Nat} {st : Store} {i : Fin 64} (free : st.slots[i].record = none) (r : Record) :
    st.SameFor holders (st.setRecord i r) := fun h j a _ reach => by
  have other : i ≠ j := by
    rintro rfl
    rw [(Store.reach_some.mp reach).2.1] at free
    cases free
  rw [Store.reach_setRecord i r reach, if_neg other]

/-- A record without references is out of everyone's reach. -/
theorem Store.RefsOk.unreferred {st : Store} {holders : Handle → Nat} (h : st.RefsOk holders) {i : Fin 64} {r : Record}
    (record : st.slots[i].record = some r) (references : r.references = 0) {x : Handle} {j : Fin 64} {a : Record} (held : holders x ≠ 0)
    (reach : st.reach x = some (j, a)) : j ≠ i := by
  rintro rfl
  have count := h.count j r record
  rw [Store.handle_of_reach reach, references] at count
  exact held count.symm

/-- The handle of an active watch's subject reaches a record. -/
theorem ReferencesOk.reach_watch {s : State} (refs : ReferencesOk s) {i : Fin 32} (active : s.watch.watches[i].state.active = true)
    {h : Handle} (names : s.watch.watches[i].subject.handle? = some h) : s.holders h ≠ 0 ∧ ∃ j r, s.store.reach h = some (j, r) := by
  have holds : s.watch.watches[i].holds = some h := by
    unfold Watch.holds
    rw [if_pos active, names]
  obtain ⟨⟨j, r⟩, e⟩ := Option.isSome_iff_exists.mp (refs.watches i h holds)
  exact ⟨holders_ne_zero.mpr (.inl ⟨i, holds⟩), j, r, e⟩

/-! ### Samples -/

/-- The owners that subjects read are the same. -/
structure SameOwners (s t : State) : Prop where
  pods     : ∀ p : Fin 4, t.pods[p].state = s.pods[p].state
  decoders : ∀ (d : Fin 6) (f : DecoderField), (t.decoders[d]).field f = (s.decoders[d]).field f
  meters   : ∀ (m : Fin 8) (f : MeterField), t.meters[m].record.sample f = s.meters[m].record.sample f

theorem SameOwners.of_same {s t : State} (pods : t.pods = s.pods) (decoders : t.decoders = s.decoders) (meters : t.meters = s.meters) :
    SameOwners s t := ⟨fun p => by rw [pods], fun d f => by rw [decoders], fun m f => by rw [meters]⟩

/-- A subject that names no handle reads its owner. -/
theorem State.subjectSample_owner {s t : State} (h : SameOwners s t) {sub : Subject} (names : sub.handle? = none) :
    t.subjectSample sub = s.subjectSample sub := by
  cases sub with
  | none => rfl
  | targetCell | targetField => cases names
  | meter m f => exact h.meters m f
  | pod p => simp only [State.subjectSample, h.pods]
  | decoder d f => simp only [State.subjectSample, h.decoders]

theorem State.subjectSample_same {s t : State} (store : t.store = s.store) (h : SameOwners s t) (sub : Subject) :
    t.subjectSample sub = s.subjectSample sub := by
  cases sub with
  | targetCell x reg => simp only [State.subjectSample, store]
  | targetField x f => simp only [State.subjectSample, store]
  | none | meter | pod | decoder => exact State.subjectSample_owner h rfl

/-- Every active watch's subject reads the same, where `but` is false of it. -/
def SamplesBut (but : Subject → Bool) (s t : State) : Prop :=
  ∀ i : Fin 32, s.watch.watches[i].state.active = true → but s.watch.watches[i].subject = false →
    t.subjectSample s.watch.watches[i].subject = s.subjectSample s.watch.watches[i].subject

theorem SamplesBut.of_same {s t : State} (but : Subject → Bool) (store : t.store = s.store) (h : SameOwners s t) : SamplesBut but s t :=
  fun _ _ _ => State.subjectSample_same store h _

/-- The store changes in nobody's reach. -/
theorem SamplesBut.of_sameFor {s t : State} (but : Subject → Bool) (refs : ReferencesOk s) (store : s.store.SameFor s.holders t.store)
    (h : SameOwners s t) : SamplesBut but s t := fun i active _ => by
  cases names : s.watch.watches[i].subject.handle? with
  | none => exact State.subjectSample_owner h names
  | some x =>
    obtain ⟨held, j, r, reach⟩ := refs.reach_watch active names
    rw [State.subjectSample_target names reach, State.subjectSample_target names (store x j r held reach)]

/-- One record changes, and but for what is left out it reads the same. -/
theorem SamplesBut.of_record {s t : State} {but : Subject → Bool} (refs : ReferencesOk s) {i : Fin 64} {r r' : Record}
    (record : s.store.slots[i].record = some r)
    (store : ∀ h j a, s.store.reach h = some (j, a) → t.store.reach h = some (j, if i = j then r' else a)) (h : SameOwners s t)
    (reads : ∀ sub : Subject, sub.handle? = some (s.store.handle i) → but sub = false → r'.sampleOf sub = r.sampleOf sub) :
    SamplesBut but s t := fun k active unreported => by
  cases names : s.watch.watches[k].subject.handle? with
  | none => exact State.subjectSample_owner h names
  | some x =>
    obtain ⟨held, j, a, reach⟩ := refs.reach_watch active names
    rw [State.subjectSample_target names reach, State.subjectSample_target names (store x j a reach)]
    split
    · next e =>
      subst e
      have same : a = r := Option.some.inj ((Store.reach_some.mp reach).2.1.symm.trans record)
      rw [same]
      exact reads _ (by rw [names, Store.handle_of_reach reach]) unreported
    · rfl

/-! ### Watches (R131, R132) -/

theorem WatchState.active_of_ne {st : WatchState} (off : st ≠ .off) (dormant : st ≠ .dormant) : st.active = true := by
  cases st
  · exact absurd rfl off
  · rfl
  · rfl
  · rfl
  · exact absurd rfl dormant

/-- A watch in order stays so while its subject reads the same. -/
theorem Watch.Ok.of_sample {s t : State} {w : Watch} (h : Watch.Ok s w)
    (same : w.state.active = true → t.subjectSample w.subject = s.subjectSample w.subject) : Watch.Ok t w :=
  ⟨fun active => (h.fresh active).trans (same active).symm, h.idle, h.held, h.dormant, h.off⟩

/-- What an evaluation leaves is in order where its subject reads the sample it took. -/
theorem Watch.Ok.evaluate {s t : State} {w : Watch} (h : Watch.Ok s w) (active : w.state.active = true) (ms : Word) {now : Sample}
    (reads : t.subjectSample w.subject = now) : Watch.Ok t (w.evaluate ms now) := by
  have setting := w.evaluate_same ms now
  have on : (w.evaluate ms now).state.active = true := (w.evaluate_active ms now).trans active
  have sample : (w.evaluate ms now).sample = now := rfl
  have moved : ((w.evaluate ms now).state = .idle → w.condition ≠ .change → w.condition.holds now = false) ∧
      ((w.evaluate ms now).state = .held → w.condition ≠ .change ∧ w.condition.holds now = true) := by
    unfold Watch.evaluate
    dsimp only
    split
    · next change =>
      have change := Condition.isChange_iff.mp change
      refine ⟨fun _ level => absurd change level, fun held => ?_⟩
      have was : w.state = .held := by
        unfold Watch.moveChange at held
        split at held
        · split at held
          · cases held
          · next tripped => rw [tripped] at held; cases held
          · exact held
        · exact held
      exact absurd change (h.held was).1
    · next level =>
      have level : w.condition ≠ .change := fun e => level (Condition.isChange_iff.mpr e)
      unfold Watch.moveLevel
      split
      · exact ⟨nofun, nofun⟩
      · next holds => exact ⟨fun _ _ => holds, nofun⟩
      · next notIdle notHeld =>
        refine ⟨fun idle _ => ?_, fun held => ⟨level, ?_⟩⟩
        · by_contra holds
          exact notIdle idle (by simpa using holds)
        · by_contra fails
          exact notHeld held (by simpa using fails)
  refine ⟨fun _ => ?_, ?_, ?_, ?_, ?_⟩
  · rw [sample, setting.subject, reads]
  · rw [setting.condition, sample]
    exact moved.1
  · rw [setting.condition, sample]
    exact moved.2
  · intro dormant
    rw [dormant] at on
    cases on
  · intro off
    rw [off] at on
    cases on

theorem WatchesOk.of_samples {s t : State} (h : WatchesOk s) (watches : t.watch.watches = s.watch.watches)
    (same : SamplesBut (fun _ => false) s t) : WatchesOk t := fun i => by
  rw [watches]
  exact (h i).of_sample fun active => same i active rfl

theorem WatchesOk.of_same {s t : State} (h : WatchesOk s) (watches : t.watch.watches = s.watch.watches) (store : t.store = s.store)
    (owners : SameOwners s t) : WatchesOk t := h.of_samples watches (.of_same _ store owners)

theorem State.evaluate_owners (c : Subject → Bool) (s : State) : SameOwners s (s.evaluate c) :=
  have u := s.evaluate_upTo c
  .of_same u.pods u.decoders u.meters

/-- After a change that a report covers, the evaluation leaves every watch in order (R130). -/
theorem WatchesOk.evaluate {s t : State} (h : WatchesOk s) (c : Subject → Bool) (watches : t.watch.watches = s.watch.watches)
    (same : SamplesBut c s t) : WatchesOk (t.evaluate c) := fun i => by
  have samples := State.subjectSample_same (State.evaluate_store c t) (t.evaluate_owners c)
  rw [State.evaluate_get, watches]
  split
  · next covered =>
    obtain ⟨active, _⟩ := Bool.and_eq_true_iff.mp covered
    exact (h i).evaluate active _ (samples _)
  · next uncovered =>
    have uncovered : s.watch.watches[i].state.active = true → c s.watch.watches[i].subject = false := by simpa using uncovered
    exact (h i).of_sample fun active => (samples _).trans (same i active (uncovered active))

theorem WatchesOk.markPanes {s : State} (h : WatchesOk s) (c : PaneSubject → Bool) : WatchesOk (s.markPanes c) :=
  h.of_same rfl rfl (.of_same rfl rfl rfl)

theorem WatchesOk.notices {s : State} (h : WatchesOk s) {u : WatchUnit} (e : u.watches = s.watch.watches) :
    WatchesOk (State.derive { s with watch := u }) :=
  h.of_same ((State.derive_watches _).trans e) (State.derive_store _)
    (.of_same (State.derive_pods _) (State.derive_decoders _) (State.derive_meters _))

theorem WatchesOk.faultReport {s : State} (h : WatchesOk s) (p : Fin 4) (mark : Bool) : WatchesOk (s.faultReport p mark) :=
  h.notices (u := { s.watch with podFault := maskOf fun i => if i = p then mark else s.watch.podFault.getLsbD i }) rfl

theorem WatchesOk.targetReport {s t : State} (h : WatchesOk s) (x : Handle) (regs : List Byte) (fields : List TargetField)
    (watches : t.watch.watches = s.watch.watches) (same : SamplesBut (Subject.amongChanged x regs fields) s t) :
    WatchesOk (t.targetReport x regs fields) := (h.evaluate _ watches same).markPanes _

/-! ### The owners -/

theorem SameOwners.setPod {s : State} {p : Fin 4} {new : Pod} (e : new.state = s.pods[p].state) :
    SameOwners s { s with pods := s.pods.set p new } := by
  refine ⟨fun q => ?_, fun _ _ => rfl, fun _ _ => rfl⟩
  dsimp only
  rw [vset_get]
  split
  · next pq => rw [e, pq]
  · rfl

theorem WatchesOk.putPod {s : State} (h : WatchesOk s) (p : Fin 4) (new : Pod) : WatchesOk (s.putPod p new) := by
  unfold State.putPod
  dsimp only
  split
  · refine WatchesOk.faultReport (WatchesOk.markPanes ?_ _) p _
    refine h.evaluate _ rfl fun i _ uncovered => ?_
    cases sub : s.watch.watches[i].subject with
    | pod q =>
      rw [sub] at uncovered
      have other : q ≠ p := by simpa using uncovered
      simp only [State.subjectSample, vset_other _ _ (Ne.symm other)]
    | none | targetCell | targetField | meter | decoder => rfl
  · next quiet =>
    simp only [not_or, not_not] at quiet
    exact h.of_same rfl rfl (.setPod quiet.1.symm)

theorem WatchesOk.putDecoder {s : State} (h : WatchesOk s) (d : Fin 6) (new : Decoder) : WatchesOk (s.putDecoder d new) := by
  have evaluated : ∀ t : State, t = (if s.decoders[d].aborted ≠ new.aborted ∨ s.decoders[d].unknown ≠ new.unknown then
      State.evaluate (fun sub => match sub with | .decoder e _ => e == d | _ => false) { s with decoders := s.decoders.set d new }
      else { s with decoders := s.decoders.set d new }) → WatchesOk t := by
    rintro _ rfl
    split
    · refine h.evaluate _ rfl fun i _ uncovered => ?_
      cases sub : s.watch.watches[i].subject with
      | decoder e f =>
        rw [sub] at uncovered
        have other : e ≠ d := by simpa using uncovered
        simp only [State.subjectSample, vset_other _ _ (Ne.symm other)]
      | none | targetCell | targetField | meter | pod => rfl
    · next quiet =>
      simp only [not_or, not_not] at quiet
      refine h.of_same rfl rfl ⟨fun _ => rfl, fun e f => ?_, fun _ _ => rfl⟩
      dsimp only
      rw [vset_get]
      split
      · next de =>
        subst de
        cases f
        · exact quiet.1.symm
        · exact quiet.2.symm
      · rfl
  unfold State.putDecoder
  dsimp only
  split
  · exact (evaluated _ rfl).markPanes _
  · exact evaluated _ rfl

theorem WatchesOk.putMeter {s : State} (h : WatchesOk s) (m : Fin 8) (new : Meter) : WatchesOk (s.putMeter m new) := by
  unfold State.putMeter
  dsimp only
  split
  · next quiet =>
    simp only [MeterRecord.reportedSame, Bool.and_eq_true, beq_iff_eq] at quiet
    obtain ⟨⟨⟨⟨⟨_, last⟩, min⟩, max⟩, count⟩, disturbed⟩ := quiet
    refine h.of_same rfl rfl ⟨fun _ => rfl, fun _ _ => rfl, fun e f => ?_⟩
    dsimp only
    rw [vset_get]
    split
    · next me =>
      subst me
      cases f <;> simp only [MeterRecord.sample, last, min, max, count, disturbed]
    · rfl
  · refine WatchesOk.markPanes ?_ _
    refine h.evaluate _ rfl fun i _ uncovered => ?_
    cases sub : s.watch.watches[i].subject with
    | meter e f =>
      rw [sub] at uncovered
      have other : e ≠ m := by simpa using uncovered
      simp only [State.subjectSample, vset_other _ _ (Ne.symm other)]
    | none | targetCell | targetField | decoder | pod => rfl

/-! ### Applications (R32 to R37) -/

/-- But for the registers touched, the cells read the same. -/
def Placing.Reads (cells : List TargetCell) (p : Placing) : Prop :=
  ∀ reg, reg ∉ p.touched → cellSample (cellAt reg p.cells) = cellSample (cellAt reg cells)

theorem Placing.Reads.place {cells : List TargetCell} {p : Placing} (h : p.Reads cells) (origin : CellOrigin) (reg value : Byte) :
    (p.place origin reg value).Reads cells := by
  intro k untouched
  unfold Placing.place at untouched ⊢
  split at untouched
  · next c hc =>
    dsimp only at untouched ⊢
    rw [cellAt_update reg k (fun x => { x with value := some value, origin, changed := x.changed || c.value != some value }) (fun _ => rfl)]
    by_cases differs : c.value = some value
    · have untouched : k ∉ p.touched := by simpa [differs] using untouched
      split
      · next e =>
        rw [← h k untouched, e, hc]
        simp [cellSample, differs]
      · exact h k untouched
    · have untouched : k ∉ p.touched ∧ k ≠ reg := by simpa [differs] using untouched
      rw [if_neg untouched.2]
      exact h k untouched.1
  · next absent =>
    by_cases can : canCreate p.cells p.free = true
    · rw [if_pos can] at untouched ⊢
      have untouched : k ∉ p.touched ∧ k ≠ reg := by simpa using untouched
      dsimp only
      rw [cellAt_insert { register := reg, value := some value, origin, changed := true, expected := none } k _ absent, if_neg untouched.2]
      exact h k untouched.1
    · rw [if_neg can] at untouched ⊢
      exact h k untouched

theorem Placing.Reads.placeAll {cells : List TargetCell} (origin : CellOrigin) (base wrap : Nat) (values : List Byte) (k : Nat)
    {p : Placing} (h : p.Reads cells) : (Placing.placeAll origin base wrap k p values).Reads cells := by
  induction values generalizing k p with
  | nil => exact h
  | cons v vs ih => exact ih (k + 1) (h.place origin _ v)

theorem Application.placing_reads (a : Application) (r : Record) (free : Nat) : (a.placing r free).Reads r.cells := by
  have start : ({ cells := r.cells, free, touched := [], unplaced := false, poolEmpty := false } : Placing).Reads r.cells := fun _ _ => rfl
  unfold Application.placing
  dsimp only
  split
  · exact start
  · exact start.placeAll _ _ _ _ _

/-- But for what its report names, an updated record reads the same (R37). -/
theorem Application.updated_sampleOf (a : Application) (ms : Word) (r : Record) (free : Nat) (h : Handle) {sub : Subject}
    (names : sub.handle? = some h)
    (unreported : Subject.amongChanged h (a.placing r free).touched (accessChanged r) sub = false) :
    (a.updated ms r (a.placing r free)).sampleOf sub = r.sampleOf sub := by
  cases sub with
  | targetCell x reg =>
    cases names
    have untouched : reg ∉ (a.placing r free).touched := by simpa [Subject.amongChanged] using unreported
    exact a.placing_reads r free reg untouched
  | targetField x f =>
    cases names
    have quiet : f ∉ accessChanged r := by simpa [Subject.amongChanged] using unreported
    cases f with
    | access =>
      have full : satInc r.access = r.access := by
        by_contra differs
        exact quiet (by simp [accessChanged, differs])
      simp only [Record.sampleOf, Record.field, Application.updated, full]
    | error => rfl
    | unanswered => rfl
  | none | meter | pod | decoder => cases names

/-- The state before the report of an application, but for the notices. -/
theorem WatchesOk.applyTo {s t : State} (h : WatchesOk s) (a : Application) (i : Fin 64) (r : Record)
    (watches : t.watch.watches = s.watch.watches)
    (same : SamplesBut (Subject.amongChanged (t.store.handle i) (a.placing r t.store.free).touched (accessChanged r)) s
      { t with store := t.store.applied a t.clock.ms i r }) : WatchesOk (t.applyTo a i r) := by
  unfold State.applyTo
  dsimp only
  refine h.targetReport _ _ _ ?_ ?_
  · split
    · exact (State.derive_watches _).trans watches
    · exact watches
  · intro k active unreported
    rw [← same k active unreported]
    split
    · refine State.subjectSample_same ?_ ?_ _
      · rw [State.raiseCellsFull_store]
        rfl
      · exact .of_same (State.raiseCellsFull_pods _) (State.raiseCellsFull_decoders _) (State.raiseCellsFull_meters _)
    · rfl

/-- An application to a slot that nobody reaches. -/
theorem WatchesOk.applyNew {s t : State} (h : WatchesOk s) (refs : ReferencesOk s) (a : Application) {i : Fin 64}
    (watches : t.watch.watches = s.watch.watches) (owners : SameOwners s t) (same : s.store.SameFor s.holders t.store)
    (free : t.store.slots[i].record = none) : WatchesOk (t.applyNew a i) := by
  refine h.applyTo (t := { t with store := t.store.setRecord i (Record.fresh a.decoder a.address false false t.clock.ms) }) a i _ watches ?_
  refine .of_sameFor _ refs (fun x j b held reach => ?_) ⟨owners.pods, owners.decoders, owners.meters⟩
  have fresh := Store.sameFor_of_free free (Record.fresh a.decoder a.address false false t.clock.ms) x j b held (same x j b held reach)
  have other : i ≠ j := by
    rintro rfl
    rw [(Store.reach_some.mp (same x i b held reach)).2.1] at free
    cases free
  have written := Store.reach_replace (st := t.store.setRecord i (Record.fresh a.decoder a.address false false t.clock.ms)) (i := i)
    (x := { (t.store.setRecord i (Record.fresh a.decoder a.address false false t.clock.ms)).slots[i] with record := some (a.updated t.clock.ms
      (Record.fresh a.decoder a.address false false t.clock.ms) (a.placing (Record.fresh a.decoder a.address false false t.clock.ms) t.store.free)) })
    (free := (a.placing (Record.fresh a.decoder a.address false false t.clock.ms) t.store.free).free) rfl rfl fresh
  rw [if_neg other] at written
  exact written

/-- The mark of a withheld application is no subject's. -/
theorem WatchesOk.withhold {s : State} (h : WatchesOk s) (refs : ReferencesOk s) (a : Application) : WatchesOk (s.withhold a) := by
  unfold State.withhold
  split
  · exact h
  · next i _ =>
    split
    · exact h
    · next r hr =>
      have marked : WatchesOk { s with store := s.store.setRecord i { r with withheldMark := true, withheldCount := satInc r.withheldCount } } := by
        refine h.of_samples rfl (.of_record refs hr (fun x j b => Store.reach_setRecord i _) (.of_same rfl rfl rfl) fun sub _ _ => ?_)
        cases sub with
        | targetField x f => cases f <;> rfl
        | none | targetCell | meter | pod | decoder => rfl
      dsimp only
      split
      · exact marked
      · exact marked.markPanes _

theorem WatchesOk.apply {s : State} (h : WatchesOk s) (refs : ReferencesOk s) (a : Application) : WatchesOk (s.apply a).1 := by
  unfold State.apply
  split
  · exact h.withhold refs a
  · split
    · next i _ =>
      split
      · next r hr =>
        refine h.applyTo a i r rfl (.of_record refs hr (fun x j b reach => ?_) (.of_same rfl rfl rfl)
          fun sub names unreported => a.updated_sampleOf s.clock.ms r s.store.free _ names unreported)
        exact Store.reach_replace (x := { s.store.slots[i] with record := some (a.updated s.clock.ms r (a.placing r s.store.free)) }) rfl rfl reach
      · exact h
    · split
      · exact h
      · split
        · next free => exact h.applyNew refs a rfl (.of_same rfl rfl rfl) (fun _ _ _ _ => id) (Store.freeSlot_some free)
        · split
          · next i victim =>
            obtain ⟨r, hr, can⟩ := Store.victim_some victim
            refine h.applyNew (t := { s with store := s.store.vacate i }) refs a rfl (.of_same rfl rfl rfl) (fun x j b held reach => ?_)
              (Store.vacate_get i)
            exact Store.reach_vacate reach ((referencesOk_iff.mp refs).unreferred hr (Record.evictable_references can) held reach)
          · exact h.notices rfl

theorem WatchesOk.errorReport {s : State} (h : WatchesOk s) (refs : ReferencesOk s) (d : Fin 6) (a : Byte) (reason : AbortReason) :
    WatchesOk (s.errorReport d a reason) := by
  unfold State.errorReport
  split
  · exact h
  · split
    · exact h
    · next i _ =>
      split
      · exact h
      · next r hr =>
        have samples : ∀ but : Subject → Bool, (∀ sub, sub.handle? = some (s.store.handle i) → but sub = false →
            (r.countError reason).1.sampleOf sub = r.sampleOf sub) →
            SamplesBut but s { s with store := s.store.setRecord i (r.countError reason).1 } := fun but reads =>
          .of_record refs hr (fun x j b => Store.reach_setRecord i _) (.of_same rfl rfl rfl) reads
        dsimp only
        split
        · next same => exact h.of_samples rfl (samples _ fun sub _ _ => by rw [same])
        · refine h.targetReport _ _ _ rfl (samples _ fun sub names unreported => ?_)
          unfold Record.countError at unreported ⊢
          cases sub with
          | targetCell x reg => split <;> rfl
          | targetField x f =>
            cases names
            split at unreported <;> cases f <;> simp [Subject.amongChanged, Record.sampleOf, Record.field] at unreported ⊢
          | none | meter | pod | decoder => cases names

/-! ### The parts of commands -/

/-- The store is kept, and with the references in order so are the watches. -/
structure WatchesKept (s t : State) : Prop where
  store   : StoreKept s t
  watches : ReferencesOk s → WatchesOk s → WatchesOk t

theorem WatchesKept.trans {s t u : State} (h : WatchesKept s t) (k : WatchesKept t u) : WatchesKept s u :=
  ⟨h.store.trans k.store, fun refs ok => k.watches (h.store.refs refs) (h.watches refs ok)⟩

theorem watchesKept_parts : Parts WatchesKept where
  refl s := ⟨.refl s, fun _ => id⟩
  trans _ _ _ := .trans
  same s t e := ⟨storeKept_parts.same s t e, fun _ h => h.of_same (congrArg WatchUnit.watches e.watch) e.store (.of_same e.pods e.decoders e.meters)⟩
  pod p new s := ⟨storeKept_parts.pod p new s, fun _ h => h.putPod p new⟩
  timer p x s := ⟨storeKept_parts.timer p x s, fun _ h => h.of_same rfl rfl (.setPod rfl)⟩
  decoder d new s := ⟨storeKept_parts.decoder d new s, fun _ h => h.putDecoder d new⟩
  meter m new s e := ⟨storeKept_parts.meter m new s e, fun _ h => h.putMeter m new⟩
  config m c s := ⟨storeKept_parts.config m c s, fun _ h => h.putMeter m _⟩
  apply a s := ⟨storeKept_parts.apply a s, fun refs h => h.apply refs a⟩
  error d a reason s := ⟨storeKept_parts.error d a reason s, fun refs h => h.errorReport refs d a reason⟩
  notices u s e freeze current := ⟨storeKept_parts.notices u s e freeze current, fun _ h => h.notices e⟩

end Sys2Proof.Machine
end

section
/-! Every step keeps the watches: the requests of the store, of watches and of panes, and then every command. -/

namespace Sys2Proof.Machine

/-! ### Requests of the store -/

theorem WatchesOk.ok {s : State} (h : WatchesOk s) : WatchesOk s.ok := h.of_same rfl rfl (.of_same rfl rfl rfl)

theorem WatchesOk.refuse {s : State} (h : WatchesOk s) (st : Status) : WatchesOk (s.refuse st) := h.of_same rfl rfl (.of_same rfl rfl rfl)

theorem WatchesOk.withRecord {s : State} (h : WatchesOk s) {x : Handle} {b : Bool} {act : Fin 64 → Record → State → State}
    (each : ∀ i r, s.store.reach x = some (i, r) → WatchesOk (act i r s)) : WatchesOk (s.withRecord x b act) := by
  unfold State.withRecord
  split
  · exact h.refuse _
  · split
    · exact h.refuse _
    · next reach => exact each _ _ reach

/-- The cells of a record change at one register at most, and that is reported. -/
theorem WatchesOk.putCells {s : State} (h : WatchesOk s) (refs : ReferencesOk s) {x : Handle} {i : Fin 64} {r : Record}
    (reach : s.store.reach x = some (i, r)) {cells : List TargetCell} (free : Nat) {register : Byte}
    (others : ∀ k, k ≠ register → cellAt k cells = cellAt k r.cells) :
    WatchesOk ((s.putCells i r cells free).targetReport x [register] []).ok := by
  refine WatchesOk.ok (h.targetReport _ _ _ rfl ?_)
  refine .of_record refs (Store.reach_some.mp reach).2.1 (r' := { r with cells }) (fun y j b =>
    Store.reach_replace (x := { s.store.slots[i] with record := some { r with cells } }) rfl rfl) (.of_same rfl rfl rfl) fun sub names unreported => ?_
  rw [Store.handle_of_reach reach] at names
  cases sub with
  | targetCell y reg =>
    cases names
    have other : reg ≠ register := by simpa [Subject.amongChanged] using unreported
    simp only [Record.sampleOf, others reg other]
  | targetField y f => cases f <;> rfl
  | none | meter | pod | decoder => cases names

theorem cellAt_update_other {register k : Byte} (other : k ≠ register) (f : TargetCell → TargetCell) (hf : ∀ c, (f c).register = c.register)
    (cells : List TargetCell) : cellAt k (updateCell register f cells) = cellAt k cells := by
  rw [cellAt_update register k f hf, if_neg other]

theorem cellAt_insert_other {c : TargetCell} {k : Byte} {cells : List TargetCell} (absent : cellAt c.register cells = none)
    (other : k ≠ c.register) : cellAt k (insertCell c cells) = cellAt k cells := by
  rw [cellAt_insert c k cells absent, if_neg other]

theorem cellAt_remove_other {register k : Byte} (other : k ≠ register) (cells : List TargetCell) :
    cellAt k (removeCell register cells) = cellAt k cells := by
  rw [cellAt_remove register k, if_neg other]

/-- Two cells that subjects read alike. -/
theorem cellSample_map {o : Option TargetCell} {f : TargetCell → TargetCell}
    (same : ∀ c, o = some c → (f c).value = c.value ∧ (f c).expected = c.expected) : cellSample (o.map f) = cellSample o := by
  cases o with
  | none => rfl
  | some c =>
    obtain ⟨value, expected⟩ := same c rfl
    simp only [Option.map_some, cellSample, value, expected]

theorem tgtSetCell_watchesOk {s : State} (h : WatchesOk s) (refs : ReferencesOk s) (x : Handle) (register value : Byte) :
    WatchesOk (tgtSetCell x register value s) := by
  refine h.withRecord fun i r reach => ?_
  split
  · next c hc =>
    dsimp only
    split
    · next same =>
      refine WatchesOk.ok (h.of_samples rfl ?_)
      refine .of_record refs (Store.reach_some.mp reach).2.1 (r' := { r with cells := _ }) (fun y j b =>
        Store.reach_replace (x := { s.store.slots[i] with record := some { r with cells := _ } }) rfl rfl) (.of_same rfl rfl rfl) fun sub _ _ => ?_
      cases sub with
      | targetCell y reg =>
        simp only [Record.sampleOf]
        rw [cellAt_update register reg (fun c => { c with value := some value, origin := .host }) fun _ => rfl]
        split
        · next e =>
          rw [e]
          exact cellSample_map fun c' e' => by
            rw [hc] at e'
            cases e'
            exact ⟨same.symm, rfl⟩
        · rfl
      | targetField y f => cases f <;> rfl
      | none | meter | pod | decoder => rfl
    · exact h.putCells refs reach _ fun k other => cellAt_update_other other _ (by exact fun _ => rfl) _
  · next absent =>
    split
    · exact h.putCells refs reach _ fun k other => cellAt_insert_other absent other
    · exact h.refuse _

theorem tgtExpect_watchesOk {s : State} (h : WatchesOk s) (refs : ReferencesOk s) (x : Handle) (register operation value mask : Byte) :
    WatchesOk (tgtExpect x register operation value mask s) := by
  refine h.withRecord fun i r reach => ?_
  have updated : ∀ e : Option Expected, WatchesOk ((s.putCells i r (updateCell register (fun c => { c with expected := e }) r.cells)
      s.store.free).targetReport x [register] []).ok := fun e =>
    h.putCells refs reach _ fun k other => cellAt_update_other other _ (by exact fun _ => rfl) _
  split
  · unfold expectSet
    split
    · exact updated _
    · next absent =>
      split
      · exact h.putCells refs reach _ fun k other => cellAt_insert_other absent other
      · exact h.refuse _
  · unfold expectClear
    split
    · exact h.refuse _
    · split
      · exact h.refuse _
      · split
        · exact h.putCells refs reach _ fun k other => cellAt_remove_other other _
        · exact updated _

theorem tgtDropCell_watchesOk {s : State} (h : WatchesOk s) (refs : ReferencesOk s) (x : Handle) (register : Byte) :
    WatchesOk (tgtDropCell x register s) := by
  refine h.withRecord fun i r reach => ?_
  split
  · exact h.refuse _
  · exact h.putCells refs reach _ fun k other => cellAt_remove_other other _

/-- A change of a record that no subject reads. -/
theorem WatchesOk.setRecord {s : State} (h : WatchesOk s) (refs : ReferencesOk s) {i : Fin 64} {r r' : Record}
    (record : s.store.slots[i].record = some r) (same : ∀ sub, r'.sampleOf sub = r.sampleOf sub) :
    WatchesOk { s with store := s.store.setRecord i r' } :=
  h.of_samples rfl (.of_record refs record (fun _ _ _ => Store.reach_setRecord i r') (.of_same rfl rfl rfl) fun sub _ _ => same sub)

theorem tgtPin_watchesOk {s : State} (h : WatchesOk s) (refs : ReferencesOk s) (x : Handle) (on : Byte) : WatchesOk (tgtPin x on s) := by
  refine h.withRecord fun i r reach => WatchesOk.ok (h.setRecord refs (Store.reach_some.mp reach).2.1 fun sub => ?_)
  cases sub with
  | targetField y f => cases f <;> rfl
  | none | targetCell | meter | pod | decoder => rfl

/-- Cells that a map leaves in their registers. -/
theorem cellAt_map {f : TargetCell → TargetCell} (hf : ∀ c, (f c).register = c.register) (k : Byte) (cells : List TargetCell) :
    cellAt k (cells.map f) = (cellAt k cells).map f := by
  unfold cellAt
  rw [List.find?_map]
  simp only [Function.comp_def, hf]

theorem Record.clearMarks_sampleOf (shown : List TargetCell) (r : Record) (sub : Subject) : (r.clearMarks shown).sampleOf sub = r.sampleOf sub := by
  cases sub with
  | targetCell y reg =>
    simp only [Record.sampleOf, Record.clearMarks]
    rw [cellAt_map fun c => by split <;> rfl]
    exact cellSample_map fun c _ => by
      split
      · exact ⟨rfl, rfl⟩
      · exact ⟨rfl, rfl⟩
  | targetField y f => cases f <;> rfl
  | none | meter | pod | decoder => rfl

theorem tgtRead_watchesOk {s : State} (h : WatchesOk s) (refs : ReferencesOk s) (x : Handle) (first max clear : Byte) :
    WatchesOk (tgtRead x first max clear s) := by
  refine h.withRecord fun i r reach => ?_
  have cleared := h.setRecord refs (Store.reach_some.mp reach).2.1 (r.clearMarks_sampleOf (returnedCells first max r))
  dsimp only
  split
  · split
    · exact (cleared.of_same rfl rfl (.of_same rfl rfl rfl) : WatchesOk { s.answered .ok _ with store := _ }).markPanes _
    · exact cleared.of_same rfl rfl (.of_same rfl rfl rfl)
  · exact h.of_same rfl rfl (.of_same rfl rfl rfl)

theorem tgtDeclare_watchesOk {s : State} (h : WatchesOk s) (refs : ReferencesOk s) (decoder address pinned : Byte) :
    WatchesOk (tgtDeclare decoder address pinned s) := by
  unfold tgtDeclare
  split
  · split
    · exact h.of_same rfl rfl (.of_same rfl rfl rfl)
    · split
      · exact h.refuse _
      · next free =>
        exact h.of_samples rfl (.of_sameFor _ refs (Store.sameFor_of_free (Store.freeSlot_some free) _) (.of_same rfl rfl rfl))
  · exact h.refuse _

/-! ### Retirement (R40, R133) -/

theorem Subject.names_iff {h : Handle} {sub : Subject} : sub.names h = true ↔ sub.handle? = some h := by
  cases sub <;> simp [Subject.names, Subject.handle?]

/-- A retirement, its notice first: a watch that names the record is DORMANT, and every other reaches what it reached. -/
theorem WatchesOk.retire {s : State} (h : WatchesOk s) (refs : ReferencesOk s) (i : Fin 64) : WatchesOk (s.retire i) := by
  have watches : (s.retire i).watch.watches = tab fun k => s.watch.watches[k].retire (s.store.handle i) := by
    unfold State.retire State.retireNotice
    dsimp only
    split
    · exact State.setWatches_watches _ _
    · exact State.setWatches_watches _ _
  have store : (s.retire i).store = s.store.vacate i := by
    show (s.retireNotice _).store.vacate i = _
    rw [State.retireNotice_store]
  have owners : SameOwners s (s.retire i) :=
    .of_same (State.retireNotice_pods _ _) (State.retireNotice_decoders _ _) (State.retireNotice_meters _ _)
  intro k
  rw [watches, tab_get]
  unfold Watch.retire
  split
  · exact ⟨nofun, nofun, nofun, fun _ => rfl, nofun⟩
  · next spared =>
    refine (h k).of_sample fun active => ?_
    cases names : s.watch.watches[k].subject.handle? with
    | none => exact State.subjectSample_owner owners names
    | some x =>
      obtain ⟨held, j, r, reach⟩ := refs.reach_watch active names
      have other : j ≠ i := by
        rintro rfl
        refine spared (Bool.and_eq_true_iff.mpr ⟨active, Subject.names_iff.mpr ?_⟩)
        rw [names, Store.handle_of_reach reach]
      rw [State.subjectSample_target names reach, State.subjectSample_target names (by rw [store]; exact Store.reach_vacate reach other)]

theorem tgtRetire_watchesOk {s : State} (h : WatchesOk s) (refs : ReferencesOk s) (x : Handle) (force : Byte) :
    WatchesOk (tgtRetire x force s) := by
  refine h.withRecord fun i r reach => ?_
  split
  · exact h.refuse _
  · exact (h.retire refs i).ok

/-! ### References -/

/-- A record that is replaced is reached, or not, as it was. -/
theorem Store.reach_refer {st : Store} {i : Fin 64} {r : Record} (record : st.slots[i].record = some r) (r' : Record) (h : Handle) :
    (st.setRecord i r').reach h = (st.reach h).map fun x => (x.1, if i = x.1 then r' else x.2) := by
  cases reach : st.reach h with
  | some x => exact Store.reach_setRecord i r' reach
  | none =>
    cases again : (st.setRecord i r').reach h with
    | none => rfl
    | some y =>
      obtain ⟨slot, own, gen⟩ := Store.reach_some.mp again
      have live : ∃ b, st.slots[y.1].record = some b ∧ st.slots[y.1].gen = h.gen := by
        unfold Store.setRecord at own gen
        dsimp only at own gen
        rw [vset_get] at own gen
        split at own
        · next e =>
          rw [if_pos e] at gen
          exact ⟨r, e ▸ record, e ▸ gen⟩
        · next e =>
          rw [if_neg e] at gen
          exact ⟨_, own, gen⟩
      obtain ⟨b, own, gen⟩ := live
      rw [Store.reach_some.mpr ⟨slot, own, gen⟩] at reach
      cases reach

/-- A reference more or less is nothing that a subject reads. -/
theorem State.subjectSample_refer {s : State} {i : Fin 64} {r : Record} (record : s.store.slots[i].record = some r) (n : Nat)
    (sub : Subject) : ({ s with store := s.store.setRecord i { r with references := n } }).subjectSample sub = s.subjectSample sub := by
  cases names : sub.handle? with
  | none =>
    exact State.subjectSample_owner (s := s) (t := { s with store := s.store.setRecord i { r with references := n } })
      (.of_same rfl rfl rfl) names
  | some h =>
    have again := Store.reach_refer record { r with references := n } h
    cases reach : s.store.reach h with
    | none =>
      rw [reach] at again
      cases sub with
      | targetCell x reg => cases names; simp only [State.subjectSample, reach, again, Option.map_none]
      | targetField x f => cases names; simp only [State.subjectSample, reach, again, Option.map_none]
      | none | meter | pod | decoder => cases names
    | some y =>
      rw [reach] at again
      rw [State.subjectSample_target names reach, State.subjectSample_target names again]
      split
      · next e =>
        have same : y.2 = r := by
          have own := (Store.reach_some.mp reach).2.1
          rw [← e, record] at own
          exact (Option.some.inj own).symm
        rw [same]
        cases sub with
        | targetField x f => cases f <;> rfl
        | none | targetCell | meter | pod | decoder => rfl
      · rfl

theorem State.subjectSample_bind (o : Option Handle) (s : State) (sub : Subject) : (s.bind? o).subjectSample sub = s.subjectSample sub := by
  cases o with
  | none => rfl
  | some h =>
    unfold State.bind? State.bind
    dsimp only
    split
    · rfl
    · next reach => exact State.subjectSample_refer (Store.reach_some.mp reach).2.1 _ sub

theorem State.subjectSample_unbind (o : Option Handle) (s : State) (sub : Subject) : (s.unbind? o).subjectSample sub = s.subjectSample sub := by
  cases o with
  | none => rfl
  | some h =>
    unfold State.unbind? State.unbind
    dsimp only
    split
    · rfl
    · next reach => exact State.subjectSample_refer (Store.reach_some.mp reach).2.1 _ sub

theorem WatchesOk.rebind {s : State} (h : WatchesOk s) (new old : Option Handle) : WatchesOk ((s.bind? new).unbind? old) :=
  h.of_samples ((congrArg WatchUnit.watches (State.unbindOpt_watch _ _)).trans (congrArg WatchUnit.watches (State.bindOpt_watch _ _)))
    fun _ _ _ => (State.subjectSample_unbind _ _ _).trans (State.subjectSample_bind _ _ _)

theorem WatchesOk.unbind {s : State} (h : WatchesOk s) (old : Option Handle) : WatchesOk (s.unbind? old) :=
  h.of_samples (congrArg WatchUnit.watches (State.unbindOpt_watch _ _)) fun _ _ _ => State.subjectSample_unbind _ _ _

/-! ### Requests of watches (R136, R137, R143) -/

theorem WatchesOk.putWatch {s : State} (h : WatchesOk s) (i : Fin 32) {new : Watch} (ok : Watch.Ok s new) : WatchesOk (s.putWatch i new) := by
  have samples : ∀ sub, (s.putWatch i new).subjectSample sub = s.subjectSample sub :=
    State.subjectSample_same (State.putWatch_store _ _ _)
      (.of_same (State.putWatch_pods _ _ _) (State.putWatch_decoders _ _ _) (State.putWatch_meters _ _ _))
  intro k
  have get : (s.putWatch i new).watch.watches[k] = if i = k then new else s.watch.watches[k] := by
    rw [State.putWatch, State.setWatches_watches, vset_get]
  rw [get]
  split
  · exact ok.of_sample fun _ => samples _
  · exact (h k).of_sample fun _ => samples _

theorem Watch.Ok.reset (s : State) : Watch.Ok s Watch.reset := ⟨nofun, nofun, nofun, nofun, fun _ => rfl⟩

/-- A watch that starts with what its subject reads (R136, R143). -/
theorem Watch.Ok.started {s : State} {w : Watch} (fresh : w.sample = s.subjectSample w.subject)
    (start : w.state = if w.condition.isChange then .idle else if w.condition.holds w.sample then .held else .idle) : Watch.Ok s w := by
  have states : (w.state = .idle ∧ (w.condition ≠ .change → w.condition.holds w.sample = false)) ∨
      (w.state = .held ∧ w.condition ≠ .change ∧ w.condition.holds w.sample = true) := by
    rw [start]
    by_cases change : w.condition.isChange = true
    · rw [if_pos change]
      exact .inl ⟨rfl, fun level => absurd (Condition.isChange_iff.mp change) level⟩
    · rw [if_neg change]
      by_cases holds : w.condition.holds w.sample = true
      · rw [if_pos holds]
        exact .inr ⟨rfl, fun e => change (Condition.isChange_iff.mpr e), holds⟩
      · rw [if_neg holds]
        exact .inl ⟨rfl, fun _ => by simpa using holds⟩
  obtain ⟨state, fails⟩ | ⟨state, level, holds⟩ := states
  · exact ⟨fun _ => fresh, fun _ => fails, by rw [state]; nofun, by rw [state]; nofun, by rw [state]; nofun⟩
  · exact ⟨fun _ => fresh, by rw [state]; nofun, fun _ => ⟨level, holds⟩, by rw [state]; nofun, by rw [state]; nofun⟩

theorem wchSet_watchesOk {s : State} (h : WatchesOk s) (watch : Byte) (sub : SubjectBytes) (cond : ConditionBytes) (level actions : Byte) :
    WatchesOk (wchSet watch sub cond level actions s) := by
  simp only [wchSet]
  split
  · exact h.refuse _
  · next i _ =>
    split
    · exact h.refuse _
    · next w _ =>
      split
      · exact h.refuse _
      · exact ((h.rebind _ _).putWatch i (.started rfl rfl)).ok

theorem wchClear_watchesOk {s : State} (h : WatchesOk s) (watch : Byte) : WatchesOk (wchClear watch s) := by
  simp only [wchClear]
  split
  · exact h.refuse _
  · next i _ =>
    split
    · exact h.ok
    · exact ((h.unbind _).putWatch i (.reset _)).ok

theorem ntcAckWatch_watchesOk {s : State} (h : WatchesOk s) (watch : Byte) : WatchesOk (ntcAckWatch watch s) := by
  simp only [ntcAckWatch]
  split
  · exact h.refuse _
  · next i _ =>
    split
    · exact h.refuse _
    · exact (h.putWatch i (.started rfl rfl)).ok

/-! ### Panes and resets -/

theorem WatchesOk.panelTest {s : State} (h : WatchesOk s) (lbusy : Bool) : WatchesOk (s.panelTest lbusy) :=
  h.of_same (congrArg WatchUnit.watches (State.panelTest_watch _ _)) (State.panelTest_store _ _)
    (.of_same (State.panelTest_pods _ _) (State.panelTest_decoders _ _) (State.panelTest_meters _ _))

theorem WatchesOk.vacateRect {s : State} (h : WatchesOk s) (p : Pane) : WatchesOk (s.vacateRect p) :=
  h.of_same (congrArg WatchUnit.watches (State.vacateRect_watch _ _)) (State.vacateRect_store _ _)
    (.of_same (State.vacateRect_pods _ _) (State.vacateRect_decoders _ _) (State.vacateRect_meters _ _))

/-- A pane is set, the test for a burst made and the request answered. -/
theorem WatchesOk.setPaneTested {s : State} (h : WatchesOk s) (i : Fin 16) (p : Pane) (lbusy : Bool) :
    WatchesOk ((s.setPane i p).panelTest lbusy).ok :=
  (WatchesOk.panelTest (s := s.setPane i p) (h.of_same rfl rfl (.of_same rfl rfl rfl)) lbusy).ok


/-! ### Every command -/

theorem WatchesOk.of_reset {s : State} (h : s.watch.watches = Vector.replicate 32 Watch.reset) : WatchesOk s := fun i => by
  have get : s.watch.watches[i] = Watch.reset := by rw [h]; exact replicate_get 32 _ i
  rw [get]
  exact .reset s

theorem refreshTick_watchesOk {s : State} (h : WatchesOk s) (lbusy : Bool) : WatchesOk (refreshTick lbusy s) := by
  have later : ∀ u : State, WatchesOk u → WatchesOk (u.nextInterval.panelTest lbusy) := fun u k =>
    WatchesOk.panelTest (s := u.nextInterval) (k.of_same rfl rfl (.of_same rfl rfl rfl)) lbusy
  unfold refreshTick
  split
  · exact later _ (h.of_same (congrArg WatchUnit.watches s.render_watch) s.render_store
      (.of_same s.render_pods s.render_decoders s.render_meters))
  · exact h

theorem effect_watchesOk (c : Instr) {s : State} (refs : ReferencesOk s) (h : WatchesOk s) : WatchesOk (effect c s) := by
  by_cases plain : isPlain c = true
  · exact (watchesKept_parts.plain plain s).watches refs h
  cases c
  case fullReset sense => exact .of_reset rfl
  case devRestart => exact .of_reset rfl
  case tgtRead x first max clear => exact tgtRead_watchesOk h refs x first max clear
  case tgtDeclare decoder address pinned => exact tgtDeclare_watchesOk h refs decoder address pinned
  case tgtSetCell x register value => exact tgtSetCell_watchesOk h refs x register value
  case tgtExpect x register operation value mask => exact tgtExpect_watchesOk h refs x register operation value mask
  case tgtDropCell x register => exact tgtDropCell_watchesOk h refs x register
  case tgtPin x on => exact tgtPin_watchesOk h refs x on
  case tgtRetire x force => exact tgtRetire_watchesOk h refs x force
  case wchSet watch sub cond level actions => exact wchSet_watchesOk h watch sub cond level actions
  case wchClear watch => exact wchClear_watchesOk h watch
  case ntcAckWatch watch => exact ntcAckWatch_watchesOk h watch
  case paneSet pane row column width height kind names format label lbusy =>
    simp only [effect, paneSet]
    repeat' split
    all_goals first
      | exact h.refuse _
      | exact ((h.rebind _ _).vacateRect _).setPaneTested _ _ lbusy
  case paneClear pane lbusy =>
    simp only [effect, paneClear]
    split
    · exact h.refuse _
    · exact ((h.unbind _).vacateRect _).setPaneTested _ _ lbusy
  case refreshTick lbusy => exact refreshTick_watchesOk h lbusy
  all_goals exact absurd rfl plain

/-- Settles O59: what every command keeps, where the references are in order, every step keeps; the samples of the filters are no subject's. -/
theorem stepKeepsWatches : Obligations.StepKeepsWatches := fun s t all h =>
  have same : ∀ u v : State, v.store = u.store → v.watch = u.watch → v.display = u.display → SameOwners u v →
      ReferencesOk u ∧ WatchesOk u → ReferencesOk v ∧ WatchesOk v := fun u v store watch display owners k =>
    ⟨(StoreKept.of_same store (.of_same (by rw [watch]) (by rw [display]))).refs k.1, k.2.of_same (by rw [watch]) store owners⟩
  (step_keeps (P := fun u => ReferencesOk u ∧ WatchesOk u) (fun u _ k => same u _ rfl rfl rfl (.of_same rfl rfl rfl) k)
    (fun c u k _ => ⟨(effect_storeKept c u).refs k.1, effect_watchesOk c k.1 k.2⟩)
    (fun u now k _ => same u (u.sampledAt now) rfl rfl rfl (.of_same rfl rfl rfl) k) h ⟨all.refs, all.watches⟩).2

end Sys2Proof.Machine
end

section
/-! What is shown (R166, R169): every pane that is not stale shows what it was rendered with. A report marks the panes whose content it changes, so every part of a command leaves the fresh panes as they were. -/

namespace Sys2Proof.Machine

/-! ### What a pane shows -/

/-- What a pane shows of a record. -/
def Record.contentFor (r : Record) (p : Pane) : Content :=
  match p.subject with
  | .target _ first count => targetContent p.rect.width p.format first count r
  | .none | .meter _ _ | .pod _ | .watch _ | .decoder _ | .device => oneLine p.rect.width dashes

/-- The lines of the owners are the same. -/
structure SameLines (s t : State) : Prop where
  pods     : ∀ p : Fin 4, t.pods[p].line = s.pods[p].line
  decoders : ∀ (d : Fin 6) (f : Format), (t.decoders[d]).line f = (s.decoders[d]).line f
  meters   : ∀ (m : Fin 8) (x : MeterField) (f : Format), t.meters[m].line x f = s.meters[m].line x f
  watches  : ∀ (w : Fin 32) (f : Format), (t.watch.watches[w]).line f = (s.watch.watches[w]).line f
  device   : t.watch.line = s.watch.line

theorem SameLines.of_same {s t : State} (pods : t.pods = s.pods) (decoders : t.decoders = s.decoders) (meters : t.meters = s.meters)
    (watch : t.watch = s.watch) : SameLines s t :=
  ⟨fun p => by rw [pods], fun d f => by rw [decoders], fun m x f => by rw [meters], fun w f => by rw [watch], by rw [watch]⟩

theorem State.content_orphaned {s t : State} {p : Pane} (orphaned : p.state = .orphaned) : t.content p = s.content p := by
  unfold State.content
  rw [orphaned]

theorem State.content_target {s : State} {p : Pane} {h : Handle} {i : Fin 64} {r : Record} (live : p.state = .live)
    (names : p.subject.handle? = some h) (reach : s.store.reach h = some (i, r)) : s.content p = r.contentFor p := by
  unfold State.content Record.contentFor
  rw [live]
  cases sub : p.subject with
  | target x first count =>
    rw [sub] at names
    cases names
    simp only [reach]
  | none | meter | pod | watch | decoder | device =>
    rw [sub] at names
    cases names

/-- A pane that names no handle shows its owner. -/
theorem State.content_owner {s t : State} (h : SameLines s t) {p : Pane} (names : p.subject.handle? = none) : t.content p = s.content p := by
  unfold State.content
  cases p.state with
  | orphaned => rfl
  | free | live =>
    dsimp only
    cases sub : p.subject with
    | target x first count =>
      rw [sub] at names
      cases names
    | none => rfl
    | meter m x => simp only [h.meters]
    | pod q => simp only [h.pods]
    | watch w => simp only [h.watches]
    | decoder d => simp only [h.decoders]
    | device => simp only [h.device]

theorem State.content_same {s t : State} (store : t.store = s.store) (h : SameLines s t) (p : Pane) : t.content p = s.content p := by
  cases names : p.subject.handle? with
  | none => exact State.content_owner h names
  | some x =>
    unfold State.content
    rw [store]
    cases sub : p.subject with
    | none | target => rfl
    | meter | pod | watch | decoder | device =>
      rw [sub] at names
      cases names

/-! ### Fresh panes -/

/-- But for the LIVE panes of the subjects left out, what is not stale in `t` is as in `s` and shows what it showed. -/
structure ShownBut (but : PaneSubject → Bool) (s t : State) : Prop where
  grid  : t.display.grid = s.display.grid
  panes : ∀ i : Fin 16, t.display.panes[i].state ≠ .free → t.display.panes[i].stale = false →
            t.display.panes[i] = s.display.panes[i] ∧
            (t.display.panes[i].state = .live → but t.display.panes[i].subject = false →
              t.content t.display.panes[i] = s.content t.display.panes[i])

/-- What is not stale is as it was. -/
def Shown (s t : State) : Prop := ShownBut (fun _ => false) s t

namespace ShownBut

theorem of_content {but : PaneSubject → Bool} {s t : State} (panes : t.display.panes = s.display.panes) (grid : t.display.grid = s.display.grid)
    (content : ∀ i : Fin 16, s.display.panes[i].state = .live → but s.display.panes[i].subject = false →
      t.content s.display.panes[i] = s.content s.display.panes[i]) : ShownBut but s t := by
  refine ⟨grid, fun i _ _ => ?_⟩
  rw [panes]
  exact ⟨rfl, content i⟩

theorem trans {but : PaneSubject → Bool} {s t u : State} (h : ShownBut but s t) (k : ShownBut but t u) : ShownBut but s u := by
  refine ⟨k.grid.trans h.grid, fun i used fresh => ?_⟩
  obtain ⟨same, content⟩ := k.panes i used fresh
  rw [same] at used fresh content ⊢
  obtain ⟨same', content'⟩ := h.panes i used fresh
  exact ⟨same', fun live other => (content live other).trans (content' live other)⟩

/-- What holds of all panes holds but for some. -/
theorem of_shown {but : PaneSubject → Bool} {s t : State} (h : Shown s t) : ShownBut but s t :=
  ⟨h.grid, fun i used fresh => ⟨(h.panes i used fresh).1, fun live _ => (h.panes i used fresh).2 live rfl⟩⟩

theorem later {but : PaneSubject → Bool} {s t u : State} (h : ShownBut but s t) (k : Shown t u) : ShownBut but s u := h.trans (of_shown k)

/-- The report marks the panes left out (R166). -/
theorem mark {but : PaneSubject → Bool} {s t : State} (h : ShownBut but s t) : Shown s (t.markPanes but) := by
  refine ⟨h.grid, fun i used fresh => ?_⟩
  have get : (t.markPanes but).display.panes[i] = t.display.panes[i].report but := tab_get _ i
  rw [get] at used fresh ⊢
  have unmarked : ¬ (t.display.panes[i].state = .live ∧ but t.display.panes[i].subject = true) := fun marked => by
    unfold Pane.report at fresh
    rw [if_pos marked] at fresh
    cases fresh
  have same : t.display.panes[i].report but = t.display.panes[i] := if_neg unmarked
  rw [same] at used fresh ⊢
  obtain ⟨own, content⟩ := h.panes i used fresh
  exact ⟨own, fun live _ => content live (Bool.not_eq_true _ ▸ fun covered => unmarked ⟨live, covered⟩)⟩

end ShownBut

namespace Shown

theorem of_content {s t : State} (panes : t.display.panes = s.display.panes) (grid : t.display.grid = s.display.grid)
    (content : ∀ p, t.content p = s.content p) : Shown s t := ShownBut.of_content panes grid fun _ _ _ => content _

theorem of_same {s t : State} (panes : t.display.panes = s.display.panes) (grid : t.display.grid = s.display.grid)
    (store : t.store = s.store) (lines : SameLines s t) : Shown s t := of_content panes grid (State.content_same store lines)

theorem refl (s : State) : Shown s s := of_content rfl rfl fun _ => rfl

theorem trans {s t u : State} (h : Shown s t) (k : Shown t u) : Shown s u := ShownBut.trans h k

theorem marked (but : PaneSubject → Bool) (s : State) : Shown s (s.markPanes but) := (ShownBut.of_shown (refl s)).mark

/-- Panes that change and are stale then, or do not change. -/
theorem of_stale {s t : State} (grid : t.display.grid = s.display.grid) (content : ∀ p, t.content p = s.content p)
    (panes : ∀ i : Fin 16, t.display.panes[i] = s.display.panes[i] ∨ t.display.panes[i].stale = true) : Shown s t := by
  refine ⟨grid, fun i _ fresh => ⟨(panes i).resolve_right ?_, fun _ _ => content _⟩⟩
  rw [fresh]
  decide

theorem deriveHighlights (s : State) : Shown s s.deriveHighlights := by
  refine of_stale rfl (fun _ => rfl) fun i => ?_
  rw [State.deriveHighlights_get]
  unfold WatchUnit.rehighlight
  split
  · exact .inr rfl
  · exact .inl rfl

end Shown

/-- A cell in two rectangles. -/
theorem Rect.meets_of_covers {a b : Rect} {row col : Nat} (ha : a.covers row col = true) (hb : b.covers row col = true) : a.meets b = true := by
  unfold Rect.covers Rect.meets at *
  simp only [Bool.and_eq_true, decide_eq_true_eq] at *
  omega

theorem PictureOk.of_shown {s t : State} (h : PictureOk s) (k : Shown s t) : PictureOk t := by
  intro i row col
  dsimp only
  intro used fresh covers
  obtain ⟨same, content⟩ := k.panes i used fresh
  have shows : t.content t.display.panes[i] = s.content t.display.panes[i] := by
    cases st : t.display.panes[i].state with
    | free => exact absurd st used
    | live => exact content st rfl
    | orphaned => exact State.content_orphaned st
  rw [shows, k.grid]
  rw [same] at used fresh covers ⊢
  exact h i row col used fresh covers

/-! ### The watch table and the notices -/

theorem State.derive_shown (s : State) : Shown s s.derive := by
  have content : ∀ but : PaneSubject → Bool, (but .device = false → s.watch.derived.line = s.watch.line) →
      ShownBut but s { s with watch := s.watch.derived } := fun but line => by
    refine .of_content rfl rfl fun i live other => ?_
    unfold State.content
    rw [live]
    cases sub : s.display.panes[i].subject with
    | device =>
      rw [sub] at other
      exact congrArg (oneLine _) (line other)
    | none | target | meter | pod | watch | decoder => rfl
  unfold State.derive
  dsimp only
  split
  · exact (content PaneSubject.isDevice nofun).mark
  · next same =>
    simp only [not_or, not_not] at same
    obtain ⟨freeze, current⟩ := same
    exact content _ fun _ => by
      unfold WatchUnit.line
      rw [freeze, current]

theorem Watch.line_of_unreported {w w' : Watch} (h : w.reported w' = false) (f : Format) : w'.line f = w.line f := by
  simp only [Watch.reported, Bool.or_eq_false_iff, bne_eq_false_iff_eq] at h
  unfold Watch.line
  rw [h.1, h.2]

/-- The watch table changes, with its report (R134). -/
theorem State.setWatches_shown (ws : Vector Watch 32) (s : State) : Shown s (s.setWatches ws) := by
  let changed : Fin 32 → Bool := fun i => (s.watch.watches[i]).reported ws[i]
  let but : PaneSubject → Bool := fun sub => match sub with | .watch i => changed i | _ => false
  let s1 : State := { s with watch := { s.watch with watches := ws } }
  have put : ShownBut but s s1 := by
    refine .of_content rfl rfl fun i live other => ?_
    unfold State.content
    rw [live]
    cases sub : s.display.panes[i].subject with
    | watch w =>
      rw [sub] at other
      exact congrArg (oneLine _) (Watch.line_of_unreported other _)
    | none | target | meter | pod | decoder | device => rfl
  have reported : Shown s (s1.watchReport changed) := by
    unfold State.watchReport
    split
    · exact put.mark.trans (.deriveHighlights _)
    · next quiet =>
      have none : ∀ w, changed w = false := fun w => by
        by_contra e
        exact quiet (List.any_eq_true.mpr ⟨w, List.mem_finRange w, by simpa using e⟩)
      refine ⟨put.grid, fun i used fresh => ⟨(put.panes i used fresh).1, fun live _ => (put.panes i used fresh).2 live ?_⟩⟩
      cases s1.display.panes[i].subject with
      | watch w => exact none w
      | none | target | meter | pod | decoder | device => rfl
  exact reported.trans (State.derive_shown _)

theorem State.evaluate_shown (c : Subject → Bool) (s : State) : Shown s (s.evaluate c) := State.setWatches_shown _ s

/-- A change of the notices is followed by a derivation. -/
theorem State.notices_shown {s : State} {u : WatchUnit} (watches : u.watches = s.watch.watches) (freeze : u.freeze = s.watch.freeze)
    (current : u.current = s.watch.current) : Shown s (State.derive { s with watch := u }) := by
  refine Shown.trans (t := { s with watch := u }) ?_ (State.derive_shown _)
  refine .of_same rfl rfl rfl ⟨fun _ => rfl, fun _ _ => rfl, fun _ _ _ => rfl, fun w f => by rw [watches], ?_⟩
  show u.line = s.watch.line
  unfold WatchUnit.line
  rw [freeze, current]

theorem State.targetReport_shown {s t : State} {h : Handle} (k : ShownBut (PaneSubject.shows h) s t) (regs : List Byte)
    (fields : List TargetField) : Shown s (t.targetReport h regs fields) := (k.later (State.evaluate_shown _ t)).mark

/-! ### The owners -/

/-- The pods change; but for those left out they show the same. -/
theorem ShownBut.pods {but : PaneSubject → Bool} {s : State} (pods : Vector Pod 4)
    (same : ∀ q : Fin 4, but (.pod q) = false → pods[q].line = s.pods[q].line) : ShownBut but s { s with pods } := by
  refine .of_content rfl rfl fun i live other => ?_
  unfold State.content
  rw [live]
  cases sub : s.display.panes[i].subject with
  | pod q =>
    rw [sub] at other
    exact congrArg (oneLine _) (same q other)
  | none | target | meter | watch | decoder | device => rfl

theorem ShownBut.setDecoder {but : PaneSubject → Bool} {s : State} (d : Fin 6) (new : Decoder)
    (same : but (.decoder d) = false → ∀ f, new.line f = (s.decoders[d]).line f) : ShownBut but s { s with decoders := s.decoders.set d new } := by
  refine .of_content rfl rfl fun i live other => ?_
  unfold State.content
  rw [live]
  cases sub : s.display.panes[i].subject with
  | decoder e =>
    rw [sub] at other
    refine congrArg (oneLine _) ?_
    rw [vset_get]
    split
    · next de =>
      subst de
      exact same other _
    · rfl
  | none | target | meter | watch | pod | device => rfl

theorem ShownBut.setMeter {but : PaneSubject → Bool} {s : State} (m : Fin 8) (new : Meter)
    (same : ∀ x f, but (.meter m x) = false → new.line x f = s.meters[m].line x f) : ShownBut but s { s with meters := s.meters.set m new } := by
  refine .of_content rfl rfl fun i live other => ?_
  unfold State.content
  rw [live]
  cases sub : s.display.panes[i].subject with
  | meter e x =>
    rw [sub] at other
    refine congrArg (oneLine _) ?_
    rw [vset_get]
    split
    · next me =>
      subst me
      exact same x _ other
    · rfl
  | none | target | decoder | watch | pod | device => rfl

theorem State.putPod_shown (p : Fin 4) (new : Pod) (s : State) : Shown s (s.putPod p new) := by
  unfold State.putPod
  dsimp only
  split
  · refine Shown.trans (ShownBut.mark (.later (ShownBut.pods _ fun q other => ?_) (State.evaluate_shown _ _))) (State.notices_shown rfl rfl rfl)
    have apart : q ≠ p := by simpa using other
    rw [vset_other _ _ (Ne.symm apart)]
  · next quiet =>
    simp only [not_or, not_not] at quiet
    obtain ⟨state, code, _⟩ := quiet
    refine ShownBut.pods _ fun q _ => ?_
    rw [vset_get]
    split
    · next pq =>
      subst pq
      unfold Pod.line
      rw [state, code]
    · rfl

theorem State.putDecoder_shown (d : Fin 6) (new : Decoder) (s : State) : Shown s (s.putDecoder d new) := by
  have evaluated : ∀ (P : Prop) [Decidable P] (c : Subject → Bool) (t : State), Shown t (if P then t.evaluate c else t) := fun P _ c t => by
    split
    · exact State.evaluate_shown c t
    · exact .refl t
  unfold State.putDecoder
  dsimp only
  split
  · exact ShownBut.mark (.later (ShownBut.setDecoder d new fun own => absurd own (by simp)) (evaluated _ _ _))
  · next quiet =>
    simp only [not_or, not_not] at quiet
    obtain ⟨state, applied, _⟩ := quiet
    refine ShownBut.later (ShownBut.setDecoder d new fun _ f => ?_) (evaluated _ _ _)
    unfold Decoder.line
    rw [state, applied]

/-- A meter's line is that of its record, and of its mode where the record gives a number (R173). -/
theorem Meter.line_same {a b : Meter} (record : a.record.reportedSame b.record = true)
    (mode : a.config.mode = b.config.mode ∨ b.record.status = .none) (x : MeterField) (f : Format) : b.line x f = a.line x f := by
  simp only [MeterRecord.reportedSame, Bool.and_eq_true, beq_iff_eq] at record
  obtain ⟨⟨⟨⟨⟨status, last⟩, min⟩, max⟩, count⟩, _⟩ := record
  have shown : b.record.shown x = a.record.shown x := by
    cases x <;> simp only [MeterRecord.shown, status, last, min, max, count]
  unfold Meter.line
  rw [shown, status]
  rcases mode with mode | none
  · have isTime : b.isTime x f = a.isTime x f := by
      unfold Meter.isTime
      rw [mode]
    rw [isTime]
  · have nothing : a.record.shown x = Option.none := by
      cases x <;> simp [MeterRecord.shown, status, none]
    simp only [nothing]

theorem State.putMeter_shown (m : Fin 8) (new : Meter) (s : State)
    (mode : s.meters[m].config.mode = new.config.mode ∨ new.record.status = .none) : Shown s (s.putMeter m new) := by
  unfold State.putMeter
  dsimp only
  split
  · next quiet => exact ShownBut.setMeter m new fun x f _ => Meter.line_same quiet mode x f
  · exact ShownBut.mark (.later (ShownBut.setMeter m new fun x f own => absurd own (by simp)) (State.evaluate_shown _ _))

/-! ### The store -/

theorem ReferencesOk.reach_pane {s : State} (refs : ReferencesOk s) {i : Fin 16} (live : s.display.panes[i].state = .live) {h : Handle}
    (names : s.display.panes[i].subject.handle? = some h) : s.holders h ≠ 0 ∧ ∃ j r, s.store.reach h = some (j, r) := by
  have holds : s.display.panes[i].holds = some h := by
    unfold Pane.holds
    rw [if_pos live, names]
  obtain ⟨⟨j, r⟩, e⟩ := Option.isSome_iff_exists.mp (refs.panes i h holds)
  exact ⟨holders_ne_zero.mpr (.inr ⟨i, holds⟩), j, r, e⟩

/-- The store changes in nobody's reach. -/
theorem Shown.of_sameFor {s : State} (refs : ReferencesOk s) {st : Store} (store : s.store.SameFor s.holders st) :
    Shown s { s with store := st } := by
  refine ShownBut.of_content rfl rfl fun i live _ => ?_
  cases names : s.display.panes[i].subject.handle? with
  | none => exact State.content_owner (s := s) (t := { s with store := st }) (.of_same rfl rfl rfl rfl) names
  | some x =>
    obtain ⟨held, j, r, reach⟩ := refs.reach_pane live names
    rw [State.content_target live names reach, State.content_target live names (store x j r held reach)]

/-- One record changes, and but for what is left out it shows the same. -/
theorem ShownBut.of_record {s : State} {but : PaneSubject → Bool} (refs : ReferencesOk s) {st : Store} {i : Fin 64} {r r' : Record}
    (record : s.store.slots[i].record = some r)
    (store : ∀ h j a, s.store.reach h = some (j, a) → st.reach h = some (j, if i = j then r' else a))
    (shows : ∀ p : Pane, p.subject.handle? = some (s.store.handle i) → but p.subject = false → r'.contentFor p = r.contentFor p) :
    ShownBut but s { s with store := st } := by
  refine .of_content rfl rfl fun k live other => ?_
  cases names : s.display.panes[k].subject.handle? with
  | none => exact State.content_owner (s := s) (t := { s with store := st }) (.of_same rfl rfl rfl rfl) names
  | some x =>
    obtain ⟨held, j, a, reach⟩ := refs.reach_pane live names
    rw [State.content_target live names reach, State.content_target live names (store x j a reach)]
    split
    · next e =>
      subst e
      have same : a = r := Option.some.inj ((Store.reach_some.mp reach).2.1.symm.trans record)
      rw [same]
      exact shows _ (by rw [names, Store.handle_of_reach reach]) other
    · rfl

theorem PaneSubject.shows_iff {h : Handle} {sub : PaneSubject} : sub.shows h = true ↔ sub.handle? = some h := by
  cases sub <;> simp [PaneSubject.shows, PaneSubject.handle?]

/-- A record changes, and all its panes will be marked. -/
theorem ShownBut.of_reported {s : State} (refs : ReferencesOk s) {st : Store} {i : Fin 64} {r r' : Record}
    (record : s.store.slots[i].record = some r)
    (store : ∀ h j a, s.store.reach h = some (j, a) → st.reach h = some (j, if i = j then r' else a)) :
    ShownBut (PaneSubject.shows (s.store.handle i)) s { s with store := st } :=
  .of_record refs record store fun p names other => by
    rw [PaneSubject.shows_iff.mpr names] at other
    cases other

/-- What a pane shows of a record is its withheld mark, and the value and the expected part of its cells. -/
theorem Record.contentFor_congr {r r' : Record} (withheld : r'.withheldMark = r.withheldMark)
    (cells : ∀ f reg, entry r'.cells f reg = entry r.cells f reg) (p : Pane) : r'.contentFor p = r.contentFor p := by
  unfold Record.contentFor
  split
  · unfold targetContent
    simp only [cells, withheld]
  all_goals rfl

theorem entry_congr {a b : List TargetCell} {reg : Byte}
    (h : (cellAt reg a).map (fun c => (c.value, c.expected)) = (cellAt reg b).map fun c => (c.value, c.expected)) (f : Format) :
    entry a f reg = entry b f reg := by
  have value : ∀ l : List TargetCell, (cellAt reg l).bind (·.value) = ((cellAt reg l).map fun c => (c.value, c.expected)).bind (·.1) := fun l => by
    cases cellAt reg l <;> rfl
  have mismatch : ∀ l : List TargetCell, (cellAt reg l).any TargetCell.isMismatch =
      ((cellAt reg l).map fun c => (c.value, c.expected)).any fun x => match x.1, x.2 with
        | some v, some e => mismatches (v.setWidth 32) e
        | _, _ => false := fun l => by
    cases cellAt reg l <;> rfl
  unfold entry
  simp only [value, mismatch, h]

theorem State.raiseCellsFull_shown (s : State) : Shown s s.raiseCellsFull := State.notices_shown rfl rfl rfl

theorem State.applyTo_shown {s t : State} (a : Application) (i : Fin 64) (r : Record)
    (put : ShownBut (PaneSubject.shows (t.store.handle i)) s { t with store := t.store.applied a t.clock.ms i r }) :
    Shown s (t.applyTo a i r) := by
  unfold State.applyTo
  dsimp only
  refine State.targetReport_shown ?_ _ _
  split
  · exact put.later (State.raiseCellsFull_shown _)
  · exact put

theorem State.applyNew_shown {s t : State} (refs : ReferencesOk t) (before : Shown s t) (a : Application) {i : Fin 64}
    (free : t.store.slots[i].record = none) : Shown s (t.applyNew a i) := by
  let fresh := Record.fresh a.decoder a.address false false t.clock.ms
  let st := t.store.setRecord i fresh
  refine before.trans (State.applyTo_shown (t := { t with store := st }) a i _ (.of_shown (Shown.of_sameFor refs fun x j b held reach => ?_)))
  have other : i ≠ j := by
    rintro rfl
    rw [(Store.reach_some.mp reach).2.1] at free
    cases free
  have written := Store.reach_replace (st := st) (i := i)
    (x := { st.slots[i] with record := some (a.updated t.clock.ms fresh (a.placing fresh t.store.free)) })
    (free := (a.placing fresh t.store.free).free) rfl rfl (Store.sameFor_of_free free fresh x j b held reach)
  rw [if_neg other] at written
  exact written

theorem State.withhold_shown {s : State} (refs : ReferencesOk s) (a : Application) : Shown s (s.withhold a) := by
  unfold State.withhold
  split
  · exact .refl s
  · next i _ =>
    split
    · exact .refl s
    · next r hr =>
      dsimp only
      split
      · next already =>
        exact ShownBut.of_record refs hr (fun _ _ _ => Store.reach_setRecord i _) fun p _ _ =>
          Record.contentFor_congr (r := r) (r' := { r with withheldMark := true, withheldCount := satInc r.withheldCount }) already.symm
            (fun _ _ => rfl) p
      · exact (ShownBut.of_reported refs hr fun _ _ _ => Store.reach_setRecord i _).mark

end Sys2Proof.Machine
end

section
/-! Every step keeps the picture (R166, R169): applications and error reports, the requests of the store, of watches and of panes, the refresh tick, and then every command. -/

namespace Sys2Proof.Machine

/-! ### Applications and error reports -/

theorem State.apply_shown {s : State} (refs : ReferencesOk s) (a : Application) : Shown s (s.apply a).1 := by
  unfold State.apply
  split
  · exact State.withhold_shown refs a
  · split
    · next i _ =>
      split
      · next r hr =>
        refine State.applyTo_shown a i r (ShownBut.of_reported refs hr (r' := a.updated s.clock.ms r (a.placing r s.store.free)) fun x j b reach => ?_)
        exact Store.reach_replace (x := { s.store.slots[i] with record := some (a.updated s.clock.ms r (a.placing r s.store.free)) }) rfl rfl reach
      · exact .refl s
    · split
      · exact .refl s
      · split
        · next free => exact State.applyNew_shown refs (.refl s) a (Store.freeSlot_some free)
        · split
          · next i victim =>
            obtain ⟨r, hr, can⟩ := Store.victim_some victim
            have unreferred : ∀ {x j b}, s.holders x ≠ 0 → s.store.reach x = some (j, b) → j ≠ i := fun held reach =>
              (referencesOk_iff.mp refs).unreferred hr (Record.evictable_references can) held reach
            have vacated : Shown s { s with store := s.store.vacate i } :=
              .of_sameFor refs fun x j b held reach => Store.reach_vacate reach (unreferred held reach)
            have refs' : ReferencesOk { s with store := s.store.vacate i } :=
              (StoreKept.of_keeps (t := { s with store := s.store.vacate i }) (.vacate hr (Record.evictable_references can)) (.of_same rfl rfl)).refs refs
            exact State.applyNew_shown refs' vacated a (Store.vacate_get i)
          · exact State.notices_shown rfl rfl rfl

theorem State.errorReport_shown {s : State} (refs : ReferencesOk s) (d : Fin 6) (a : Byte) (reason : AbortReason) :
    Shown s (s.errorReport d a reason) := by
  unfold State.errorReport
  split
  · exact .refl s
  · split
    · exact .refl s
    · next i _ =>
      split
      · exact .refl s
      · next r hr =>
        have counted : Shown s { s with store := s.store.setRecord i (r.countError reason).1 } :=
          ShownBut.of_record refs hr (fun _ _ _ => Store.reach_setRecord i _) fun p _ _ => by
            unfold Record.countError
            split <;> exact Record.contentFor_congr (by exact rfl) (by exact fun _ _ => rfl) p
        dsimp only
        split
        · exact counted
        · exact State.targetReport_shown (.of_shown counted) _ _

/-! ### The parts of commands -/

/-- The store is kept, and with the references in order what is not stale is as it was. -/
structure PictureKept (s t : State) : Prop where
  store : StoreKept s t
  shown : ReferencesOk s → Shown s t

theorem PictureKept.trans {s t u : State} (h : PictureKept s t) (k : PictureKept t u) : PictureKept s u :=
  ⟨h.store.trans k.store, fun refs => (h.shown refs).trans (k.shown (h.store.refs refs))⟩

theorem pictureKept_parts : Parts PictureKept where
  refl s := ⟨.refl s, fun _ => .refl s⟩
  trans _ _ _ := .trans
  same s t e := ⟨storeKept_parts.same s t e, fun _ => .of_same e.panes e.grid e.store (.of_same e.pods e.decoders e.meters e.watch)⟩
  pod p new s := ⟨storeKept_parts.pod p new s, fun _ => s.putPod_shown p new⟩
  timer p x s := ⟨storeKept_parts.timer p x s, fun _ => ShownBut.pods _ fun q _ => by
    rw [vset_get]
    split
    · next pq => rw [← pq]; rfl
    · rfl⟩
  decoder d new s := ⟨storeKept_parts.decoder d new s, fun _ => s.putDecoder_shown d new⟩
  meter m new s e := ⟨storeKept_parts.meter m new s e, fun _ => s.putMeter_shown m new (.inl (by rw [e]))⟩
  config m c s := ⟨storeKept_parts.config m c s, fun _ => s.putMeter_shown m _ (.inr rfl)⟩
  apply a s := ⟨storeKept_parts.apply a s, fun refs => State.apply_shown refs a⟩
  error d a reason s := ⟨storeKept_parts.error d a reason s, fun refs => State.errorReport_shown refs d a reason⟩
  notices u s watches freeze current := ⟨storeKept_parts.notices u s watches freeze current, fun _ => State.notices_shown watches freeze current⟩

/-! ### Requests of the store -/

theorem State.answered_shown (st : Status) (payload : List Byte) (s : State) : Shown s (s.answered st payload) :=
  .of_content rfl rfl fun _ => rfl

theorem Shown.ok {s t : State} (h : Shown s t) : Shown s t.ok := h.trans (State.answered_shown _ _ t)

theorem State.refuse_shown (st : Status) (s : State) : Shown s (s.refuse st) := State.answered_shown _ _ s

theorem State.withRecord_shown {s : State} {x : Handle} {b : Bool} {act : Fin 64 → Record → State → State}
    (each : ∀ i r, s.store.reach x = some (i, r) → Shown s (act i r s)) : Shown s (s.withRecord x b act) := by
  unfold State.withRecord
  split
  · exact State.refuse_shown _ s
  · split
    · exact State.refuse_shown _ s
    · next reach => exact each _ _ reach

/-- The cells of a record change, and that is reported. -/
theorem State.putCells_shown {s : State} (refs : ReferencesOk s) {x : Handle} {i : Fin 64} {r : Record}
    (reach : s.store.reach x = some (i, r)) (cells : List TargetCell) (free : Nat) (regs : List Byte) :
    Shown s ((s.putCells i r cells free).targetReport x regs []).ok := by
  refine Shown.ok (State.targetReport_shown ?_ _ _)
  rw [← Store.handle_of_reach reach]
  exact ShownBut.of_reported refs (Store.reach_some.mp reach).2.1 fun y j b =>
    Store.reach_replace (x := { s.store.slots[i] with record := some { r with cells } }) rfl rfl

/-- A record that shows the same is written. -/
theorem Shown.setRecord {s : State} (refs : ReferencesOk s) {i : Fin 64} {r r' : Record} (record : s.store.slots[i].record = some r)
    (withheld : r'.withheldMark = r.withheldMark) (cells : ∀ f reg, entry r'.cells f reg = entry r.cells f reg) :
    Shown s { s with store := s.store.setRecord i r' } :=
  ShownBut.of_record refs record (fun _ _ _ => Store.reach_setRecord i r') fun p _ _ => Record.contentFor_congr withheld cells p

theorem tgtSetCell_shown {s : State} (refs : ReferencesOk s) (x : Handle) (register value : Byte) : Shown s (tgtSetCell x register value s) := by
  refine State.withRecord_shown fun i r reach => ?_
  split
  · next c hc =>
    dsimp only
    split
    · next same =>
      refine Shown.ok (Shown.setRecord refs (Store.reach_some.mp reach).2.1
        (r' := { r with cells := updateCell register (fun c => { c with value := some value, origin := .host }) r.cells }) rfl fun f reg => ?_)
      refine entry_congr ?_ f
      rw [cellAt_update register reg (fun c => { c with value := some value, origin := .host }) fun _ => rfl]
      split
      · next e =>
        rw [e, hc]
        simp [same]
      · rfl
    · exact State.putCells_shown refs reach _ _ _
  · split
    · exact State.putCells_shown refs reach _ _ _
    · exact State.refuse_shown _ s

theorem tgtExpect_shown {s : State} (refs : ReferencesOk s) (x : Handle) (register operation value mask : Byte) :
    Shown s (tgtExpect x register operation value mask s) := by
  refine State.withRecord_shown fun i r reach => ?_
  split
  · unfold expectSet
    split
    · exact State.putCells_shown refs reach _ _ _
    · split
      · exact State.putCells_shown refs reach _ _ _
      · exact State.refuse_shown _ s
  · unfold expectClear
    split
    · exact State.refuse_shown _ s
    · split
      · exact State.refuse_shown _ s
      · split
        · exact State.putCells_shown refs reach _ _ _
        · exact State.putCells_shown refs reach _ _ _

theorem tgtDropCell_shown {s : State} (refs : ReferencesOk s) (x : Handle) (register : Byte) : Shown s (tgtDropCell x register s) := by
  refine State.withRecord_shown fun i r reach => ?_
  split
  · exact State.refuse_shown _ s
  · exact State.putCells_shown refs reach _ _ _

theorem tgtPin_shown {s : State} (refs : ReferencesOk s) (x : Handle) (on : Byte) : Shown s (tgtPin x on s) :=
  State.withRecord_shown fun _ r reach =>
    (Shown.setRecord refs (r' := { r with pinned := on == 1 }) (Store.reach_some.mp reach).2.1 rfl fun _ _ => rfl).ok

theorem tgtRead_shown {s : State} (refs : ReferencesOk s) (x : Handle) (first max clear : Byte) : Shown s (tgtRead x first max clear s) := by
  refine State.withRecord_shown fun i r reach => ?_
  obtain ⟨_, record, _⟩ := Store.reach_some.mp reach
  have answered : ∀ (payload : List Byte) (t : State), Shown t (t.answered .ok payload) := State.answered_shown .ok
  have entries : ∀ f reg, entry (r.clearMarks (returnedCells first max r)).cells f reg = entry r.cells f reg := fun f reg => by
    refine entry_congr ?_ f
    unfold Record.clearMarks
    dsimp only
    rw [cellAt_map fun c => by split <;> rfl]
    cases cellAt reg r.cells with
    | none => rfl
    | some c =>
      dsimp only [Option.map_some]
      split <;> rfl
  dsimp only
  split
  · split
    · refine ShownBut.mark (s := s) (ShownBut.later (t := { s with store := s.store.setRecord i (r.clearMarks (returnedCells first max r)) }) ?_ ?_)
      · rw [← Store.handle_of_reach reach]
        exact ShownBut.of_reported refs record fun _ _ _ => Store.reach_setRecord i _
      · exact .of_content rfl rfl fun _ => rfl
    · next unmarked =>
      have unmarked : r.withheldMark = false := by simpa using unmarked
      exact (Shown.setRecord refs record unmarked.symm entries).trans (.of_content rfl rfl fun _ => rfl)
  · exact answered _ s

theorem tgtDeclare_shown {s : State} (refs : ReferencesOk s) (decoder address pinned : Byte) : Shown s (tgtDeclare decoder address pinned s) := by
  unfold tgtDeclare
  split
  · split
    · exact State.answered_shown _ _ s
    · split
      · exact State.refuse_shown _ s
      · next free => exact (Shown.of_sameFor refs (Store.sameFor_of_free (Store.freeSlot_some free) _)).trans (State.answered_shown _ _ _)
  · exact State.refuse_shown _ s

/-! ### Retirement (R40, R165) -/

theorem State.retireNotice_shown (h : Handle) (s : State) : Shown s (s.retireNotice h) := by
  have orphaned : Shown s (s.withPanes (tab fun i => s.display.panes[i].orphan h)) := by
    refine .of_stale rfl (fun _ => rfl) fun i => ?_
    have get : (s.withPanes (tab fun i => s.display.panes[i].orphan h)).display.panes[i] = s.display.panes[i].orphan h := tab_get _ i
    rw [get]
    unfold Pane.orphan
    split
    · exact .inr rfl
    · exact .inl rfl
  unfold State.retireNotice
  dsimp only
  split
  · exact (orphaned.trans (State.setWatches_shown _ _)).trans (.deriveHighlights _)
  · exact orphaned.trans (State.setWatches_shown _ _)

/-- Once its notice has been taken nobody holds the handle of a slot, and the slot is vacated. -/
theorem State.retire_shown {s : State} (refs : ReferencesOk s) (i : Fin 64) : Shown s (s.retire i) := by
  let u := s.retireNotice (s.store.handle i)
  have store : u.store = s.store := State.retireNotice_store _ s
  have vacated : Shown u { u with store := u.store.vacate i } := by
    refine ShownBut.of_content rfl rfl fun k live _ => ?_
    cases names : u.display.panes[k].subject.handle? with
    | none => exact State.content_owner (s := u) (t := { u with store := u.store.vacate i }) (.of_same rfl rfl rfl rfl) names
    | some x =>
      have held : u.holders x ≠ 0 := holders_ne_zero.mpr (.inr ⟨k, by unfold Pane.holds; rw [if_pos live, names]⟩)
      rw [State.retireNotice_holders] at held
      have other : x ≠ s.store.handle i := fun e => held (if_pos e)
      rw [if_neg other] at held
      obtain ⟨⟨j, r⟩, reach⟩ := Option.isSome_iff_exists.mp ((referencesOk_iff.mp refs).reach x held)
      have apart : j ≠ i := by
        rintro rfl
        exact other (Store.handle_of_reach reach).symm
      rw [← store] at reach
      rw [State.content_target live names reach, State.content_target (s := { u with store := u.store.vacate i }) live names (Store.reach_vacate reach apart)]
  exact (State.retireNotice_shown _ s).trans vacated

theorem tgtRetire_shown {s : State} (refs : ReferencesOk s) (x : Handle) (force : Byte) : Shown s (tgtRetire x force s) := by
  refine State.withRecord_shown fun i r _ => ?_
  split
  · exact State.refuse_shown _ s
  · exact (State.retire_shown refs i).ok

/-! ### References and watches -/

theorem PaneSubject.handle_eq_some {sub : PaneSubject} {h : Handle} : sub.handle? = some h ↔ ∃ first count, sub = .target h first count := by
  cases sub <;> simp [PaneSubject.handle?]

/-- A reference more or less is nothing that a pane shows. -/
theorem State.content_refer {s : State} {i : Fin 64} {r : Record} (record : s.store.slots[i].record = some r) (n : Nat) (p : Pane) :
    ({ s with store := s.store.setRecord i { r with references := n } }).content p = s.content p := by
  let t : State := { s with store := s.store.setRecord i { r with references := n } }
  show t.content p = s.content p
  cases names : p.subject.handle? with
  | none => exact State.content_owner (s := s) (t := t) (.of_same rfl rfl rfl rfl) names
  | some h =>
    obtain ⟨first, count, sub⟩ := PaneSubject.handle_eq_some.mp names
    have again : t.store.reach h = _ := Store.reach_refer record { r with references := n } h
    unfold State.content
    rw [sub]
    dsimp only
    rw [again]
    have shows : ∀ y, s.store.reach h = some y → targetContent p.rect.width p.format first count (if i = y.1 then { r with references := n } else y.2) =
        targetContent p.rect.width p.format first count y.2 := fun y reach => by
      split
      · next e =>
        have own := (Store.reach_some.mp reach).2.1
        rw [← e, record] at own
        rw [← Option.some.inj own]
        rfl
      · rfl
    cases reach : s.store.reach h with
    | none => rfl
    | some y =>
      dsimp only [Option.map_some]
      rw [shows y reach]

theorem State.content_bind (o : Option Handle) (s : State) (p : Pane) : (s.bind? o).content p = s.content p := by
  cases o with
  | none => rfl
  | some h =>
    unfold State.bind? State.bind
    dsimp only
    split
    · rfl
    · next reach => exact State.content_refer (Store.reach_some.mp reach).2.1 _ p

theorem State.content_unbind (o : Option Handle) (s : State) (p : Pane) : (s.unbind? o).content p = s.content p := by
  cases o with
  | none => rfl
  | some h =>
    unfold State.unbind? State.unbind
    dsimp only
    split
    · rfl
    · next reach => exact State.content_refer (Store.reach_some.mp reach).2.1 _ p

theorem State.bind_shown (o : Option Handle) (s : State) : Shown s (s.bind? o) :=
  .of_content (congrArg Display.panes (State.bindOpt_display _ _)) (congrArg Display.grid (State.bindOpt_display _ _)) (s.content_bind o)

theorem State.unbind_shown (o : Option Handle) (s : State) : Shown s (s.unbind? o) :=
  .of_content (congrArg Display.panes (State.unbindOpt_display _ _)) (congrArg Display.grid (State.unbindOpt_display _ _)) (s.content_unbind o)

theorem wchSet_shown (watch : Byte) (sub : SubjectBytes) (cond : ConditionBytes) (level actions : Byte) (s : State) :
    Shown s (wchSet watch sub cond level actions s) := by
  simp only [wchSet]
  split
  · exact State.refuse_shown _ s
  · split
    · exact State.refuse_shown _ s
    · split
      · exact State.refuse_shown _ s
      · exact (((State.bind_shown _ s).trans (State.unbind_shown _ _)).trans (State.setWatches_shown _ _)).ok

theorem wchClear_shown (watch : Byte) (s : State) : Shown s (wchClear watch s) := by
  simp only [wchClear]
  split
  · exact State.refuse_shown _ s
  · split
    · exact (Shown.refl s).ok
    · exact ((State.unbind_shown _ s).trans (State.setWatches_shown _ _)).ok

theorem ntcAckWatch_shown (watch : Byte) (s : State) : Shown s (ntcAckWatch watch s) := by
  simp only [ntcAckWatch]
  split
  · exact State.refuse_shown _ s
  · split
    · exact State.refuse_shown _ s
    · exact (State.setWatches_shown _ s).ok

/-! ### Panes (R162, R163, R169) -/

theorem Shown.panelTest {s t : State} (h : Shown s t) (lbusy : Bool) : Shown s (t.panelTest lbusy) :=
  h.trans (.of_same (by rw [State.panelTest_display]) (by rw [State.panelTest_display]) (State.panelTest_store _ _)
    (.of_same (State.panelTest_pods _ _) (State.panelTest_decoders _ _) (State.panelTest_meters _ _) (State.panelTest_watch _ _)))

/-- A cell of one pane is no cell of another (R159). -/
theorem DisplayOk.outside {s : State} (h : DisplayOk s) {i j : Fin 16} (other : i ≠ j) (used : s.display.panes[i].state ≠ .free)
    (used' : s.display.panes[j].state ≠ .free) {row col : Nat} (covers : s.display.panes[j].rect.covers row col = true) :
    s.display.panes[i].rect.covers row col = false := by
  have apart := h.apart i j other used used'
  cases inside : s.display.panes[i].rect.covers row col with
  | false => rfl
  | true => exact absurd ((Rect.meets_of_covers inside covers).symm.trans apart) (by decide)

/-- A pane is replaced by one that is FREE or stale, its rectangle vacated: the others show what they showed. -/
theorem PictureOk.replacePane {s t : State} (h : PictureOk s) (display : DisplayOk s) (i : Fin 16) {new : Pane}
    (stale : new.state ≠ .free → new.stale = true) (panes : t.display.panes = s.display.panes.set i new)
    (grid : t.display.grid = (s.vacateRect s.display.panes[i]).display.grid) (content : ∀ p, t.content p = s.content p) : PictureOk t := by
  intro j row col
  dsimp only
  rw [panes, vset_get]
  split
  · intro used fresh
    rw [stale used] at fresh
    cases fresh
  · next other =>
    intro used fresh covers
    have kept : t.display.grid[row][col] = s.display.grid[row][col] := by
      rw [grid]
      unfold State.vacateRect
      split
      · rfl
      · next usedOld =>
        have outside := display.outside other usedOld used covers
        show (writeRect _ _ _)[row][col] = _
        rw [writeRect_get, outside]
        rfl
    rw [kept, content]
    exact h j row col used fresh covers

theorem paneSet_pictureOk {s : State} (h : PictureOk s) (display : DisplayOk s) (pane row col width height kind : Byte) (names : NameBytes)
    (format : Byte) (label : List Byte) (lbusy : Bool) : PictureOk (paneSet pane row col width height kind names format label lbusy s) := by
  have refused : ∀ st, PictureOk (s.refuse st) := fun st => h.of_shown (State.refuse_shown st s)
  have tested : ∀ u : State, PictureOk u → PictureOk (u.panelTest lbusy).ok := fun u k => k.of_shown ((Shown.refl u).panelTest lbusy).ok
  simp only [paneSet]
  split
  · exact refused _
  · next i _ =>
    split
    · exact refused _
    · next sub f _ =>
      split
      · exact refused _
      · next r _ =>
        split
        · exact refused _
        · split
          · exact refused _
          · let u := (s.bind? sub.handle?).unbind? s.display.panes[i].holds
            have same : u.display = s.display := (State.unbindOpt_display _ _).trans (State.bindOpt_display _ _)
            refine tested _ (h.replacePane display i (new := Pane.of r sub f label ((u.vacateRect s.display.panes[i]).watch.highlighted sub))
              (fun _ => rfl) ?_ ?_ fun p => ?_)
            · show (u.vacateRect _).display.panes.set i _ = _
              rw [State.vacateRect_panes, same]
            · exact State.vacateRect_grid _ same
            · have vacated : (u.vacateRect s.display.panes[i]).content p = u.content p := by
                unfold State.vacateRect
                split <;> rfl
              exact vacated.trans ((State.content_unbind _ _ p).trans (State.content_bind _ s p))

theorem paneClear_pictureOk {s : State} (h : PictureOk s) (display : DisplayOk s) (pane : Byte) (lbusy : Bool) :
    PictureOk (paneClear pane lbusy s) := by
  have tested : ∀ u : State, PictureOk u → PictureOk (u.panelTest lbusy).ok := fun u k => k.of_shown ((Shown.refl u).panelTest lbusy).ok
  simp only [paneClear]
  split
  · exact h.of_shown (State.refuse_shown _ s)
  · next i _ =>
    let u := s.unbind? s.display.panes[i].holds
    have same : u.display = s.display := State.unbindOpt_display _ _
    refine tested _ (h.replacePane display i (new := Pane.reset) (fun used => absurd rfl used) ?_ ?_ fun p => ?_)
    · show (u.vacateRect _).display.panes.set i _ = _
      rw [State.vacateRect_panes, same]
    · exact State.vacateRect_grid _ same
    · have vacated : (u.vacateRect s.display.panes[i]).content p = u.content p := by
        unfold State.vacateRect
        split <;> rfl
      exact vacated.trans (State.content_unbind _ s p)

/-- A pane that is rendered shows what it reads; the others are apart from it (R169). -/
theorem PictureOk.renderPane {s : State} (h : PictureOk s) (display : DisplayOk s) (i : Fin 16) : PictureOk (s.renderPane i) := by
  unfold State.renderPane
  dsimp only
  split
  · next waits =>
    have usedOwn : s.display.panes[i].state ≠ .free := by
      simp only [Pane.waits, Bool.and_eq_true, bne_iff_ne] at waits
      exact waits.2
    intro j row col
    dsimp only
    have pane : ∀ t : State, t = ((s.write s.display.panes[i].rect (s.display.panes[i].cellAt (s.content s.display.panes[i]))).setPane i
        { s.display.panes[i] with stale := false }) → t.display.panes[j] = if i = j then { s.display.panes[i] with stale := false } else s.display.panes[j] := by
      rintro _ rfl
      exact vset_get _ _ _ _
    rw [pane _ rfl]
    split
    · intro used fresh covers
      show (writeRect _ _ _)[row][col] = _
      rw [writeRect_get, if_pos covers]
      rfl
    · next other =>
      intro used fresh covers
      have outside := display.outside other usedOwn used covers
      show (writeRect _ _ _)[row][col] = _
      rw [writeRect_get, if_neg (by rw [outside]; decide)]
      exact h j row col used fresh covers
  · exact h

theorem PictureOk.render {s : State} (h : PictureOk s) (display : DisplayOk s) : PictureOk s.render :=
  (foldl_inv (fun u => DisplayOk u ∧ PictureOk u) State.renderPane (fun _ i k => ⟨k.1.renderPane i, k.2.renderPane k.1 i⟩) _ _
    ⟨display.of_layout (.of_upTo s.deriveHighlights_upTo), h.of_shown (.deriveHighlights s)⟩).2

theorem refreshTick_pictureOk {s : State} (h : PictureOk s) (display : DisplayOk s) (lbusy : Bool) : PictureOk (refreshTick lbusy s) := by
  have after : ∀ u : State, PictureOk u → PictureOk (u.nextInterval.panelTest lbusy) := fun u k =>
    k.of_shown (Shown.panelTest (s := u) (t := u.nextInterval) (Shown.of_content (s := u) (t := u.nextInterval) rfl rfl fun _ => rfl) lbusy)
  unfold refreshTick
  split
  · exact after _ (h.render display)
  · exact h

/-! ### Every command -/

/-- Where every pane is FREE nothing is shown. -/
theorem PictureOk.of_free {s : State} (free : ∀ i : Fin 16, s.display.panes[i].state = .free) : PictureOk s := fun i _ _ used => absurd (free i) used

theorem effect_pictureOk (c : Instr) {s : State} (refs : ReferencesOk s) (display : DisplayOk s) (h : PictureOk s) : PictureOk (effect c s) := by
  by_cases plain : isPlain c = true
  · exact h.of_shown ((pictureKept_parts.plain plain s).shown refs)
  cases c
  case fullReset sense => exact .of_free fun i => congrArg Pane.state (replicate_get 16 _ i)
  case devRestart => exact .of_free fun i => congrArg Pane.state (replicate_get 16 _ i)
  case tgtRead x first max clear => exact h.of_shown (tgtRead_shown refs x first max clear)
  case tgtDeclare decoder address pinned => exact h.of_shown (tgtDeclare_shown refs decoder address pinned)
  case tgtSetCell x register value => exact h.of_shown (tgtSetCell_shown refs x register value)
  case tgtExpect x register operation value mask => exact h.of_shown (tgtExpect_shown refs x register operation value mask)
  case tgtDropCell x register => exact h.of_shown (tgtDropCell_shown refs x register)
  case tgtPin x on => exact h.of_shown (tgtPin_shown refs x on)
  case tgtRetire x force => exact h.of_shown (tgtRetire_shown refs x force)
  case wchSet watch sub cond level actions => exact h.of_shown (wchSet_shown watch sub cond level actions s)
  case wchClear watch => exact h.of_shown (wchClear_shown watch s)
  case ntcAckWatch watch => exact h.of_shown (ntcAckWatch_shown watch s)
  case paneSet pane row column width height kind names format label lbusy =>
    exact paneSet_pictureOk h display pane row column width height kind names format label lbusy
  case paneClear pane lbusy => exact paneClear_pictureOk h display pane lbusy
  case refreshTick lbusy => exact refreshTick_pictureOk h display lbusy
  all_goals exact absurd rfl plain

/-- What the picture rests on: the references and the panes. -/
structure PictureBase (s : State) : Prop where
  refs    : ReferencesOk s
  display : DisplayOk s
  picture : PictureOk s

theorem PictureBase.of_same {s t : State} (h : PictureBase s) (pods : t.pods = s.pods) (decoders : t.decoders = s.decoders)
    (meters : t.meters = s.meters) (store : t.store = s.store) (watch : t.watch = s.watch) (display : t.display = s.display) : PictureBase t :=
  have panes := congrArg Display.panes display
  have grid := congrArg Display.grid display
  ⟨(StoreKept.of_same store (.of_same (congrArg WatchUnit.watches watch) panes)).refs h.refs, h.display.of_layout (.of_same panes grid),
    h.picture.of_shown (.of_same panes grid store (.of_same pods decoders meters watch))⟩

/-- Settles O60: with the references and the panes in order every command keeps what is shown, and so does every step; the samples of the filters are shown nowhere. -/
theorem stepKeepsPicture : Obligations.StepKeepsPicture := fun _ _ all h =>
  (step_keeps (P := PictureBase) (fun _ _ k => k.of_same rfl rfl rfl rfl rfl rfl)
    (fun c u k _ => ⟨(effect_storeKept c u).refs k.refs, effect_displayOk c k.display, effect_pictureOk c k.refs k.display k.picture⟩)
    (fun _ _ k _ => k.of_same rfl rfl rfl rfl rfl rfl) h ⟨all.refs, all.display, all.picture⟩).picture

end Sys2Proof.Machine
end

section
/-! The reset values (R21, R52, R209), and what a full reset and a restart leave (R206 to R208). -/

namespace Sys2Proof.Machine

/-- Settles O1: a step takes the command at the front of the queue. -/
theorem stepRunsFront : Obligations.StepRunsFront := fun c rest s queue => by
  unfold step
  rw [queue]

/-! ### Every invariant after a full reset -/

theorem PanelOk.of_reset {s : State} (h : s.panel = Panel.reset) : PanelOk s := by
  refine ⟨?_, ?_, ?_, ?_⟩
  all_goals
    rw [h]
    first | rfl | exact fun _ => rfl | exact nofun

theorem PortOk.of_reset {s : State} (h : s.port = Port.reset) : PortOk s := by
  refine ⟨?_, ?_, ?_, ?_, ?_, ?_⟩
  all_goals
    rw [h]
    first | rfl | exact nofun

theorem resetWith_slot (pins : Pins) (i : Fin 64) : (State.resetWith pins).store.slots[i] = { gen := 0, record := none } := replicate_get 64 _ i

theorem resetWith_watch (pins : Pins) (i : Fin 32) : (State.resetWith pins).watch.watches[i] = Watch.reset := replicate_get 32 _ i

theorem resetWith_pane (pins : Pins) (i : Fin 16) : (State.resetWith pins).display.panes[i] = Pane.reset := replicate_get 16 _ i

/-- Nobody holds a handle after a full reset. -/
theorem ReferencesOk.resetWith (pins : Pins) : ReferencesOk (State.resetWith pins) where
  count i r e := by
    rw [resetWith_slot] at e
    cases e
  watches i h e := by
    rw [resetWith_watch] at e
    cases e
  panes i h e := by
    rw [resetWith_pane] at e
    cases e

/-- Settles O6: the full reset values have every invariant, with no pod sensed. -/
theorem resetOk : Obligations.ResetOk where
  notices := noticesOk_resetWith _
  pods := .resetWith _
  store := storeOk_iff.mpr (.empty (fun i => congrArg Slot.record (resetWith_slot _ i)) rfl)
  refs := .resetWith _
  panel := .of_reset rfl
  port := .of_reset rfl
  decoders := decodersOk_of_reset rfl
  display := .reset rfl rfl
  held := nofun
  meters := metersOk_of_reset rfl
  watches := .of_reset rfl
  picture := .of_free fun i => congrArg Pane.state (resetWith_pane _ i)

/-! ### Full reset -/

theorem resetWith_grid (pins : Pins) (r : Fin 16) (c : Fin 40) : (State.resetWith pins).display.grid[r][c] = GridCell.blank := by
  show (blankGrid[r])[c] = _
  rw [show blankGrid[r] = Vector.replicate 40 GridCell.blank from replicate_get 16 _ r, replicate_get 40 _ c]

/-- Settles O4: the reset values, entry by entry. -/
theorem fullReset_meaning : Obligations.FullReset := fun sense s => by
  let pins := s.pins.afterReset sense
  have sensed : ∀ p : Fin 4, pins.sensed p = (match sense with | some b => b.getLsbD p | none => false) := fun p => by
    cases sense <;> simp [pins, Pins.afterReset, Pins.sensed]
  refine ⟨fullReset sense s, rfl, fun p => ?_, fun c => replicate_get 32 _ c, fun d => replicate_get 6 _ d, fun i => replicate_get 64 _ i, rfl,
    fun m => replicate_get 8 _ m, fun i => replicate_get 32 _ i, rfl, rfl, rfl, rfl, rfl, rfl, rfl, rfl, rfl, rfl, rfl, rfl,
    fun i => replicate_get 16 _ i, resetWith_grid pins, rfl, rfl, rfl, rfl, rfl, rfl, ?_, rfl, ?_⟩
  · have pod : (fullReset sense s).pods[p] = Pod.reset (pins.sensed p) := resetWith_pods pins p
    rw [pod, sensed]
    rfl
  · rfl
  · cases sense <;> rfl

/-! ### Restart -/

/-- No watch of the reset table is in the watch cause, and none can be the current notice. -/
theorem WatchUnit.quiet {u : WatchUnit} (h : u.watches = Vector.replicate 32 Watch.reset) : u.causeOf = 0 ∧ u.noticeWatch = none := by
  have get : ∀ i : Fin 32, u.watches[i] = Watch.reset := fun i => by rw [h]; exact replicate_get 32 _ i
  refine ⟨?_, ?_⟩
  · refine mask_ext fun i => ?_
    unfold WatchUnit.causeOf
    rw [maskOf_getLsbD, get]
    simp [Watch.isCause, Watch.reset]
  · refine foldl_inv (fun best => best = none) _ (fun best i none => ?_) _ _ rfl
    unfold WatchUnit.lowerNotice
    rw [get, if_neg (by decide)]
    exact none

/-- What the Watch Unit derives after a restart: the pod masks alone give notices (R147, R157). -/
theorem WatchUnit.restarted_derives (u : WatchUnit) :
    u.restarted.cause = 0 ∧ u.restarted.freeze = (u.podFault != 0) ∧
    u.restarted.current = (if u.podFault ≠ 0 then .podFault else if u.podChange ≠ 0 then .podChange else .none) ∧
    u.restarted.attn = (u.podFault != 0 || u.podChange != 0) := by
  let v : WatchUnit := { WatchUnit.reset with podFault := u.podFault, podChange := u.podChange }
  obtain ⟨cause, notice⟩ := WatchUnit.quiet (u := v) rfl
  have current : v.currentOf = (if u.podFault ≠ 0 then .podFault else if u.podChange ≠ 0 then .podChange else .none) := by
    unfold WatchUnit.currentOf
    rw [notice]
    rfl
  refine ⟨cause, ?_, current, ?_⟩
  · show v.freezeOf = _
    unfold WatchUnit.freezeOf
    rw [cause]
    show (false || u.podFault != 0 || (0 : BitVec 32) != 0) = _
    simp
  · show v.attnOf = _
    unfold WatchUnit.attnOf
    rw [current]
    by_cases fault : u.podFault ≠ 0
    · rw [if_pos fault]
      exact (Bool.or_eq_true_iff.mpr (.inl (bne_iff_ne.mpr fault))).symm
    · rw [if_neg fault]
      have quiet : (u.podFault != 0) = false := by simpa using fault
      rw [quiet, Bool.false_or]
      by_cases change : u.podChange ≠ 0
      · rw [if_pos change]
        exact (bne_iff_ne.mpr change).symm
      · rw [if_neg change]
        have none : (u.podChange != 0) = false := by simpa using change
        rw [none]
        rfl

/-- Settles O5: both stages of a restart, entry by entry. -/
theorem devRestart_meaning : Obligations.DevRestart := fun s => by
  obtain ⟨cause, freeze, current, attn⟩ := s.watch.restarted_derives
  refine makesSome_of_take devRestart rfl ⟨rfl, rfl, rfl, rfl, rfl, fun d => replicate_get 6 _ d, fun m => replicate_get 8 _ m, fun i => ?_, rfl,
    fun i => replicate_get 32 _ i, rfl, rfl, rfl, rfl, rfl, rfl, rfl, rfl, cause, freeze, current, attn, fun i => replicate_get 16 _ i,
    resetWith_grid s.pins, rfl, rfl, rfl, rfl, rfl⟩
  show (tab fun j : Fin 64 => s.store.slots[j].restarted)[i] = _
  rw [tab_get]
  unfold Slot.restarted
  cases record : s.store.slots[i].record with
  | none =>
    rw [if_neg (by simp), if_neg (by simp), ← record]
  | some r => rfl

end Sys2Proof.Machine
end

section
/-! The request frames (R193, R194, R212, R213): the check byte, the layout of each request code, and the judging of a frame. -/

namespace Sys2Proof.Machine

/-! ### The check byte (R193) -/

theorem crcBit_eq_zero : ∀ c : Byte, crcBit c = 0 ↔ c = 0 := by decide

theorem crcByte_eq_zero (c b : Byte) : crcByte c b = 0 ↔ c = b := by
  unfold crcByte
  simp only [crcBit_eq_zero]
  exact BitVec.xor_eq_zero_iff

theorem crc8_append_eq_zero (bytes : List Byte) (b : Byte) : crc8 (bytes ++ [b]) = 0 ↔ b = crc8 bytes := by
  rw [crc8, List.foldl_append]
  exact (crcByte_eq_zero _ b).trans eq_comm

/-- A frame with its check byte divides without remainder. -/
theorem crc8_checked (bytes : List Byte) : crc8 (checked bytes) = 0 := (crc8_append_eq_zero bytes _).mpr rfl

/-! ### Fields of several bytes (R211) -/

theorem ofBe16_be16 (x : Half) : ofBe16 (x.extractLsb' 8 8) (x.extractLsb' 0 8) = x := by
  refine BitVec.eq_of_getLsbD_eq fun i hi => ?_
  unfold ofBe16
  simp only [BitVec.getLsbD_append, BitVec.getLsbD_extractLsb']
  split
  · next low => simp [low]
  · next high => simp [show i - 8 < 8 by omega, show 8 + (i - 8) = i by omega]

theorem be16_ofBe16 (a b : Byte) : be16 (ofBe16 a b) = [a, b] := by
  have get : ∀ j, (ofBe16 a b).getLsbD j = if j < 8 then b.getLsbD j else a.getLsbD (j - 8) := fun j => BitVec.getLsbD_append
  have high : (ofBe16 a b).extractLsb' 8 8 = a := BitVec.eq_of_getLsbD_eq fun i hi => by
    rw [BitVec.getLsbD_extractLsb', get, if_neg (by omega), Nat.add_sub_cancel_left, decide_eq_true hi, Bool.true_and]
  have low : (ofBe16 a b).extractLsb' 0 8 = b := BitVec.eq_of_getLsbD_eq fun i hi => by
    rw [BitVec.getLsbD_extractLsb', get, if_pos (by omega), Nat.zero_add, decide_eq_true hi, Bool.true_and]
  rw [be16, high, low]

theorem ofBe32_be32 (x : Word) :
    ofBe32 (x.extractLsb' 24 8) (x.extractLsb' 16 8) (x.extractLsb' 8 8) (x.extractLsb' 0 8) = x := by
  refine BitVec.eq_of_getLsbD_eq fun i hi => ?_
  unfold ofBe32
  simp only [BitVec.getLsbD_append, BitVec.getLsbD_extractLsb']
  by_cases h1 : i < 8
  · simp [h1, show i < 16 by omega]
  · by_cases h2 : i < 16
    · simp [h1, h2, show i - 8 < 8 by omega, show 8 + (i - 8) = i by omega]
    · by_cases h3 : i < 24
      · simp [h2, show i - 16 < 8 by omega, show 16 + (i - 16) = i by omega]
      · simp [h2, show ¬ i - 16 < 8 by omega, show i - 16 - 8 < 8 by omega, show 24 + (i - 16 - 8) = i by omega]

theorem be32_ofBe32 (a b c d : Byte) : be32 (ofBe32 a b c d) = [a, b, c, d] := by
  have h : ∀ (start : Nat) (x : Byte), (∀ i, i < 8 → (ofBe32 a b c d).getLsbD (start + i) = x.getLsbD i) →
      (ofBe32 a b c d).extractLsb' start 8 = x := fun start x same => BitVec.eq_of_getLsbD_eq fun i hi => by
    rw [BitVec.getLsbD_extractLsb', same i hi]
    simp [hi]
  have get : ∀ j, (ofBe32 a b c d).getLsbD j =
      if j < 16 then (if j < 8 then d.getLsbD j else c.getLsbD (j - 8))
      else if j - 16 < 8 then b.getLsbD (j - 16) else a.getLsbD (j - 16 - 8) := fun j => by
    simp only [ofBe32, BitVec.getLsbD_append]
  rw [be32, h 24 a, h 16 b, h 8 c, h 0 d]
  all_goals
    intro i hi
    rw [get]
  · rw [if_pos (by omega), if_pos (by omega), Nat.zero_add]
  · rw [if_pos (by omega), if_neg (by omega), Nat.add_sub_cancel_left]
  · rw [if_neg (by omega), if_pos (by omega), Nat.add_sub_cancel_left]
  · rw [if_neg (by omega), if_neg (by omega), show 24 + i - 16 - 8 = i by omega]

/-! ### Layouts (R213) -/

/-- A layout reads exactly the requests of its code: what it reads is well-formed, as a frame carries it, and sent as these parameters; and some request has the code. -/
structure LayoutOk (code : Byte) (f : List Byte → Option Instr) : Prop where
  reads : ∀ (params : List Byte) (i : Instr), params.length ≤ 250 → f params = some i → i.wf = true ∧ i.sent = i ∧ requestOf i = some (code, params)
  named : ∃ i r, requestOf i = some r ∧ r.1 = code

namespace LayoutOk

theorem of_number {code : Byte} {n : Nat} {f : List Byte → Option Instr} (e : code.toNat = n) (h : LayoutOk (byte n) f) : LayoutOk code f := by
  have same : byte n = code := BitVec.eq_of_toNat_eq (by rw [byte, BitVec.toNat_ofNat, ← e]; exact Nat.mod_eq_of_lt code.isLt)
  exact same ▸ h

theorem plain {code : Byte} {i : Instr} (wf : i.wf = true) (sent : i.sent = i) (request : requestOf i = some (code, [])) :
    LayoutOk code (plainLayout i) where
  reads params j _ h := by
    unfold plainLayout at h
    split at h
    · cases h
      exact ⟨wf, sent, request⟩
    · cases h
  named := ⟨i, _, request, rfl⟩

theorem oneByte {code : Byte} {f : Byte → Instr} (wf : ∀ a, (f a).wf = true) (sent : ∀ a, (f a).sent = f a)
    (request : ∀ a, requestOf (f a) = some (code, [a])) : LayoutOk code (byteLayout f) where
  reads params j _ h := by
    unfold byteLayout at h
    split at h
    · cases h
      exact ⟨wf _, sent _, request _⟩
    · cases h
  named := ⟨f 0, _, request 0, rfl⟩

theorem twoBytes {code : Byte} {f : Byte → Byte → Instr} (wf : ∀ a b, (f a b).wf = true) (sent : ∀ a b, (f a b).sent = f a b)
    (request : ∀ a b, requestOf (f a b) = some (code, [a, b])) : LayoutOk code (pairLayout f) where
  reads params j _ h := by
    unfold pairLayout at h
    split at h
    · cases h
      exact ⟨wf _ _, sent _ _, request _ _⟩
    · cases h
  named := ⟨f 0 0, _, request 0 0, rfl⟩

theorem threeBytes {code : Byte} {f : Byte → Byte → Byte → Instr} (wf : ∀ a b c, (f a b c).wf = true) (sent : ∀ a b c, (f a b c).sent = f a b c)
    (request : ∀ a b c, requestOf (f a b c) = some (code, [a, b, c])) : LayoutOk code (tripleLayout f) where
  reads params j _ h := by
    unfold tripleLayout at h
    split at h
    · cases h
      exact ⟨wf _ _ _, sent _ _ _, request _ _ _⟩
    · cases h
  named := ⟨f 0 0 0, _, request 0 0 0, rfl⟩

theorem podSet : LayoutOk 0x10 podSetLayout where
  reads params j _ h := by
    unfold podSetLayout at h
    split at h
    · cases h
      exact ⟨rfl, rfl, rfl⟩
    · cases h
  named := ⟨.podSet 0 0 0 (Vector.replicate 8 0), _, rfl, rfl⟩

theorem tgtRead : LayoutOk 0x22 tgtReadLayout where
  reads params j _ h := by
    unfold tgtReadLayout at h
    split at h
    · cases h
      exact ⟨rfl, rfl, rfl⟩
    · cases h
  named := ⟨.tgtRead { gen := 0, slot := 0 } 0 0 0, _, rfl, rfl⟩

theorem tgtSetCell : LayoutOk 0x24 tgtSetCellLayout where
  reads params j _ h := by
    unfold tgtSetCellLayout at h
    split at h
    · cases h
      exact ⟨rfl, rfl, rfl⟩
    · cases h
  named := ⟨.tgtSetCell { gen := 0, slot := 0 } 0 0, _, rfl, rfl⟩

theorem tgtExpect : LayoutOk 0x25 tgtExpectLayout where
  reads params j _ h := by
    unfold tgtExpectLayout at h
    split at h
    · cases h
      exact ⟨rfl, rfl, rfl⟩
    · cases h
  named := ⟨.tgtExpect { gen := 0, slot := 0 } 0 0 0 0, _, rfl, rfl⟩

/-- The pairs of some bytes, and the bytes after them. -/
theorem pairBytes_pairs (n : Nat) (rest : List Byte) (h : 2 * n ≤ rest.length) :
    (pairs n rest).length = n ∧ pairBytes (pairs n rest) ++ rest.drop (2 * n) = rest := by
  induction n generalizing rest with
  | zero => exact ⟨by simp [pairs], by simp [pairs, pairBytes]⟩
  | succ n ih =>
    match rest with
    | [] => simp at h
    | [_] => simp at h; omega
    | a :: b :: rest =>
      obtain ⟨length, bytes⟩ := ih rest (by simp at h; omega)
      refine ⟨by simp [pairs, length], ?_⟩
      rw [show 2 * (n + 1) = 2 * n + 2 by omega]
      simpa [pairs, pairBytes] using bytes

theorem decConfig : LayoutOk 0x30 decConfigLayout where
  reads params j short h := by
    unfold decConfigLayout at h
    split at h
    · next d profile learn b rest =>
      split at h
      · next fits =>
        cases h
        obtain ⟨count, bytes⟩ := pairBytes_pairs b.toNat rest (by omega)
        simp only [List.length_cons] at short
        refine ⟨?_, rfl, ?_⟩
        · simp only [Instr.wf, Bool.and_eq_true, decide_eq_true_eq, List.length_drop, count]
          omega
        · have number : byte (pairs b.toNat rest).length = b := by
            rw [count]
            simp [byte]
          simp only [requestOf, number, List.append_assoc, bytes]
          rfl
      · cases h
    · cases h
  named := ⟨.decConfig 0 0 0 [] [], _, rfl, rfl⟩

theorem mtrConfig : LayoutOk 0x40 mtrConfigLayout where
  reads params j _ h := by
    unfold mtrConfigLayout at h
    split at h
    · cases h
      refine ⟨rfl, rfl, ?_⟩
      simp [requestOf, meterBytes, be16_ofBe16, be32_ofBe32]
    · cases h
  named := ⟨.mtrConfig 0 { mode := 0, channelA := 0, channelB := 0, startEdge := 0, stopEdge := 0, startSource := 0, sourceDecoder := 0
                           sourceAddress := 0, gate := 0, window := 0, singleShot := 0 }, _, rfl, rfl⟩

theorem wchSet : LayoutOk 0x50 wchSetLayout where
  reads params j _ h := by
    unfold wchSetLayout at h
    split at h
    · cases h
      refine ⟨rfl, rfl, ?_⟩
      simp [requestOf, be16_ofBe16, be32_ofBe32]
    · cases h
  named := ⟨.wchSet 0 { kind := 0, number := 0, field := 0 } { code := 0, first := 0, second := 0 } 0 0, _, rfl, rfl⟩

theorem ntcAck : LayoutOk 0x54 ntcAckLayout where
  reads params j _ h := by
    unfold ntcAckLayout at h
    split at h
    · next kind detail =>
      have h := Option.some.inj h
      split at h
      · next six =>
        subst six
        cases h
        exact ⟨rfl, rfl, rfl⟩
      · next other =>
        subst h
        exact ⟨by simpa [Instr.wf] using other, rfl, rfl⟩
    · cases h
  named := ⟨.ntcAckWatch 0, _, rfl, rfl⟩

theorem paneSet : LayoutOk 0x60 paneSetLayout where
  reads params j short h := by
    unfold paneSetLayout at h
    split at h
    · next len label =>
      split at h
      · next fits =>
        cases h
        simp only [List.length_cons] at short
        refine ⟨?_, rfl, ?_⟩
        · simp only [Instr.wf, decide_eq_true_eq]
          omega
        · have number : byte label.length = len := by
            rw [fits]
            simp [byte]
          simp only [requestOf, number]
          rfl
      · cases h
    · cases h
  named := ⟨.paneSet 0 0 0 0 0 0 { n0 := 0, n1 := 0, n2 := 0, n3 := 0 } 0 [] false, _, rfl, rfl⟩

theorem dispInterval : LayoutOk 0x63 dispIntervalLayout where
  reads params j _ h := by
    unfold dispIntervalLayout at h
    split at h
    · cases h
      exact ⟨rfl, rfl, congrArg (fun x => some (0x63, x)) (be16_ofBe16 _ _)⟩
    · cases h
  named := ⟨.dispInterval 0, _, rfl, rfl⟩

theorem bklSet : LayoutOk 0x72 bklSetLayout where
  reads params j _ h := by
    unfold bklSetLayout at h
    split at h
    · cases h
      refine ⟨rfl, rfl, ?_⟩
      simp [requestOf, be16_ofBe16]
    · cases h
  named := ⟨.bklSet 0 0, _, rfl, rfl⟩

end LayoutOk

/-- Every layout of the table reads the requests of its code (R213). -/
theorem layoutOk_of_layout {code : Byte} {f : List Byte → Option Instr} (h : layout? code = some f) : LayoutOk code f := by
  unfold layout? at h
  split at h
  case h_40 => cases h
  all_goals
    cases h
    refine LayoutOk.of_number ‹_› ?_
  · exact .plain rfl rfl rfl
  · exact .plain rfl rfl rfl
  · exact .plain rfl rfl rfl
  · exact .podSet
  · exact .oneByte (fun _ => rfl) (fun _ => rfl) fun _ => rfl
  · exact .oneByte (fun _ => rfl) (fun _ => rfl) fun _ => rfl
  · exact .twoBytes (fun _ _ => rfl) (fun _ _ => rfl) fun _ _ => rfl
  · exact .threeBytes (fun _ _ _ => rfl) (fun _ _ _ => rfl) fun _ _ _ => rfl
  · exact .tgtRead
  · exact .threeBytes (fun _ _ _ => rfl) (fun _ _ _ => rfl) fun _ _ _ => rfl
  · exact .tgtSetCell
  · exact .tgtExpect
  · exact .threeBytes (fun _ _ _ => rfl) (fun _ _ _ => rfl) fun _ _ _ => rfl
  · exact .threeBytes (fun _ _ _ => rfl) (fun _ _ _ => rfl) fun _ _ _ => rfl
  · exact .threeBytes (fun _ _ _ => rfl) (fun _ _ _ => rfl) fun _ _ _ => rfl
  · exact .decConfig
  · exact .oneByte (fun _ => rfl) (fun _ => rfl) fun _ => rfl
  · exact .oneByte (fun _ => rfl) (fun _ => rfl) fun _ => rfl
  · exact .oneByte (fun _ => rfl) (fun _ => rfl) fun _ => rfl
  · exact .mtrConfig
  · exact .oneByte (fun _ => rfl) (fun _ => rfl) fun _ => rfl
  · exact .oneByte (fun _ => rfl) (fun _ => rfl) fun _ => rfl
  · exact .oneByte (fun _ => rfl) (fun _ => rfl) fun _ => rfl
  · exact .oneByte (fun _ => rfl) (fun _ => rfl) fun _ => rfl
  · exact .wchSet
  · exact .oneByte (fun _ => rfl) (fun _ => rfl) fun _ => rfl
  · exact .oneByte (fun _ => rfl) (fun _ => rfl) fun _ => rfl
  · exact .plain rfl rfl rfl
  · exact .ntcAck
  · exact .twoBytes (fun _ _ => rfl) (fun _ _ => rfl) fun _ _ => rfl
  · exact .oneByte (fun _ => rfl) (fun _ => rfl) fun _ => rfl
  · exact .paneSet
  · exact .oneByte (fun _ => rfl) (fun _ => rfl) fun _ => rfl
  · exact .oneByte (fun _ => rfl) (fun _ => rfl) fun _ => rfl
  · exact .dispInterval
  · exact .plain rfl rfl rfl
  · exact .twoBytes (fun _ _ => rfl) (fun _ _ => rfl) fun _ _ => rfl
  · exact .plain rfl rfl rfl
  · exact .bklSet

/-! ### What a request's own frame is judged to be -/

/-- The pairs come back, and the bytes after them. -/
theorem pairs_pairBytes (bindings : List (Byte × Byte)) (params : List Byte) :
    pairs bindings.length (pairBytes bindings ++ params) = bindings ∧
      (pairBytes bindings ++ params).drop (2 * bindings.length) = params := by
  induction bindings with
  | nil => exact ⟨rfl, rfl⟩
  | cons b bs ih =>
    obtain ⟨read, rest⟩ := ih
    simp only [pairBytes] at read rest
    refine ⟨by simp [pairs, pairBytes, read], ?_⟩
    rw [List.length_cons, show 2 * (bs.length + 1) = 2 * bs.length + 2 by omega]
    simpa [pairBytes] using rest

theorem byte_toNat_of_lt {n : Nat} (h : n < 256) : (byte n).toNat = n := by
  rw [byte, BitVec.toNat_ofNat]
  exact Nat.mod_eq_of_lt h

theorem vector8_eq (w : Vector Byte 8) : w = #v[w[0], w[1], w[2], w[3], w[4], w[5], w[6], w[7]] := by
  refine Vector.ext fun i hi => ?_
  interval_cases i <;> rfl

/-- The parameters of a well-formed request are read as the request (R213). -/
theorem judgeRequest_request {i : Instr} {r : Byte × List Byte} (wf : i.wf = true) (request : requestOf i = some r) :
    judgeRequest r.1 r.2 = .good i.sent := by
  cases i
  case decConfig d profile learn bindings params =>
    cases request
    simp only [Instr.wf, Bool.and_eq_true, decide_eq_true_eq] at wf
    obtain ⟨count, short⟩ := wf
    obtain ⟨read, rest⟩ := pairs_pairBytes bindings params
    have number := byte_toNat_of_lt (n := bindings.length) (by omega)
    have length : (pairBytes bindings ++ params).length = 2 * bindings.length + profileParamCount profile := by
      rw [List.length_append, Laws.RequestFrame.length_pairBytes, count]
    show (match decConfigLayout (d :: profile :: learn :: byte bindings.length :: (pairBytes bindings ++ params)) with
      | none => Judgment.bad .badParam | some i => .good i) = _
    rw [decConfigLayout, number, if_pos length, read, rest]
    rfl
  case paneSet pane row col width height kind names format label lbusy =>
    cases request
    simp only [Instr.wf, decide_eq_true_eq] at wf
    have number := byte_toNat_of_lt (n := label.length) (by omega)
    show (match paneSetLayout (pane :: row :: col :: width :: height :: kind :: names.n0 :: names.n1 :: names.n2 :: names.n3 :: format ::
      byte label.length :: label) with | none => Judgment.bad .badParam | some i => .good i) = _
    rw [paneSetLayout, if_pos number.symm]
    rfl
  case ntcAckNotice kind mask =>
    cases request
    have other : kind ≠ 6 := by simpa [Instr.wf] using wf
    show Judgment.good (if kind = 6 then .ntcAckWatch mask else .ntcAckNotice kind mask) = _
    rw [if_neg other]
    rfl
  case podSet pod requested code widths =>
    cases request
    rw [vector8_eq widths]
    rfl
  case mtrConfig m c =>
    cases request
    show Judgment.good (.mtrConfig m { c with sourceAddress := ofBe16 _ _, window := ofBe32 _ _ _ _ }) = _
    rw [ofBe16_be16, ofBe32_be32]
    rfl
  case wchSet w sub cond level actions =>
    cases request
    show Judgment.good (.wchSet w { sub with number := ofBe16 _ _ } { cond with first := ofBe32 _ _ _ _, second := ofBe32 _ _ _ _ } level actions) = _
    rw [ofBe16_be16, ofBe32_be32, ofBe32_be32]
    rfl
  case dispInterval interval =>
    cases request
    show Judgment.good (.dispInterval (ofBe16 _ _)) = _
    rw [ofBe16_be16]
    rfl
  case bklSet high low =>
    cases request
    show Judgment.good (.bklSet (ofBe16 _ _) (ofBe16 _ _)) = _
    rw [ofBe16_be16, ofBe16_be16]
    rfl
  all_goals cases request <;> rfl

end Sys2Proof.Machine
end

section
/-! The command port (R191 to R200): a good frame is its request's, a bad one is answered with its first failed check, and a read frame sends the response. -/

namespace Sys2Proof.Machine

/-! ### Judging (R194) -/

/-- Settles O9: the layouts give the request, and the check byte is the only one that divides. -/
theorem goodFrameIsItsRequest : Obligations.GoodFrameIsItsRequest := fun bytes bits i h => by
  unfold judgeFrame at h
  split at h
  · next code n rest =>
    split at h
    · cases h
    · next fits =>
      simp only [not_or, not_lt, not_not] at fits
      obtain ⟨short, length, whole⟩ := fits
      split at h
      · cases h
      · next check =>
        rw [not_not] at check
        unfold judgeRequest at h
        split at h
        · cases h
        · next f layout =>
          split at h
          · cases h
          · next j read =>
            cases h
            have params : (rest.take n.toNat).length = n.toNat := by rw [List.length_take]; omega
            obtain ⟨wf, sent, request⟩ := (layoutOk_of_layout layout).reads _ _ (by omega) read
            refine ⟨whole, wf, sent, _, request, ?_⟩
            obtain ⟨last, split⟩ : ∃ last, rest = rest.take n.toNat ++ [last] := by
              have one : (rest.drop n.toNat).length = 1 := by rw [List.length_drop]; omega
              obtain ⟨last, e⟩ := List.length_eq_one_iff.mp one
              exact ⟨last, by rw [← e, List.take_append_drop]⟩
            have number : byte (rest.take n.toNat).length = n := by rw [params]; simp [byte]
            rw [split] at check
            have own := (crc8_append_eq_zero (code :: n :: rest.take n.toNat) last).mp check
            show code :: n :: rest = checked (code :: byte (rest.take n.toNat).length :: rest.take n.toNat)
            rw [number, checked, ← own]
            exact congrArg (code :: n :: ·) split
  · cases h

/-- A well-formed request fits a frame of its own (R192, R212). -/
theorem request_fits (i : Instr) : Laws.RequestFrame.Statement i := by
  cases i
  case podSet pod requested code widths => exact Laws.RequestFrame.podSet pod requested code widths
  case decConfig d profile learn bindings params => exact Laws.RequestFrame.decConfig d profile learn bindings params
  case paneSet pane row col width height kind names format label lbusy =>
    exact Laws.RequestFrame.paneSet pane row col width height kind names format label lbusy
  all_goals
    intro _ r request
    cases request <;> exact Laws.RequestFrame.fits (by decide) (Nat.le_of_ble_eq_true rfl)

/-- The frame of a well-formed request is judged to be it (R212). -/
theorem judgeFrame_frameOf {i : Instr} {r : Byte × List Byte} (wf : i.wf = true) (request : requestOf i = some r) :
    judgeFrame (frameOf r) 0 = .good i.sent := by
  obtain ⟨_, fits⟩ := request_fits i wf r request
  have number := byte_toNat_of_lt (n := r.2.length) (by omega)
  have check : crc8 (r.1 :: byte r.2.length :: (r.2 ++ [crc8 (r.1 :: byte r.2.length :: r.2)])) = 0 :=
    crc8_checked (r.1 :: byte r.2.length :: r.2)
  show judgeFrame (r.1 :: byte r.2.length :: (r.2 ++ [crc8 (r.1 :: byte r.2.length :: r.2)])) 0 = _
  unfold judgeFrame
  dsimp only
  rw [number, if_neg (by simp; omega), if_neg (not_not.mpr check), List.take_left]
  exact judgeRequest_request wf request

/-- Some request has a code exactly where the table has a layout for it (R201). -/
theorem layout_isSome_iff {code : Byte} : (layout? code).isSome = true ↔ ∃ i r, requestOf i = some r ∧ r.1 = code := by
  refine ⟨fun some => ?_, ?_⟩
  · obtain ⟨f, layout⟩ := Option.isSome_iff_exists.mp some
    exact (layoutOk_of_layout layout).named
  · rintro ⟨i, r, request, rfl⟩
    cases i <;> cases request <;> rfl

/-! ### Selections (R191, R192, R195) -/

theorem sentBit_idle (n : Nat) : sentBit [0xFF] n = sentBit [] n := by
  unfold sentBit
  cases n / 8 <;> rfl

/-- Where nothing is to be sent 0xFF is, and then 0xFF. -/
theorem sdoLevels_idle (wave : List SerialLines) : sdoLevels [0xFF] wave = sdoLevels [] wave := by
  have drives : ∀ (lines : List SerialLines) (n : Nat), driven [0xFF] n lines = driven [] n lines := fun lines => by
    induction lines with
    | nil => exact fun _ => rfl
    | cons a lines ih =>
      intro n
      cases lines with
      | nil => rw [driven, driven, sentBit_idle]
      | cons b rest => rw [driven, driven, sentBit_idle, ih]
  unfold sdoLevels
  dsimp only
  rw [drives]

/-- The state after a selection in which the port sends 0xFF alone. -/
def State.heardOnly (s : State) (wave : List SerialLines) : State := { s with port := { s.port with sdo := sdoLevels [] wave } }

theorem State.sends_idle (s : State) (wave : List SerialLines) : { s with port := s.port.sends wave [] } = s.heardOnly wave := by
  unfold Port.sends State.heardOnly
  rw [sdoLevels_idle]

theorem takeSelection_nothing {wave : List SerialLines} {s : State} (h : clockedBytes wave = []) : s.takeSelection wave = s.heardOnly wave := by
  unfold State.takeSelection
  rw [h]
  exact s.sends_idle wave

theorem takeSelection_cut {wave : List SerialLines} {s : State} {code : Byte} {rest : List Byte} (h : clockedBytes wave = code :: rest)
    (request : code ≠ 0) (cut : cutByReset wave = true) : s.takeSelection wave = s.heardOnly wave := by
  unfold State.takeSelection
  rw [h]
  dsimp only
  rw [if_neg request, if_pos cut]
  exact s.sends_idle wave

theorem takeSelection_request {wave : List SerialLines} {s : State} {code : Byte} {rest : List Byte} (h : clockedBytes wave = code :: rest)
    (request : code ≠ 0) (uncut : cutByReset wave = false) : s.takeSelection wave =
      { s.heardOnly wave with port := (s.heardOnly wave).port.takeRequest (code :: rest) (partialBits wave) } := by
  rw [← s.sends_idle wave]
  unfold State.takeSelection
  rw [h]
  dsimp only
  rw [if_neg request, uncut]
  rfl

theorem takeSelection_read {wave : List SerialLines} {s : State} {rest : List Byte} (h : clockedBytes wave = 0 :: rest) :
    s.takeSelection wave = s.takeRead wave := by
  unfold State.takeSelection
  rw [h]
  rfl

/-- Settles O8: the request's own frame is judged good, and outside EXECUTING a good request is on its way. -/
theorem frameRoutesItsRequest : Obligations.FrameRoutesItsRequest := fun i r wave s wf request bytes whole uncut idle => by
  refine makes_of_eq (requestFrame wave) rfl ?_
  obtain ⟨code, _⟩ := request_fits i wf r request
  unfold requestFrame
  rw [takeSelection_request (rest := byte r.2.length :: r.2 ++ [crc8 (r.1 :: byte r.2.length :: r.2)]) bytes code uncut, whole]
  show { s.heardOnly wave with port := (s.heardOnly wave).port.takeRequest (frameOf r) 0 } = _
  have taken : (s.heardOnly wave).port.takeRequest (frameOf r) 0 = (s.heardOnly wave).port.takeFrame (.good i.sent) := by
    unfold Port.takeRequest
    rw [judgeFrame_frameOf wf request]
    exact if_neg idle
  rw [taken]
  rfl

/-! ### Bad frames (R194, R195) -/

/-- The state after a bad frame taken outside EXECUTING. -/
def State.frameRefused (s : State) (wave : List SerialLines) (st : Status) : State :=
  { s.heardOnly wave with port := { (s.heardOnly wave).port with
    state := .executing, buffer := none, request := none, answer := some { status := st, payload := [] }, gathered := [] } }

theorem requestFrame_bad {wave : List SerialLines} {s : State} {code : Byte} {rest : List Byte} (h : clockedBytes wave = code :: rest)
    (request : code ≠ 0) (uncut : cutByReset wave = false) (idle : s.port.state ≠ .executing) {st : Status}
    (bad : judgeFrame (code :: rest) (partialBits wave) = .bad st) : Makes (.requestFrame wave) s (s.frameRefused wave st) := by
  refine makes_of_eq (requestFrame wave) rfl ?_
  unfold requestFrame
  have taken : (s.heardOnly wave).port.takeRequest (code :: rest) (partialBits wave) = (s.heardOnly wave).port.takeFrame (.bad st) := by
    unfold Port.takeRequest
    rw [bad]
    exact if_neg idle
  rw [takeSelection_request h request uncut, taken]
  rfl

/-- The judgment of a frame of the right length with a good check byte is that of its code and parameters. -/
theorem judgeFrame_fits {code n : Byte} {tail : List Byte} {bits : Nat} (short : n.toNat ≤ 250) (length : tail.length = n.toNat + 1)
    (whole : bits = 0) : judgeFrame (code :: n :: tail) bits =
      if crc8 (code :: n :: tail) ≠ 0 then .bad .badCheck else judgeRequest code (tail.take n.toNat) := by
  have fits : ¬ (250 < n.toNat ∨ tail.length ≠ n.toNat + 1 ∨ bits ≠ 0) := by omega
  show (if _ then _ else _) = _
  rw [if_neg fits]

theorem judgeRequest_unknown {code : Byte} {params : List Byte} (h : ∀ i r, requestOf i = some r → r.1 ≠ code) :
    judgeRequest code params = .bad .unknownRequest := by
  unfold judgeRequest
  cases layout : layout? code with
  | none => rfl
  | some f =>
    obtain ⟨i, r, request, own⟩ := (layoutOk_of_layout layout).named
    exact absurd own (h i r request)

theorem judgeRequest_badParam {code : Byte} {params : List Byte} (short : params.length ≤ 250) (named : ∃ i r, requestOf i = some r ∧ r.1 = code)
    (none : ∀ i, i.wf = true → requestOf i ≠ some (code, params)) : judgeRequest code params = .bad .badParam := by
  obtain ⟨f, layout⟩ := Option.isSome_iff_exists.mp (layout_isSome_iff.mpr named)
  unfold judgeRequest
  rw [layout]
  dsimp only
  cases read : f params with
  | none => rfl
  | some i =>
    obtain ⟨wf, _, request⟩ := (layoutOk_of_layout layout).reads params i short read
    exact absurd request (none i wf)

/-- Settles O10: the checks of R194 in their order. -/
theorem badFrameAnswered : Obligations.BadFrameAnswered := fun wave s =>
  ⟨fun nothing => makes_of_eq (requestFrame wave) rfl (takeSelection_nothing nothing), fun code rest bytes request =>
    ⟨fun cut => makes_of_eq (requestFrame wave) rfl (takeSelection_cut bytes request cut), fun uncut =>
      have bad : s.port.state ≠ .executing → ∀ {st}, judgeFrame (code :: rest) (partialBits wave) = .bad st →
          Makes (.requestFrame wave) s (s.frameRefused wave st) := fun idle _ => requestFrame_bad bytes request uncut idle
      ⟨fun executing => makes_of_eq (requestFrame wave) rfl
          ((takeSelection_request bytes request uncut).trans (congrArg (fun port => { s.heardOnly wave with port }) (if_pos executing))),
        fun idle empty => bad idle (by rw [empty]; rfl), fun idle n tail e =>
        ⟨fun misfit => bad idle (by rw [e]; exact if_pos misfit), fun short length whole =>
          have judged := judgeFrame_fits (code := code) short length whole
          have params : (tail.take n.toNat).length ≤ 250 := by rw [List.length_take]; omega
          ⟨fun check => bad idle (by rw [e, judged]; exact if_pos (e ▸ check)), fun check =>
            have good : judgeFrame (code :: rest) (partialBits wave) = judgeRequest code (tail.take n.toNat) := by
              rw [e, judged]
              exact if_neg (not_not.mpr (e ▸ check))
            ⟨fun unknown => bad idle (good.trans (judgeRequest_unknown unknown)),
              fun named none => bad idle (good.trans (judgeRequest_badParam params named none))⟩⟩⟩⟩⟩⟩

/-! ### Read frames and answers (R196 to R200) -/

theorem responseBytes_eq (u : WatchUnit) (st : Status) (overrun : Bool) (payload : List Byte) :
    responseBytes u st overrun payload =
      [st.code, boolByte u.freeze + 2 * boolByte u.attn + 4 * boolByte overrun, byte payload.length] ++ payload ++
        [crc8 ([st.code, boolByte u.freeze + 2 * boolByte u.attn + 4 * boolByte overrun, byte payload.length] ++ payload)] := by
  rw [responseBytes, checked, flags_triple]
  rfl

/-- Settles O11: a read frame sends the response that waits or NO_RESPONSE, and the answer fills the buffer. -/
theorem readFrameAndAnswer : Obligations.ReadFrameAndAnswer := by
  refine ⟨fun wave rest s bytes => ⟨fun r answered buffer => ?_, fun waits => ?_⟩, fun wave s => ?_, fun s => ⟨fun a executing answer => ?_, fun none => ?_⟩⟩
  · refine makes_of_eq (readFrame wave) rfl ((takeSelection_read bytes).trans ?_)
    unfold State.takeRead
    rw [answered, buffer]
    dsimp only [Port.sends]
    rw [responseBytes_eq]
    rfl
  · refine makes_of_eq (readFrame wave) rfl ((takeSelection_read bytes).trans ?_)
    unfold State.takeRead
    split
    · next answered _ => exact absurd answered waits
    · unfold Port.sends
      rw [responseBytes_eq]
      rfl
  · rfl
  · refine makes_of_eq Machine.answer rfl ?_
    unfold Machine.answer
    rw [executing, answer]
  · have same : Machine.answer s = s := by
      unfold Machine.answer
      split
      · next executing answer =>
        rcases none with idle | nothing
        · exact absurd executing idle
        · rw [nothing] at answer
          cases answer
      · rfl
    show Host.Outcome.next (s.take .answer Machine.answer) = _
    unfold State.take
    rw [same, ite_self]

end Sys2Proof.Machine
end

section
/-! Every step keeps the Panel Link and the port as their tables give them (section 9.1, R195, R196), and while RESET is held low every block at its reset values (R21, R209): what every command leaves of the link, the pins and the port. -/

namespace Sys2Proof.Machine

/-! ### The Panel Link (R181, R182) -/

/-- The link as it is before the test for a burst: it may be in IDLE with rows waiting. -/
structure LinkLoose (s : State) : Prop where
  burst   : s.panel.burst.isSome = (s.panel.link == .sending)
  wait    : s.panel.wait.isSome = (s.panel.link == .waiting)
  waiting : s.panel.link = .waiting → s.pins.lbusy = true ∧ s.panel.dirty ≠ 0

theorem PanelOk.loose {s : State} (h : PanelOk s) : LinkLoose s := ⟨h.burst, h.wait, h.waiting⟩

theorem PanelOk.of_same {s t : State} (h : PanelOk s) (panel : t.panel = s.panel) (lbusy : t.pins.lbusy = s.pins.lbusy) : PanelOk t :=
  ⟨panel ▸ h.burst, panel ▸ h.wait, panel ▸ h.idle, panel ▸ lbusy ▸ h.waiting⟩

theorem LinkLoose.of_same {s t : State} (h : LinkLoose s) (panel : t.panel = s.panel) (lbusy : t.pins.lbusy = s.pins.lbusy) : LinkLoose t :=
  ⟨panel ▸ h.burst, panel ▸ h.wait, panel ▸ lbusy ▸ h.waiting⟩

theorem lowest?_isSome {n : Nat} {m : BitVec n} (h : m ≠ 0) : ∃ i, lowest? m = some i := by
  obtain ⟨i, set⟩ := mask_ne_zero.mp h
  refine Option.isSome_iff_exists.mp (List.find?_isSome.mpr ⟨i, List.mem_finRange i, set⟩)

/-- Rows marked dirty leave the link in its state (R180). -/
theorem LinkLoose.markRows {s : State} (h : LinkLoose s) (rows : BitVec 16) : LinkLoose (s.markRows rows) := by
  refine ⟨h.burst, h.wait, fun waiting => ?_⟩
  obtain ⟨high, some⟩ := h.waiting waiting
  obtain ⟨i, set⟩ := mask_ne_zero.mp some
  refine ⟨high, mask_ne_zero.mpr ⟨i, ?_⟩⟩
  show (s.panel.dirty ||| rows).getLsbD i = true
  rw [BitVec.getLsbD_or, set, Bool.true_or]

theorem PanelOk.startBurst {s : State} (dirty : s.panel.dirty ≠ 0) : PanelOk s.startBurst := by
  obtain ⟨row, lowest⟩ := lowest?_isSome dirty
  unfold State.startBurst
  rw [lowest]
  exact ⟨rfl, rfl, nofun, nofun⟩

/-- After the test for a burst no row waits in IDLE (R181). -/
theorem LinkLoose.panelTest {s : State} (h : LinkLoose s) (lbusy : Bool) : PanelOk (s.panelTest lbusy) := by
  unfold State.panelTest
  split
  · next test =>
    obtain ⟨idle, dirty⟩ := test
    split
    · next high =>
      have noBurst : s.panel.burst.isSome = false := by rw [h.burst, idle]; rfl
      exact ⟨noBurst, rfl, nofun, fun _ => ⟨high, dirty⟩⟩
    · exact PanelOk.startBurst (s := s.setLbusy lbusy) dirty
  · next quiet =>
    exact ⟨h.burst, h.wait, fun idle => not_not.mp fun dirty => quiet ⟨idle, dirty⟩, h.waiting⟩

theorem LinkLoose.write {s : State} (h : LinkLoose s) (r : Rect) (cells : Nat → Nat → GridCell) : LinkLoose (s.write r cells) :=
  LinkLoose.markRows (s := { s with display := { s.display with grid := writeRect r cells s.display.grid } }) ⟨h.burst, h.wait, h.waiting⟩ _

theorem LinkLoose.vacateRect {s : State} (h : LinkLoose s) (p : Pane) : LinkLoose (s.vacateRect p) := by
  unfold State.vacateRect
  split
  · exact h
  · exact h.write _ _

theorem LinkLoose.renderPane {s : State} (h : LinkLoose s) (i : Fin 16) : LinkLoose (s.renderPane i) := by
  unfold State.renderPane
  dsimp only
  split
  · exact (h.write _ _).of_same rfl rfl
  · exact h

theorem LinkLoose.render {s : State} (h : LinkLoose s) : LinkLoose s.render :=
  foldl_inv LinkLoose State.renderPane (fun _ i k => k.renderPane i) _ _ (h.of_same rfl rfl)

/-! ### What commands leave of the link, the pins and the port -/

/-- The link is kept, and RESET. -/
structure LinkKept (s t : State) : Prop where
  panel    : PanelOk s → PanelOk t
  resetLow : t.pins.resetLow = s.pins.resetLow

/-- An event that is none of the port's. -/
structure Bystands (s t : State) : Prop extends LinkKept s t where
  port : t.port = s.port

/-- A request that is carried out or refused: its one answer is on its way (R196). -/
structure Answers (s t : State) : Prop extends LinkKept s t where
  port : ∃ a, t.port = { s.port with request := none, answer := some a }

theorem Bystands.of_same {s t : State} (panel : t.panel = s.panel) (lbusy : t.pins.lbusy = s.pins.lbusy)
    (resetLow : t.pins.resetLow = s.pins.resetLow) (port : t.port = s.port) : Bystands s t :=
  ⟨⟨fun h => h.of_same panel lbusy, resetLow⟩, port⟩

theorem Bystands.refl (s : State) : Bystands s s := .of_same rfl rfl rfl rfl

theorem Bystands.trans {s t u : State} (h : Bystands s t) (k : Bystands t u) : Bystands s u :=
  ⟨⟨k.panel ∘ h.panel, k.resetLow.trans h.resetLow⟩, k.port.trans h.port⟩

theorem Bystands.answered {s t : State} (h : Bystands s t) (st : Status) (payload : List Byte) : Answers s (t.answered st payload) :=
  ⟨⟨fun k => (h.panel k).of_same rfl rfl, h.resetLow⟩, ⟨_, congrArg (fun p : Port => { p with request := none, answer := some { status := st, payload } }) h.port⟩⟩

theorem Bystands.ok {s t : State} (h : Bystands s t) : Answers s t.ok := h.answered _ _

theorem State.answers (st : Status) (payload : List Byte) (s : State) : Answers s (s.answered st payload) := (Bystands.refl s).answered st payload

theorem State.answers_refuse (st : Status) (s : State) : Answers s (s.refuse st) := s.answers st []

/-- What answers and then bystands answers. -/
theorem Answers.later {s t u : State} (h : Answers s t) (k : Bystands t u) : Answers s u := by
  obtain ⟨a, port⟩ := h.port
  exact ⟨⟨k.panel ∘ h.panel, k.resetLow.trans h.resetLow⟩, ⟨a, k.port.trans port⟩⟩

theorem Bystands.fold {α : Type} {f : State → α → State} (each : ∀ s a, Bystands s (f s a)) (l : List α) (s : State) : Bystands s (l.foldl f s) :=
  foldl_inv (Bystands s) f (fun _ a k => k.trans (each _ a)) l s (.refl s)

theorem bystands_decoder (d : Fin 6) : DecoderClosed d Bystands where
  refl := .refl
  trans _ _ _ := .trans
  put _ _ := .of_same (by simp) (by simp) (by simp) (by simp)
  apply _ _ := .of_same (by simp) (by simp) (by simp) (by simp)
  error _ _ _ := .of_same (by simp) (by simp) (by simp) (by simp)
  event _ _ _ := .of_same (by simp) (by simp) (by simp) (by simp)

theorem State.advance_bystands (t : Nat) (s : State) : Bystands s (s.advance t) := .of_same rfl rfl rfl rfl

/-! ### Events -/

theorem acceptedEdge_bystands (channel : Fin 32) (also : List (Fin 32)) (stamp : Nat) (order : List Taker) (s : State) :
    Bystands s (acceptedEdge channel also stamp order s) := by
  simp only [acceptedEdge]
  split
  · exact .refl s
  · have accepted : ∀ (l : List (Fin 32)) (t : State), Bystands t (l.foldl State.acceptChange t) :=
      Bystands.fold fun t c => .of_same rfl rfl rfl rfl
    have delivered : ∀ (l : List (Fin 32)) (t : State), Bystands t (t.deliver l stamp order) := fun l t =>
      .of_same (by simp) (by simp) (by simp) (by simp)
    exact ((State.advance_bystands stamp s).trans (accepted _ _)).trans (delivered _ _)

theorem pod_events_bystand (s : State) (p : Fin 4) :
    (Bystands s (insertionTimerStart p s) ∧ Bystands s (insertionTimerStop p s) ∧ Bystands s (insertion p s)) ∧
    (Bystands s (removal p s) ∧ Bystands s (overcurrent p s)) ∧
    (Bystands s (rampingExpiry p s) ∧ Bystands s (stoppingExpiry p s)) ∧ ∀ levels, Bystands s (settlingExpiry p levels s) := by
  refine ⟨⟨?_, ?_, ?_⟩, ⟨?_, ?_⟩, ⟨?_, ?_⟩, fun levels => ?_⟩
  · simp only [insertionTimerStart]
    split
    · exact .of_same rfl rfl rfl rfl
    · exact .refl s
  · simp only [insertionTimerStop]
    split
    · exact .refl s
    · exact .of_same rfl rfl rfl rfl
  · simp only [insertion]
    split
    · exact .refl s
    · exact .of_same (by simp) (by simp) (by simp) (by simp)
  · simp only [removal]
    split
    · exact .refl s
    · exact Bystands.trans (t := { s with pins := s.pins.setSense p false }) (.of_same rfl rfl rfl rfl)
        (.of_same (by simp) (by simp) (by simp) (by simp))
  · simp only [overcurrent]
    split
    · exact .of_same (by simp) (by simp) (by simp) (by simp)
    · exact .refl s
  · simp only [rampingExpiry]
    split
    · exact .refl s
    · exact .of_same (by simp) (by simp) (by simp) (by simp)
  · simp only [stoppingExpiry]
    split
    · exact .refl s
    · exact .of_same (by simp) (by simp) (by simp) (by simp)
  · simp only [settlingExpiry]
    split
    · exact .refl s
    · next t _ =>
      exact Bystands.trans (t := { s.advance t.endsAt with pins := s.pins.setPodLevels p levels }) (.of_same rfl rfl rfl rfl)
        (.of_same (by simp) (by simp) (by simp) (by simp))

theorem decoder_events_bystand (s : State) (d : Fin 6) :
    (∀ clock data, Bystands s (twoWireIdleExpiry d clock data s)) ∧ (∀ line, Bystands s (asyncIdleExpiry d line s)) ∧
    (∀ line, Bystands s (asyncSamplePoint d line s)) ∧ (∀ line, Bystands s (characterJudged d line s)) ∧
    (∀ line, Bystands s (breakTimeout d line s)) ∧ Bystands s (idleGapExpiry d s) := by
  have h := bystands_decoder d
  have expires : ∀ n levels, Bystands s (s.atExpiry d n levels) := fun n levels => h.atExpiry State.advance_bystands n levels s
  refine ⟨fun clock data => ?_, fun line => ?_, fun line => ?_, fun line => ?_, fun line => ?_, ?_⟩
  · simp only [twoWireIdleExpiry]
    split
    · exact (expires _ _).trans (h.idleAt _ _)
    · exact .refl s
  · simp only [asyncIdleExpiry]
    split
    · exact (expires _ _).trans (h.idleAt _ _)
    · exact .refl s
  · simp only [asyncSamplePoint]
    split
    · exact .refl s
    · split
      · exact (expires _ _).trans (h.takeSample _)
      · exact .refl s
  · simp only [characterJudged]
    split
    · exact .refl s
    · split
      · exact (expires _ _).trans (h.lastSample _)
      · exact .refl s
  · simp only [breakTimeout]
    split
    · exact .refl s
    · split
      · exact (expires _ _).trans (h.breakTest _ _)
      · exact .refl s
  · simp only [idleGapExpiry]
    split
    · split
      · exact (State.advance_bystands _ s).trans (h.gapEnd _ _)
      · exact .refl s
    · exact .refl s

theorem meter_events_bystand (s : State) (m : Fin 8) : Bystands s (overrange m s) ∧ ∀ order, Bystands s (windowExpiry m order s) := by
  refine ⟨?_, fun order => ?_⟩
  · simp only [overrange]
    split
    · exact .of_same (by simp) (by simp) (by simp) (by simp)
    · exact .refl s
  · simp only [windowExpiry]
    split
    · exact .of_same (by simp) (by simp) (by simp) (by simp)
    · exact .refl s

theorem filterCandidate_bystands (c : Fin 32) (level : Bool) (stamp : Nat) (s : State) : Bystands s (filterCandidate c level stamp s) := by
  simp only [filterCandidate]
  repeat' split
  all_goals exact .of_same rfl rfl rfl rfl

theorem link_events_bystand (s : State) :
    Bystands s (lbusyLow s) ∧ (∀ lbusy, Bystands s (burstEnd lbusy s)) ∧ Bystands s (waitExpiry s) := by
  refine ⟨⟨⟨fun h => ?_, ?_⟩, ?_⟩, fun lbusy => ⟨⟨fun h => ?_, ?_⟩, ?_⟩, ⟨⟨fun h => ?_, ?_⟩, ?_⟩⟩
  · unfold lbusyLow
    split
    · next waiting => exact PanelOk.startBurst (s := s.setLbusy false) (h.waiting waiting).2
    · next other => exact ⟨h.burst, h.wait, h.idle, fun waiting => absurd waiting other⟩
  · unfold lbusyLow
    split <;> simp [State.setLbusy]
  · unfold lbusyLow
    split <;> simp
  · unfold burstEnd
    split
    · next b link _ =>
      have noWait : s.panel.wait.isSome = false := by rw [h.wait, link]; rfl
      refine LinkLoose.panelTest (s := { s.advance b.endsAt with panel := { s.panel with link := .idle, burst := none } }) ⟨rfl, noWait, ?_⟩ lbusy
      exact fun waiting => absurd (show LinkState.idle = .waiting from waiting) (by decide)
    · exact h
  · unfold burstEnd
    split
    · dsimp only
      rw [State.panelTest_pins]
      split <;> rfl
    · rfl
  · unfold burstEnd
    split <;> simp
  · unfold waitExpiry
    split
    · next t link _ =>
      have noBurst : s.panel.burst.isSome = false := by rw [h.burst, link]; rfl
      refine PanelOk.of_same (s := { s.advance t with panel := { s.panel with link := .lost, wait := none } }) ?_ (by simp) (by simp)
      exact ⟨noBurst, rfl, nofun, nofun⟩
    · exact h
  · unfold waitExpiry
    split <;> simp
  · unfold waitExpiry
    split <;> simp

/-- The tick renders and then tests for a burst (R169). -/
theorem refreshTick_bystands (lbusy : Bool) (s : State) : Bystands s (refreshTick lbusy s) := by
  have tested : ∀ u : State, (PanelOk s → LinkLoose u) → u.pins.resetLow = s.pins.resetLow → u.port = s.port →
      Bystands s (u.nextInterval.panelTest lbusy) := fun u loose resetLow port => by
    refine ⟨⟨fun h => LinkLoose.panelTest (s := u.nextInterval) ((loose h).of_same rfl rfl) lbusy, ?_⟩, ?_⟩
    · rw [State.panelTest_pins]
      split
      · exact resetLow
      · exact resetLow
    · rw [State.panelTest_port]
      exact port
  unfold refreshTick
  split
  · exact tested _ (fun h => h.loose.render) (congrArg Pins.resetLow s.render_pins) s.render_port
  · exact .refl s

end Sys2Proof.Machine
end

section
/-! What every request leaves of the link, the pins and the port: one answer (R196, R202). -/

namespace Sys2Proof.Machine

/-! ### Requests of pods, decoders and meters -/

theorem podSet_answers (pod requested code : Byte) (w : Vector Byte 8) (s : State) : Answers s (podSet pod requested code w s) := by
  simp only [podSet]
  repeat' split
  all_goals first
    | exact s.answers_refuse _
    | exact Bystands.ok (.of_same (by simp) (by simp) (by simp) (by simp))

theorem podGo_answers (mask : Byte) (s : State) : Answers s (podGo mask s) := by
  have moved : Bystands s ((namedPods mask).foldl State.podGoOne s) :=
    Bystands.fold (fun t p => .of_same (by simp) (by simp) (by simp) (by simp)) _ s
  simp only [podGo]
  split
  · exact s.answers_refuse _
  · split
    · exact s.answers_refuse _
    · split
      · exact s.answers_refuse _
      · exact moved.answered _ _

theorem podRead_answers_one (pod : Byte) (s : State) : Answers s (podRead pod s) := by
  simp only [podRead]
  split
  · exact s.answers_refuse _
  · exact s.answers _ _

theorem decConfig_answers (decoder profile learn : Byte) (bindings : List (Byte × Byte)) (params : List Byte) (s : State) :
    Answers s (decConfig decoder profile learn bindings params s) := by
  simp only [decConfig]
  repeat' split
  all_goals first
    | exact s.answers_refuse _
    | exact Bystands.ok (.of_same (by simp) (by simp) (by simp) (by simp))

theorem decStart_answers (decoder : Byte) (s : State) : Answers s (decStart decoder s) := by
  simp only [decStart]
  repeat' split
  all_goals first
    | exact s.answers_refuse _
    | exact (Bystands.refl s).ok
    | exact Bystands.ok (.of_same (by simp) (by simp) (by simp) (by simp))

theorem decStop_answers (decoder : Byte) (s : State) : Answers s (decStop decoder s) := by
  simp only [decStop]
  split
  · exact s.answers_refuse _
  · split
    · exact (Bystands.refl s).ok
    · exact Bystands.ok (.of_same (by simp) (by simp) (by simp) (by simp))
    all_goals exact Bystands.ok (.of_same (by simp) (by simp) (by simp) (by simp))

theorem decRead_answers_one (decoder : Byte) (s : State) : Answers s (decRead decoder s) := by
  simp only [decRead]
  split
  · exact s.answers_refuse _
  · exact s.answers _ _

theorem mtrConfig_answers (meter : Byte) (b : MeterBytes) (s : State) : Answers s (mtrConfig meter b s) := by
  simp only [mtrConfig]
  repeat' split
  all_goals first
    | exact s.answers_refuse _
    | exact Bystands.ok (.of_same (by simp) (by simp) (by simp) (by simp))

theorem mtrStart_answers (meter : Byte) (s : State) : Answers s (mtrStart meter s) := by
  have arm : ∀ m, Answers s (s.setMeterState m (.armed none)).ok := fun m => Bystands.ok (.of_same (by simp) (by simp) (by simp) (by simp))
  have opens : ∀ m stamp, Answers s (s.openWindow m stamp).ok := fun m stamp => Bystands.ok (.of_same (by simp) (by simp) (by simp) (by simp))
  simp only [mtrStart]
  split
  · exact s.answers_refuse _
  · split
    · exact (Bystands.refl s).ok
    · split
      · split
        · exact s.answers_refuse _
        · exact arm _
      · exact opens _ _
      all_goals exact arm _

theorem mtrStop_answers (meter : Byte) (s : State) : Answers s (mtrStop meter s) := by
  have stopped : ∀ m, Bystands s (s.setMeterState m .off) := fun m => .of_same (by simp) (by simp) (by simp) (by simp)
  have told : ∀ m (t : State), Bystands t ((List.finRange 8).foldl (State.followerStop m) t) := fun m =>
    Bystands.fold (fun t f => .of_same (by simp) (by simp) (by simp) (by simp)) _
  simp only [mtrStop]
  split
  · exact s.answers_refuse _
  · split
    · exact (Bystands.refl s).ok
    · split
      · exact ((stopped _).trans (told _ _)).ok
      · exact (stopped _).ok

theorem mtrRead_answers_one (meter : Byte) (s : State) : Answers s (mtrRead meter s) := by
  simp only [mtrRead]
  split
  · exact s.answers_refuse _
  · exact s.answers _ _

theorem mtrClear_answers (meter : Byte) (s : State) : Answers s (mtrClear meter s) := by
  simp only [mtrClear]
  split
  · exact s.answers_refuse _
  · exact Bystands.ok (.of_same (by simp) (by simp) (by simp) (by simp))

/-! ### Requests of the store -/

theorem tgtFind_answers (decoder address : Byte) (s : State) : Answers s (tgtFind decoder address s) := by
  simp only [tgtFind]
  split
  · exact s.answers_refuse _
  · split
    · exact s.answers _ _
    · exact s.answers_refuse _

theorem tgtList_answers_one (start filter max : Byte) (s : State) : Answers s (tgtList start filter max s) := by
  simp only [tgtList]
  split
  · exact s.answers_refuse _
  · split
    · exact s.answers_refuse _
    · exact s.answers _ _

theorem tgtDeclare_answers (decoder address pinned : Byte) (s : State) : Answers s (tgtDeclare decoder address pinned s) := by
  simp only [tgtDeclare]
  split
  · split
    · exact s.answers _ _
    · split
      · exact s.answers_refuse _
      · refine Bystands.answered ?_ _ _
        exact .of_same rfl rfl rfl rfl
  · exact s.answers_refuse _

theorem State.putCells_answers (i : Fin 64) (r : Record) (cells : List TargetCell) (free : Nat) (x : Handle) (regs : List Byte) (s : State) :
    Answers s ((s.putCells i r cells free).targetReport x regs []).ok := Bystands.ok (.of_same (by simp) (by simp) (by simp) (by simp))

theorem tgtRead_answers (x : Handle) (first max clear : Byte) (s : State) : Answers s (tgtRead x first max clear s) := by
  refine State.withRecord_keeps s.answers_refuse fun i r _ => ?_
  dsimp only
  split
  · have cleared : Answers s { s.answered .ok (r.header x (returnedCells first max r).length ++ (returnedCells first max r).flatMap TargetCell.entry) with
        store := s.store.setRecord i (r.clearMarks (returnedCells first max r)) } := (s.answers _ _).later (.of_same rfl rfl rfl rfl)
    split
    · exact cleared.later (.of_same (by simp) (by simp) (by simp) (by simp))
    · exact cleared
  · exact s.answers _ _

theorem tgtSetCell_answers (x : Handle) (register value : Byte) (s : State) : Answers s (tgtSetCell x register value s) := by
  refine State.withRecord_keeps s.answers_refuse fun i r _ => ?_
  split
  · dsimp only
    split
    · exact Bystands.ok (.of_same rfl rfl rfl rfl)
    · exact s.putCells_answers _ _ _ _ _ _
  · split
    · exact s.putCells_answers _ _ _ _ _ _
    · exact s.answers_refuse _

theorem tgtExpect_answers (x : Handle) (register operation value mask : Byte) (s : State) :
    Answers s (tgtExpect x register operation value mask s) := by
  refine State.withRecord_keeps s.answers_refuse fun i r _ => ?_
  split
  · unfold expectSet
    split
    · exact s.putCells_answers _ _ _ _ _ _
    · split
      · exact s.putCells_answers _ _ _ _ _ _
      · exact s.answers_refuse _
  · unfold expectClear
    split
    · exact s.answers_refuse _
    · split
      · exact s.answers_refuse _
      · split
        · exact s.putCells_answers _ _ _ _ _ _
        · exact s.putCells_answers _ _ _ _ _ _

theorem tgtDropCell_answers (x : Handle) (register : Byte) (s : State) : Answers s (tgtDropCell x register s) := by
  refine State.withRecord_keeps s.answers_refuse fun i r _ => ?_
  split
  · exact s.answers_refuse _
  · exact s.putCells_answers _ _ _ _ _ _

theorem tgtPin_answers (x : Handle) (on : Byte) (s : State) : Answers s (tgtPin x on s) :=
  State.withRecord_keeps s.answers_refuse fun _ _ _ => Bystands.ok (.of_same rfl rfl rfl rfl)

theorem tgtRetire_answers (x : Handle) (force : Byte) (s : State) : Answers s (tgtRetire x force s) := by
  refine State.withRecord_keeps s.answers_refuse fun i r _ => ?_
  split
  · exact s.answers_refuse _
  · exact Bystands.ok (.of_same (by simp) (by simp) (by simp) (by simp))

/-! ### Requests of watches and notices -/

theorem wchSet_answers (watch : Byte) (sub : SubjectBytes) (cond : ConditionBytes) (level actions : Byte) (s : State) :
    Answers s (wchSet watch sub cond level actions s) := by
  simp only [wchSet]
  repeat' split
  all_goals first
    | exact s.answers_refuse _
    | exact Bystands.ok (.of_same (by simp) (by simp) (by simp) (by simp))

theorem wchClear_answers (watch : Byte) (s : State) : Answers s (wchClear watch s) := by
  simp only [wchClear]
  repeat' split
  all_goals first
    | exact s.answers_refuse _
    | exact (Bystands.refl s).ok
    | exact Bystands.ok (.of_same (by simp) (by simp) (by simp) (by simp))

theorem wchRead_answers (watch : Byte) (s : State) : Answers s (wchRead watch s) := by
  simp only [wchRead]
  split
  · exact s.answers_refuse _
  · exact s.answers _ _

theorem ntcAckNotice_answers (kind mask : Byte) (s : State) : Answers s (ntcAckNotice kind mask s) := by
  have notices : ∀ u : WatchUnit, Answers s (State.derive { s with watch := u }).ok := fun u =>
    Bystands.ok (.of_same (by simp) (by simp) (by simp) (by simp))
  have cleared : Bystands s ((namedPods mask).foldl State.clearMark s) :=
    Bystands.fold (fun t p => .of_same (by simp) (by simp) (by simp) (by simp)) _ s
  simp only [ntcAckNotice, ackPodFault, ackPodChange, ackPanelLost, ackStoreFull, ackCellsFull]
  repeat' split
  all_goals first
    | exact s.answers_refuse _
    | exact cleared.ok
    | exact notices _

theorem ntcAckWatch_answers (watch : Byte) (s : State) : Answers s (ntcAckWatch watch s) := by
  simp only [ntcAckWatch]
  repeat' split
  all_goals first
    | exact s.answers_refuse _
    | exact Bystands.ok (.of_same (by simp) (by simp) (by simp) (by simp))

theorem ntcLevels_answers (attention freeze : Byte) (s : State) : Answers s (ntcLevels attention freeze s) := by
  simp only [ntcLevels]
  split
  · exact s.answers_refuse _
  · exact Bystands.ok (.of_same (by simp) (by simp) (by simp) (by simp))

theorem hold_answers (on : Byte) (s : State) : Answers s (hold on s) := by
  simp only [hold]
  repeat' split
  all_goals first
    | exact s.answers_refuse _
    | exact (Bystands.refl s).ok
    | exact Bystands.ok (.of_same (by simp) (by simp) (by simp) (by simp))

/-! ### Requests of panes and the panel -/

/-- A test for a burst on a link that is loose. -/
theorem Bystands.tested {s u : State} (loose : PanelOk s → LinkLoose u) (resetLow : u.pins.resetLow = s.pins.resetLow) (port : u.port = s.port)
    (lbusy : Bool) : Bystands s (u.panelTest lbusy) := by
  refine ⟨⟨fun h => (loose h).panelTest lbusy, ?_⟩, ?_⟩
  · rw [State.panelTest_pins]
    split
    · exact resetLow
    · exact resetLow
  · rw [State.panelTest_port]
    exact port

/-- A pane is replaced, its rectangle vacated, and the test for a burst made. -/
theorem State.replacePane_answers {s u : State} (same : Bystands s u) (loose : PanelOk s → LinkLoose u) (i : Fin 16) (old new : Pane) (lbusy : Bool) :
    Answers s (((u.vacateRect old).setPane i new).panelTest lbusy).ok := by
  have port : (u.vacateRect old).port = s.port := (State.vacateRect_port _ _).trans same.port
  have pins : (u.vacateRect old).pins.resetLow = s.pins.resetLow := (congrArg Pins.resetLow (State.vacateRect_pins _ _)).trans same.resetLow
  exact (Bystands.tested (u := (u.vacateRect old).setPane i new) (fun h => ((loose h).vacateRect old).of_same rfl rfl) pins port lbusy).ok

theorem paneSet_answers (pane row col width height kind : Byte) (names : NameBytes) (format : Byte) (label : List Byte) (lbusy : Bool) (s : State) :
    Answers s (paneSet pane row col width height kind names format label lbusy s) := by
  have rebound : ∀ a b, Bystands s ((s.bind? a).unbind? b) := fun a b => .of_same (by simp) (by simp) (by simp) (by simp)
  have loose : ∀ a b, PanelOk s → LinkLoose ((s.bind? a).unbind? b) := fun a b h => h.loose.of_same (by simp) (by simp)
  simp only [paneSet]
  repeat' split
  all_goals first
    | exact s.answers_refuse _
    | exact State.replacePane_answers (rebound _ _) (loose _ _) _ _ _ lbusy

theorem paneClear_answers (pane : Byte) (lbusy : Bool) (s : State) : Answers s (paneClear pane lbusy s) := by
  simp only [paneClear]
  split
  · exact s.answers_refuse _
  · exact State.replacePane_answers (.of_same (by simp) (by simp) (by simp) (by simp)) (fun h => h.loose.of_same (by simp) (by simp)) _ _ _ lbusy

theorem paneRead_answers (pane : Byte) (s : State) : Answers s (paneRead pane s) := by
  simp only [paneRead]
  split
  · exact s.answers_refuse _
  · exact s.answers _ _

theorem dispInterval_answers (interval : Half) (s : State) : Answers s (dispInterval interval s) := by
  simp only [dispInterval]
  split
  · exact s.answers_refuse _
  · exact Bystands.ok (.of_same rfl rfl rfl rfl)

theorem dispRepaint_answers (lbusy : Bool) (s : State) : Answers s (dispRepaint lbusy s) :=
  (Bystands.tested (u := s.markRows allRows) (fun h => h.loose.markRows _) rfl rfl lbusy).ok

theorem pnlEnable_answers (on rate : Byte) (lbusy : Bool) (s : State) : Answers s (pnlEnable on rate lbusy s) := by
  simp only [pnlEnable]
  split
  · exact s.answers_refuse _
  · refine Bystands.ok (t := { s with panel := s.panel.turnOff }) ⟨⟨fun _ => ?_, rfl⟩, rfl⟩
    exact ⟨rfl, rfl, nofun, nofun⟩
  · split
    · exact s.answers_refuse _
    · next r _ =>
      split
      · next off =>
        refine (Bystands.tested (s := s) (u := { s with panel := s.panel.turnOn r }) (fun h => ⟨?_, ?_, nofun⟩) rfl rfl lbusy).ok
        · show s.panel.burst.isSome = _
          rw [h.burst, off]
          rfl
        · show s.panel.wait.isSome = _
          rw [h.wait, off]
          rfl
      · refine Bystands.ok (t := { s with panel := { s.panel with rate := r } }) ⟨⟨fun h => ?_, rfl⟩, rfl⟩
        exact ⟨h.burst, h.wait, h.idle, h.waiting⟩

theorem pnlRestart_answers (lbusy : Bool) (s : State) : Answers s (pnlRestart lbusy s) := by
  simp only [pnlRestart]
  split
  · next lost =>
    refine (Bystands.tested (s := s) (u := { s with panel := { s.panel with link := .idle, dirty := allRows } }) (fun h => ⟨?_, ?_, nofun⟩) rfl rfl lbusy).ok
    · show s.panel.burst.isSome = _
      rw [h.burst, lost]
      rfl
    · show s.panel.wait.isSome = _
      rw [h.wait, lost]
      rfl
  · exact s.answers_refuse _

theorem bklSet_answers (high low : Half) (s : State) : Answers s (bklSet high low s) := Bystands.ok (.of_same rfl rfl rfl rfl)

theorem devRestart_answers (s : State) : Answers s (devRestart s) := by
  refine Bystands.ok (t := s.stopSources.emptyRecords) ⟨⟨fun _ => ?_, rfl⟩, rfl⟩
  exact .of_reset rfl

/-! ### Every command -/

/-- A request, DEV_STATUS aside, gives exactly one answer (R196). -/
theorem effect_answers {c : Instr} (request : c.isRequest = true) (other : ∀ later, c ≠ .devStatus later) (s : State) : Answers s (effect c s) := by
  cases c
  case devStatus later => exact absurd rfl (other later)
  case devIdent => exact s.answers _ _
  case devRestart => exact devRestart_answers s
  case podSet pod requested code w => exact podSet_answers pod requested code w s
  case podGo mask => exact podGo_answers mask s
  case podRead pod => exact podRead_answers_one pod s
  case tgtFind decoder address => exact tgtFind_answers decoder address s
  case tgtList start filter max => exact tgtList_answers_one start filter max s
  case tgtRead x first max clear => exact tgtRead_answers x first max clear s
  case tgtDeclare decoder address pinned => exact tgtDeclare_answers decoder address pinned s
  case tgtSetCell x register value => exact tgtSetCell_answers x register value s
  case tgtExpect x register operation value mask => exact tgtExpect_answers x register operation value mask s
  case tgtDropCell x register => exact tgtDropCell_answers x register s
  case tgtPin x on => exact tgtPin_answers x on s
  case tgtRetire x force => exact tgtRetire_answers x force s
  case decConfig decoder profile learn bindings params => exact decConfig_answers decoder profile learn bindings params s
  case decStart decoder => exact decStart_answers decoder s
  case decStop decoder => exact decStop_answers decoder s
  case decRead decoder => exact decRead_answers_one decoder s
  case mtrConfig meter config => exact mtrConfig_answers meter config s
  case mtrStart meter => exact mtrStart_answers meter s
  case mtrStop meter => exact mtrStop_answers meter s
  case mtrRead meter => exact mtrRead_answers_one meter s
  case mtrClear meter => exact mtrClear_answers meter s
  case wchSet watch sub cond level actions => exact wchSet_answers watch sub cond level actions s
  case wchClear watch => exact wchClear_answers watch s
  case wchRead watch => exact wchRead_answers watch s
  case ntcRead => exact s.answers _ _
  case ntcAckNotice kind mask => exact ntcAckNotice_answers kind mask s
  case ntcAckWatch watch => exact ntcAckWatch_answers watch s
  case ntcLevels attention freeze => exact ntcLevels_answers attention freeze s
  case hold on => exact hold_answers on s
  case paneSet pane row column width height kind names format label lbusy =>
    exact paneSet_answers pane row column width height kind names format label lbusy s
  case paneClear pane lbusy => exact paneClear_answers pane lbusy s
  case paneRead pane => exact paneRead_answers pane s
  case dispInterval interval => exact dispInterval_answers interval s
  case dispRepaint lbusy => exact dispRepaint_answers lbusy s
  case pnlEnable on rate lbusy => exact pnlEnable_answers on rate lbusy s
  case pnlRestart lbusy => exact pnlRestart_answers lbusy s
  case bklSet high low => exact bklSet_answers high low s
  all_goals cases request

/-- A command that reaches the port otherwise than by its answer. -/
def isPort : Instr → Bool
  | .fullReset _ | .requestFrame _ | .readFrame _ | .answer => true
  | _ => false

theorem effect_bystands {c : Instr} (event : c.isRequest = false) (other : isPort c = false) (s : State) : Bystands s (effect c s) := by
  cases c
  case insertionTimerStart p => exact (pod_events_bystand s p).1.1
  case insertionTimerStop p => exact (pod_events_bystand s p).1.2.1
  case insertion p => exact (pod_events_bystand s p).1.2.2
  case removal p => exact (pod_events_bystand s p).2.1.1
  case overcurrent p => exact (pod_events_bystand s p).2.1.2
  case rampingExpiry p => exact (pod_events_bystand s p).2.2.1.1
  case stoppingExpiry p => exact (pod_events_bystand s p).2.2.1.2
  case settlingExpiry p levels => exact (pod_events_bystand s p).2.2.2 levels
  case acceptedEdge channel also stamp order => exact acceptedEdge_bystands channel also stamp order s
  case filterCandidate c level stamp => exact filterCandidate_bystands c level stamp s
  case twoWireIdleExpiry d clock data => exact (decoder_events_bystand s d).1 clock data
  case asyncIdleExpiry d line => exact (decoder_events_bystand s d).2.1 line
  case asyncSamplePoint d line => exact (decoder_events_bystand s d).2.2.1 line
  case characterJudged d line => exact (decoder_events_bystand s d).2.2.2.1 line
  case breakTimeout d line => exact (decoder_events_bystand s d).2.2.2.2.1 line
  case idleGapExpiry d => exact (decoder_events_bystand s d).2.2.2.2.2
  case overrange m => exact (meter_events_bystand s m).1
  case windowExpiry m order => exact (meter_events_bystand s m).2 order
  case refreshTick lbusy => exact refreshTick_bystands lbusy s
  case lbusyLow => exact (link_events_bystand s).1
  case burstEnd lbusy => exact (link_events_bystand s).2.1 lbusy
  case waitExpiry => exact (link_events_bystand s).2.2
  case backlightPhaseExpiry =>
    show Bystands s (backlightPhaseExpiry s)
    simp only [backlightPhaseExpiry]
    split
    · exact .refl s
    · exact .of_same rfl rfl rfl rfl
  case millisecondTick => exact .of_same rfl rfl rfl rfl
  case fullReset | requestFrame | readFrame | answer => cases other
  all_goals cases event

end Sys2Proof.Machine
end

section
/-! Every step keeps the Panel Link, the port and a held reset; and which commands the part takes (R196, R201, R205). -/

namespace Sys2Proof.Machine

/-! ### Which commands are taken -/

theorem isRequest_iff (c : Instr) : c.isRequest = true ↔ requestOf c ≠ none := by
  cases c <;> simp [Instr.isRequest, requestOf]

theorem requestOf_sent (c : Instr) : requestOf c.sent = requestOf c := by
  cases c <;> rfl

theorem sent_atLevel (c : Instr) (lbusy : Bool) : (c.atLevel lbusy).sent = c.sent := by
  cases c <;> rfl

theorem sent_eq_devStatus {c : Instr} (h : c.sent = .devStatus []) : ∃ later, c = .devStatus later := by
  cases c
  case devStatus later => exact ⟨later, rfl⟩
  all_goals cases h

/-- Which commands the part takes (R21, R196). -/
theorem State.takes_iff (c : Instr) (s : State) : s.takes c = true ↔
    ¬ (s.pins.resetLow = true ∧ ¬ ∃ sense, c = .fullReset sense) ∧
    ¬ (c.isRequest = true ∧ s.port.state = .executing ∧ s.port.request ≠ some c.sent) := by
  by_cases reset : ∃ sense, c = .fullReset sense
  · obtain ⟨sense, rfl⟩ := reset
    simp [State.takes, Instr.isRequest]
  · have takes : s.takes c = (!s.pins.resetLow && (!c.isRequest || s.port.state != .executing || s.port.request == some c.sent)) := by
      cases c
      case fullReset sense => exact absurd ⟨sense, rfl⟩ reset
      all_goals rfl
    rw [takes]
    simp only [reset, not_false_eq_true, and_true, Bool.and_eq_true, Bool.or_eq_true, Bool.not_eq_true', bne_iff_ne, beq_iff_eq]
    rw [Bool.not_eq_true, not_and, not_and, not_not]
    refine and_congr_right fun _ => ⟨fun h request executing => ?_, fun h => ?_⟩
    · rcases h with (other | idle) | own
      · rw [request] at other
        cases other
      · exact absurd executing idle
      · exact own
    · cases request : c.isRequest with
      | false => exact .inl (.inl rfl)
      | true =>
        by_cases executing : s.port.state = .executing
        · exact .inr (h request executing)
        · exact .inl (.inr executing)

theorem State.high_of_takes {c : Instr} {s : State} (takes : s.takes c = true) (reset : ∀ sense, c ≠ .fullReset sense) : s.pins.resetLow = false := by
  obtain ⟨held, _⟩ := (State.takes_iff c s).mp takes
  exact Bool.not_eq_true _ ▸ fun low => held ⟨low, fun ⟨sense, e⟩ => reset sense e⟩

theorem State.own_of_takes {c : Instr} {s : State} (takes : s.takes c = true) (request : c.isRequest = true) (executing : s.port.state = .executing) :
    s.port.request = some c.sent := by
  obtain ⟨_, elsewhere⟩ := (State.takes_iff c s).mp takes
  exact not_not.mp fun other => elsewhere ⟨request, executing, other⟩

/-! ### The port (R195, R196, R205) -/

namespace PortOk

theorem of_same {s t : State} (h : PortOk s) (port : t.port = s.port) : PortOk t :=
  ⟨port ▸ h.buffer, port ▸ h.overrun, port ▸ h.request, port ▸ h.one, port ▸ h.sent, port ▸ h.gathers⟩

/-- SDO is no part of the tables. -/
theorem of_sdo {s t : State} (h : PortOk s) {sdo : List (Option Bool)} (port : t.port = { s.port with sdo }) : PortOk t :=
  ⟨port ▸ h.buffer, port ▸ h.overrun, port ▸ h.request, port ▸ h.one, port ▸ h.sent, port ▸ h.gathers⟩

/-- With no request on its way nothing is gathered. -/
theorem gathered_of_none {s : State} (h : PortOk s) (none : s.port.request = none) : s.port.gathered = [] := by
  by_contra some
  rw [h.gathers some] at none
  cases none

/-- The one answer of a request that is taken. -/
theorem answered {s t : State} (h : PortOk s) {a : Answer} (port : t.port = { s.port with request := none, answer := some a })
    (nothing : s.port.gathered = []) : PortOk t := by
  refine ⟨?_, ?_, ?_, ?_, ?_, ?_⟩
  all_goals rw [port]
  · exact h.buffer
  · exact h.overrun
  · exact nofun
  · exact fun _ => rfl
  · exact nofun
  · exact fun some => absurd nothing some

end PortOk

theorem devStatus_portOk {s : State} (h : PortOk s) (later : List StatusOwner) : PortOk (devStatus later s) := by
  rcases devStatus_cases later s with ⟨gathers, _, e⟩ | e
  · rw [e]
    simp only [Port.gathers, Bool.and_eq_true, beq_iff_eq] at gathers
    exact ⟨h.buffer, h.overrun, h.request, h.one, h.sent, fun _ => gathers.2⟩
  · rw [e]
    exact ⟨h.buffer, h.overrun, nofun, fun _ => rfl, nofun, fun some => absurd rfl some⟩

theorem answer_portOk {s : State} (h : PortOk s) : PortOk (answer s) := by
  unfold answer
  split
  · next executing some =>
    have request : s.port.request = none := by
      have one := h.one executing
      rw [some] at one
      exact Option.not_isSome_iff_eq_none.mp (by rw [one]; simp)
    exact ⟨rfl, nofun, nofun, nofun, nofun, fun gathered => absurd (h.gathered_of_none request) gathered⟩
  · exact h

theorem takeRead_portOk {s : State} (h : PortOk s) (wave : List SerialLines) : PortOk (s.takeRead wave) := by
  unfold State.takeRead
  split
  · next answered _ =>
    have request : s.port.request = none := by
      refine Option.not_isSome_iff_eq_none.mp fun some => ?_
      have executing := h.request some
      rw [answered] at executing
      cases executing
    refine ⟨rfl, fun overrun => ?_, fun some => ?_, nofun, h.sent, h.gathers⟩
    · have executing := h.overrun overrun
      rw [answered] at executing
      cases executing
    · have some : s.port.request.isSome = true := some
      rw [request] at some
      cases some
  · exact h.of_sdo rfl

theorem takeRequest_portOk {s : State} (h : PortOk s) (bytes : List Byte) (bits : Nat) : PortOk { s with port := s.port.takeRequest bytes bits } := by
  unfold Port.takeRequest
  split
  · next executing => exact ⟨h.buffer, fun _ => executing, h.request, h.one, h.sent, h.gathers⟩
  · unfold Port.takeFrame
    split
    · exact ⟨rfl, fun _ => rfl, nofun, fun _ => rfl, nofun, fun some => absurd rfl some⟩
    · next i good =>
      obtain ⟨_, _, sent, r, request, _⟩ := goodFrameIsItsRequest bytes bits i good
      refine ⟨rfl, fun _ => rfl, fun _ => rfl, fun _ => rfl, fun j e => ?_, fun some => absurd rfl some⟩
      cases e
      exact ⟨(isRequest_iff i).mpr (by rw [request]; nofun), sent⟩

theorem takeSelection_portOk {s : State} (h : PortOk s) (wave : List SerialLines) : PortOk (s.takeSelection wave) := by
  have heard : PortOk (s.heardOnly wave) := h.of_sdo rfl
  cases bytes : clockedBytes wave with
  | nil => exact takeSelection_nothing bytes ▸ heard
  | cons code rest =>
    by_cases read : code = 0
    · subst read
      exact takeSelection_read bytes ▸ takeRead_portOk h wave
    · cases cut : cutByReset wave with
      | true => exact takeSelection_cut bytes read cut ▸ heard
      | false => exact takeSelection_request bytes read cut ▸ takeRequest_portOk heard _ _

theorem takeSelection_others (wave : List SerialLines) (s : State) : (s.takeSelection wave).panel = s.panel ∧ (s.takeSelection wave).pins = s.pins := by
  unfold State.takeSelection State.takeRead
  repeat' split
  all_goals exact ⟨rfl, rfl⟩

/-! ### Every step -/

/-- The link, the port and a held reset. -/
structure LinkAndPort (s t : State) : Prop where
  panel : PanelOk s → PanelOk t
  port  : PortOk s → PortOk t
  held  : HeldOk s → HeldOk t

theorem LinkAndPort.trans {s t u : State} (h : LinkAndPort s t) (k : LinkAndPort t u) : LinkAndPort s u :=
  ⟨k.panel ∘ h.panel, k.port ∘ h.port, k.held ∘ h.held⟩

theorem HeldOk.of_high {s : State} (high : s.pins.resetLow = false) : HeldOk s := fun low => by
  rw [high] at low
  cases low

theorem effect_linkAndPort {c : Instr} {s : State} (takes : s.takes c = true) : LinkAndPort s (effect c s) := by
  have high : (∀ sense, c ≠ .fullReset sense) → (effect c s).pins.resetLow = s.pins.resetLow → HeldOk (effect c s) := fun reset same =>
    .of_high (same.trans (State.high_of_takes takes reset))
  have selected : ∀ wave, LinkKept s (s.takeSelection wave) := fun wave => by
    obtain ⟨panel, pins⟩ := takeSelection_others wave s
    exact ⟨fun h => h.of_same panel (congrArg Pins.lbusy pins), congrArg Pins.resetLow pins⟩
  by_cases port : isPort c = true
  · cases c
    case fullReset sense => exact ⟨fun _ => .of_reset rfl, fun _ => .of_reset rfl, fun _ _ => rfl⟩
    case requestFrame wave =>
      exact ⟨(selected wave).panel, fun h => takeSelection_portOk h wave, fun _ => high nofun (selected wave).resetLow⟩
    case readFrame wave =>
      exact ⟨(selected wave).panel, fun h => takeSelection_portOk h wave, fun _ => high nofun (selected wave).resetLow⟩
    case answer =>
      have others : (answer s).panel = s.panel ∧ (answer s).pins = s.pins := by
        unfold answer
        split <;> exact ⟨rfl, rfl⟩
      exact ⟨fun h => h.of_same others.1 (congrArg Pins.lbusy others.2), answer_portOk, fun _ => high nofun (congrArg Pins.resetLow others.2)⟩
    all_goals cases port
  · have reset : ∀ sense, c ≠ .fullReset sense := by
      rintro sense rfl
      exact port rfl
    cases request : c.isRequest with
    | false =>
      have h := effect_bystands request (by simpa using port) s
      exact ⟨h.panel, fun k => k.of_same h.port, fun _ => high reset h.resetLow⟩
    | true =>
      by_cases status : ∃ later, c = .devStatus later
      · obtain ⟨later, rfl⟩ := status
        have others : (devStatus later s).panel = s.panel ∧ (devStatus later s).pins = s.pins := by
          rw [devStatus_eq]
          exact ⟨rfl, rfl⟩
        exact ⟨fun h => h.of_same others.1 (congrArg Pins.lbusy others.2), fun h => devStatus_portOk h later,
          fun _ => high reset (congrArg Pins.resetLow others.2)⟩
      · have h := effect_answers request (fun later e => status ⟨later, e⟩) s
        obtain ⟨a, answered⟩ := h.port
        refine ⟨h.panel, fun k => k.answered answered ?_, fun _ => high reset h.resetLow⟩
        by_contra some
        have own := State.own_of_takes takes request (k.request (by rw [k.gathers some]; rfl))
        rw [k.gathers some] at own
        exact status (sent_eq_devStatus (Option.some.inj own).symm)

/-- Settles O55: what every taken command keeps, and the samples of the filters. -/
theorem stepKeepsLinkAndPort : Obligations.StepKeepsLinkAndPort := fun s _ h =>
  have kept := step_keeps (P := LinkAndPort s)
    (fun _ rest k => k.trans ⟨fun h => h.of_same rfl rfl, fun h => h.of_same rfl,
      fun h low => congrArg (fun v : State => { v with pending := rest }) (h low)⟩)
    (fun _ _ k takes => k.trans (effect_linkAndPort takes))
    (fun _ _ k high => k.trans ⟨fun h => h.of_same rfl rfl, fun h => h.of_same rfl, fun _ => .of_high high⟩) h ⟨id, id, id⟩
  ⟨kept.panel, kept.port, kept.held⟩

/-! ### Taken commands -/

/-- The order on the empty queue ends with the port (log entry 3). -/
theorem State.portDue_of_due {s : State} (h : s.due = none) : s.pins.resetLow = true ∨ s.portDue = none := by
  unfold State.due at h
  split at h
  · next low => exact .inl low
  · simp only [HOrElse.hOrElse, OrElse.orElse, Option.orElse_eq_or, Option.or_eq_none_iff] at h
    obtain ⟨_, _, _, _, _, _, _, port⟩ := h
    exact .inr port

/-- A DEV_STATUS answers, or gathers some items (R205). -/
theorem devStatus_effect (later : List StatusOwner) (s : State) :
    (∃ a, (devStatus later s).port = { s.port with request := none, answer := some a, gathered := [] }) ∨
      (Instr.devStatus later ≠ .devStatus [] ∧ ∃ items, devStatus later s = { s with port := { s.port with gathered := items } }) := by
  rcases devStatus_cases later s with ⟨_, ⟨o, _, waits⟩, e⟩ | e
  · refine .inr ⟨?_, ⟨_, e⟩⟩
    rintro ⟨⟩
    simp [Port.waitsFor] at waits
  · exact .inl ⟨_, congrArg State.port e⟩

/-- Settles O3: every command answers, and a taken request once. -/
theorem takenCommands : Obligations.TakenCommands := by
  refine ⟨fun c s => ⟨_, exec_eq c s⟩, isRequest_iff, fun c d wfc wfd same request => ?_, requestOf_sent, fun c s => ⟨s.takes_iff c, fun quiet => ?_, ?_, ?_⟩,
    fun s => ⟨fun executing i way => ?_, fun executing none some => ?_, State.portDue_of_due⟩⟩
  · obtain ⟨r, e⟩ := Option.ne_none_iff_exists'.mp ((isRequest_iff c).mp request)
    have good := (judgeRequest_request wfc e).symm.trans (judgeRequest_request wfd (same ▸ e))
    exact Judgment.good.inj good
  · rw [exec_eq]
    refine congrArg _ (State.take_of_not _ ?_)
    refine Bool.not_eq_true _ ▸ fun takes => ?_
    obtain ⟨held, elsewhere⟩ := (s.takes_iff c).mp takes
    exact quiet.elim held elsewhere
  · intro request other
    refine makesSome_of_take (effect c) (exec_eq c s) (effect_answers request ?_ s).port
    rintro later rfl
    exact other rfl
  · intro status
    obtain ⟨later, rfl⟩ := sent_eq_devStatus status
    exact makesSome_of_take (devStatus later) rfl (devStatus_effect later s)
  · refine ⟨s.pins.lbusy, ?_, sent_atLevel i _⟩
    unfold State.portDue
    rw [if_pos executing, way]
  · obtain ⟨a, e⟩ := Option.ne_none_iff_exists'.mp some
    unfold State.portDue
    rw [if_pos executing, none, e]

end Sys2Proof.Machine
end

section
/-! Time (R17, R178, R203): the filter's sample, what is due on an empty queue, and the passing of a sample period. -/

namespace Sys2Proof.Machine

/-! ### The filter (R17) -/

/-- One sample, by whether it shows the other level and whether the filter accepts a change then. -/
theorem Channel.afterSample_eq (c : Channel) (level : Bool) : c.afterSample level =
    if level ≠ c.accepted ∧ c.accepts = true then c.flip else c.sampled level := by
  unfold Channel.afterSample Channel.sampled
  by_cases same : level = c.accepted
  · rw [if_pos same, if_pos same, if_neg fun h => h.1 same]
  · obtain rfl : level = !c.accepted := by
      revert same
      cases level <;> cases c.accepted <;> decide
    rw [if_neg same, if_neg same]
    unfold Channel.accepts Channel.flip
    obtain ⟨width, accepted, candidate⟩ := c
    cases candidate with
    | none =>
      have zero : (width == 0) = true ↔ width.val ≤ 0 := by rw [beq_iff_eq, Fin.ext_iff, Nat.le_zero]; rfl
      have other : (!accepted) ≠ accepted := by cases accepted <;> decide
      dsimp only
      by_cases least : width.val ≤ 0
      · rw [if_pos least, if_pos ⟨other, zero.mpr least⟩]
      · rw [if_neg least, if_neg fun k => least (zero.mp k.2)]
    | some k => simp

theorem Channel.sampled_accepted (c : Channel) (level : Bool) : (c.sampled level).accepted = c.accepted := by
  unfold Channel.sampled
  repeat' split
  all_goals rfl

theorem Channel.afterSample_accepted (c : Channel) (level : Bool) :
    (c.afterSample level).accepted ≠ c.accepted ↔ level ≠ c.accepted ∧ c.accepts = true := by
  rw [Channel.afterSample_eq]
  split
  · next accepts => exact iff_of_true (by simp [Channel.flip]) accepts
  · next quiet => exact iff_of_false (by simp [Channel.sampled_accepted]) quiet

theorem Channel.afterSample_of_quiet {c : Channel} {level : Bool} (quiet : (c.afterSample level).accepted = c.accepted) :
    c.afterSample level = c.sampled level := by
  rw [Channel.afterSample_eq, if_neg fun accepts => (c.afterSample_accepted level).mpr accepts quiet]

/-! ### What is due (log entry 3) -/

theorem State.when_eq (s : State) (t : Nat) (i : Instr) : (if t ≤ s.clock.now then [i] else []).head? = s.when t i := by
  unfold State.when State.reached
  split
  · next reached => simp [reached]
  · next ahead => simp [ahead]

/-- What is due at a pod, as a list. -/
def State.podDues (s : State) (p : Fin 4) : List Instr :=
  let at' := fun (moment : Nat) (c : Instr) => if moment ≤ s.clock.now then [c] else []
  match s.pods[p].insertion, s.pods[p].transition with
  | some t, _ => at' t (.insertion p)
  | none, some tr => at' tr.endsAt (match tr.stage with
      | .ramping => .rampingExpiry p
      | .settling => .settlingExpiry p (maskOf fun i : Fin 8 => s.pins.levels.getLsbD (8 * p.val + i.val))
      | .stopping => .stoppingExpiry p)
  | none, none => []

theorem State.podDues_head (s : State) (p : Fin 4) : (s.podDues p).head? = s.podDue p := by
  unfold State.podDues State.podDue
  dsimp only
  cases insertion : s.pods[p].insertion with
  | some t => exact s.when_eq _ _
  | none =>
    cases transition : s.pods[p].transition with
    | none => rfl
    | some tr =>
      simp only [s.when_eq]
      cases tr.stage <;> rfl

/-- What is due at a decoder, as a list. -/
def State.decoderDues (s : State) (d : Fin 6) : List Instr :=
  let at' := fun (moment : Nat) (c : Instr) => if moment ≤ s.clock.now then [c] else []
  let dec := s.decoders[d]
  match dec.timer, dec.params, dec.state, dec.staging with
  | some t, .twoWire, .syncing, _ => at' t (.twoWireIdleExpiry d dec.view[0] dec.view[1])
  | some t, .async _, .syncing, _ => at' t (.asyncIdleExpiry d dec.view[8])
  | some t, .async p, .busy, some st =>
    let n := 9 + (if p.addressBit then 1 else 0) + (if p.parity = .none then 0 else 1) + (if p.twoStops then 2 else 1)
    at' t (if st.receiver = none then .idleGapExpiry d
      else if n ≤ st.bits.length + 1 then .breakTimeout d dec.view[8]
      else if st.bits.length + 2 < n then .asyncSamplePoint d dec.view[8]
      else .characterJudged d dec.view[8])
  | _, _, _, _ => []

theorem AsyncParams.expiry_eq (p : AsyncParams) (d : Fin 6) (line : Bool) (st : Staging) : p.expiry d line st =
    if st.receiver = none then .idleGapExpiry d
    else if p.positions ≤ st.bits.length + 1 then .breakTimeout d line
    else if st.bits.length + 2 < p.positions then .asyncSamplePoint d line
    else .characterJudged d line := by
  unfold AsyncParams.expiry Staging.awaitsBreak
  cases receiver : st.receiver with
  | none => rfl
  | some rc => simp

theorem State.decoderDues_head (s : State) (d : Fin 6) : (s.decoderDues d).head? = s.decoderDue d := by
  unfold State.decoderDues State.decoderDue Decoder.expiry
  generalize s.decoders[d] = dec
  obtain ⟨params, learn, bindings, state, view, timer, staging, applied, aborted, unknown, withheld, ragged, lastAbort⟩ := dec
  cases timer with
  | none => rfl
  | some t =>
    cases params with
    | none | clocked => rfl
    | twoWire =>
      cases state with
      | syncing => exact s.when_eq _ _
      | stopped | suspended | idle | busy => rfl
    | async p =>
      cases state with
      | syncing => exact s.when_eq _ _
      | stopped | suspended | idle => rfl
      | busy =>
        cases staging with
        | none => rfl
        | some st =>
          dsimp only
          rw [AsyncParams.expiry_eq]
          exact s.when_eq _ _

/-- What is due at a meter, as a list. -/
def State.meterDues (s : State) (m : Fin 8) : List Instr :=
  let at' := fun (moment : Nat) (c : Instr) => if moment ≤ s.clock.now then [c] else []
  match s.meters[m].state with
  | .timing start => at' (start + 4294967296) (.overrange m)
  | .windowOpen openAt => at' (openAt + s.meters[m].config.window * 250) (.windowExpiry m [])
  | .off | .armed _ | .counting _ _ _ => []

theorem State.meterDues_head (s : State) (m : Fin 8) : (s.meterDues m).head? = s.meterDue m := by
  unfold State.meterDues State.meterDue
  generalize s.meters[m] = mt
  obtain ⟨config, state, record⟩ := mt
  cases state with
  | timing start => exact s.when_eq _ _
  | windowOpen openAt => exact s.when_eq _ _
  | off | armed | counting => rfl

/-- What is due at the Panel Link, as a list. -/
def State.linkDues (s : State) : List Instr :=
  let at' := fun (moment : Nat) (c : Instr) => if moment ≤ s.clock.now then [c] else []
  match s.panel.link, s.panel.burst, s.panel.wait with
  | .sending, some b, _ => at' b.endsAt (.burstEnd s.pins.lbusy)
  | .waiting, _, some t => at' t .waitExpiry
  | _, _, _ => []

theorem State.linkDues_head (s : State) : s.linkDues.head? = s.panelDue := by
  unfold State.linkDues State.panelDue
  generalize s.panel = panel
  obtain ⟨link, rate, dirty, wait, burst⟩ := panel
  cases link with
  | off | idle | lost => rfl
  | sending =>
    cases burst with
    | none => rfl
    | some b => exact s.when_eq _ _
  | waiting =>
    cases wait with
    | none => rfl
    | some t => exact s.when_eq _ _

/-- What is due at the backlight, as a list. -/
def State.backlightDues (s : State) : List Instr :=
  match s.backlight.endsAt with
  | some t => if t ≤ s.clock.now then [.backlightPhaseExpiry] else []
  | none => []

theorem State.backlightDues_head (s : State) : s.backlightDues.head? = s.backlightDue := by
  unfold State.backlightDues State.backlightDue
  cases s.backlight.endsAt with
  | none => rfl
  | some t => exact s.when_eq _ _

/-- The refresh tick, when it is due and no restart is on its way (R168, R178). -/
theorem State.tickDues_head (s : State) :
    (if (s.clock.ms - s.display.nextTick).toNat < 2147483648 ∧ ¬ (s.port.state = .executing ∧ s.port.request = some .devRestart)
      then [Instr.refreshTick s.pins.lbusy] else []).head? =
      if s.tickDue && !s.restarting then some (.refreshTick s.pins.lbusy) else none := by
  have restarting : s.restarting = true ↔ s.port.state = .executing ∧ s.port.request = some .devRestart := by
    simp [State.restarting]
  have due : s.tickDue = true ↔ (s.clock.ms - s.display.nextTick).toNat < 2147483648 := by
    simp [State.tickDue]
  have same : ((s.tickDue && !s.restarting) = true) ↔
      ((s.clock.ms - s.display.nextTick).toNat < 2147483648 ∧ ¬ (s.port.state = .executing ∧ s.port.request = some .devRestart)) := by
    rw [Bool.and_eq_true, due, Bool.not_eq_true', ← restarting, Bool.not_eq_true]
  by_cases tick : (s.tickDue && !s.restarting) = true
  · rw [if_pos (same.mp tick), if_pos tick]
    rfl
  · rw [if_neg fun k => tick (same.mpr k), if_neg tick]
    rfl

/-- The order of the blocks, as one list. -/
theorem State.due_eq (s : State) (tick : List Instr)
    (ticks : tick.head? = if s.tickDue && !s.restarting then some (.refreshTick s.pins.lbusy) else none) :
    s.due = if s.pins.resetLow then none else
      ((if s.clock.nextMsAt ≤ s.clock.now then [Instr.millisecondTick] else []) ++ tick ++ (List.finRange 4).flatMap s.podDues
        ++ (List.finRange 6).flatMap s.decoderDues ++ (List.finRange 8).flatMap s.meterDues
        ++ s.linkDues ++ s.backlightDues ++ s.portDue.toList).head? := by
  have port : s.portDue.toList.head? = s.portDue := by cases s.portDue <;> rfl
  unfold State.due
  simp only [HOrElse.hOrElse, OrElse.orElse, Option.orElse_eq_or, List.head?_append, List.head?_flatMap, s.when_eq, ticks, s.podDues_head,
    s.decoderDues_head, s.meterDues_head, s.linkDues_head, s.backlightDues_head, port, Option.or_assoc]

/-! ### A sample period -/

theorem State.shows_eq (s : State) (c : Fin 32) :
    (s.podLive (podOf c) && (s.channels[c].afterSample (s.pins.level c)).accepted != s.channels[c].accepted) =
      (s.canAccept c && s.pins.level c != s.channels[c].accepted) := by
  rw [Bool.eq_iff_iff]
  simp only [State.canAccept, Bool.and_eq_true, bne_iff_ne, Channel.afterSample_accepted]
  tauto

/-- The state after a sample period in which no filter accepts a change. -/
theorem State.sampledAt_eq (s : State) : s.sampledAt (s.clock.now + 1) = { s with
    clock := { s.clock with now := s.clock.now + 1 }
    channels := tab fun c =>
      if s.podLive (podOf c) && !(s.podLive (podOf c) && (s.channels[c].afterSample (s.pins.level c)).accepted != s.channels[c].accepted) then
        s.channels[c].afterSample (s.pins.level c)
      else s.channels[c] } := by
  have channels : (s.advance (s.clock.now + 1)).sampleOne = fun c =>
      if s.podLive (podOf c) && !(s.podLive (podOf c) && (s.channels[c].afterSample (s.pins.level c)).accepted != s.channels[c].accepted) then
        s.channels[c].afterSample (s.pins.level c)
      else s.channels[c] := funext fun c => by
    have quiet : (s.pins.level c != s.channels[c].accepted && s.channels[c].accepts) =
        ((s.channels[c].afterSample (s.pins.level c)).accepted != s.channels[c].accepted) := by
      rw [Bool.eq_iff_iff]
      simp only [Bool.and_eq_true, bne_iff_ne, Channel.afterSample_accepted]
    show (if s.podLive (podOf c) && !(s.pins.level c != s.channels[c].accepted && s.channels[c].accepts) then
      s.channels[c].sampled (s.pins.level c) else s.channels[c]) = _
    rw [quiet]
    cases live : s.podLive (podOf c) with
    | false => rfl
    | true =>
      simp only [Bool.true_and, Bool.not_eq_true', bne_eq_false_iff_eq]
      split
      · next same => rw [Channel.afterSample_of_quiet same]
      · rfl
  unfold State.sampledAt
  rw [channels, State.advance, Nat.max_eq_right (Nat.le_succ _)]

/-- Settles O2: the millisecond tick, the filter's sample, the order of what is due, and the sample period that passes when nothing is. -/
theorem timePasses : Obligations.TimePasses := by
  refine ⟨fun s => makes_of_take millisecondTick rfl, fun c level stamp s => ⟨fun live quiet => ?_, fun not => ?_⟩, fun s => ⟨?_, fun empty => ⟨?_, ?_, ?_⟩⟩⟩
  · refine makes_of_eq (filterCandidate c level stamp) rfl ?_
    have accepts : ¬ (level ≠ s.channels[c].accepted ∧ s.channels[c].accepts = true) := fun k =>
      (s.channels[c].afterSample_accepted level).mpr k quiet
    unfold filterCandidate
    rw [if_neg (by rw [live]; decide), if_neg accepts, Channel.afterSample_of_quiet quiet]
    rfl
  · have same : filterCandidate c level stamp s = s := by
      unfold filterCandidate
      split
      · rfl
      · next live =>
        have accepts := (s.channels[c].afterSample_accepted level).mp (not.resolve_left live)
        exact if_pos accepts
    rw [exec_eq]
    unfold State.take
    exact congrArg _ ((congrArg (ite _ · s) same).trans (ite_self s))
  · have dues := s.due_eq _ s.tickDues_head
    have pods : (List.finRange 4).flatMap s.podDues = s.podDues 0 ++ s.podDues 1 ++ s.podDues 2 ++ s.podDues 3 := by
      simp [show List.finRange 4 = [0, 1, 2, 3] from rfl]
    have decoders : (List.finRange 6).flatMap s.decoderDues =
        s.decoderDues 0 ++ s.decoderDues 1 ++ s.decoderDues 2 ++ s.decoderDues 3 ++ s.decoderDues 4 ++ s.decoderDues 5 := by
      simp [show List.finRange 6 = [0, 1, 2, 3, 4, 5] from rfl]
    have meters : (List.finRange 8).flatMap s.meterDues =
        s.meterDues 0 ++ s.meterDues 1 ++ s.meterDues 2 ++ s.meterDues 3 ++ s.meterDues 4 ++ s.meterDues 5 ++ s.meterDues 6 ++ s.meterDues 7 := by
      simp [show List.finRange 8 = [0, 1, 2, 3, 4, 5, 6, 7] from rfl]
    rw [pods, decoders, meters] at dues
    exact dues
  · intro c due
    unfold step
    rw [empty]
    simp only [due]
  · intro low
    unfold step
    rw [empty]
    have due : s.due = none := by
      unfold State.due
      rw [if_pos low]
    simp only [due, State.samplePeriod, low, if_true]
  · intro high due
    have runs : step s = .next s.samplePeriod := by
      unfold step
      rw [empty]
      simp only [due]
    have changing : (List.finRange 32).filter (fun c => s.podLive (podOf c) &&
        (s.channels[c].afterSample (s.pins.level c)).accepted != s.channels[c].accepted) = (s.advance (s.clock.now + 1)).changing :=
      congrArg (fun f => (List.finRange 32).filter f) (funext s.shows_eq)
    have later : (s.advance (s.clock.now + 1)).clock.now = s.clock.now + 1 := Nat.max_eq_right (Nat.le_succ _)
    rcases s.samplePeriod_cases with ⟨low, _⟩ | ⟨_, ⟨none, e⟩ | ⟨c, cs, stamp, some, moment, e⟩⟩
    · rw [high] at low
      cases low
    · refine ⟨fun _ => ?_, fun c cs accepted => ?_⟩
      · rw [runs, e, s.sampledAt_eq]
      · rw [changing, none] at accepted
        cases accepted
    · refine ⟨fun quiet => ?_, fun c' cs' accepted => ?_⟩
      · rw [changing, some] at quiet
        cases quiet
      · rw [changing, some] at accepted
        cases accepted
        rw [runs, e, moment, later, s.sampledAt_eq]
        refine congrArg Host.Outcome.next (Eq.symm ?_)
        exact State.take_of_takes (c := .acceptedEdge c cs (s.clock.now + 1) []) (acceptedEdge c cs (s.clock.now + 1) []) (State.takes_event high rfl)

end Sys2Proof.Machine
end

section
/-! The serial lines on any wave (R191, R192): the parts of a wave, and the levels of SDO over them. -/

namespace Sys2Proof.Machine

/-! ### The parts of a wave -/

/-- A wave is the lines before SEL goes active, what the port hears, and the rest. -/
theorem wave_parts (wave : List SerialLines) : ∃ rest, wave = (wave.takeWhile fun l => !l.sel) ++ heard wave ++ rest := by
  have lead := List.takeWhile_append_dropWhile (p := fun l : SerialLines => !l.sel) (l := wave)
  have selected := List.takeWhile_append_dropWhile (p := fun l : SerialLines => l.sel) (l := wave.dropWhile fun l => !l.sel)
  have hears := List.takeWhile_append_dropWhile (p := fun l : SerialLines => !l.reset) (l := selection wave)
  refine ⟨(selection wave).dropWhile (fun l => !l.reset) ++ (wave.dropWhile fun l => !l.sel).dropWhile fun l => l.sel, ?_⟩
  rw [List.append_assoc, ← List.append_assoc (heard wave)]
  unfold heard
  rw [hears, selection, selected, lead]

/-- While the port hears, SEL is active and RESET high. -/
theorem mem_heard {wave : List SerialLines} {l : SerialLines} (h : l ∈ heard wave) : l.sel = true ∧ l.reset = false := by
  have selected : l ∈ (wave.dropWhile fun l => !l.sel).takeWhile fun l => l.sel := List.takeWhile_subset _ h
  have high := List.mem_takeWhile_imp (p := fun l : SerialLines => !l.reset) h
  exact ⟨List.mem_takeWhile_imp (p := fun l : SerialLines => l.sel) selected, by simpa using high⟩

theorem takeWhile_lead {lead : List SerialLines} (h : ∀ l ∈ lead, l.sel = false) {rest : List SerialLines}
    (next : ∀ l ∈ rest.head?, l.sel = true) : ((lead ++ rest).takeWhile fun l => !l.sel) = lead := by
  rw [List.takeWhile_append_of_pos fun l m => by rw [h l m]; rfl]
  cases rest with
  | nil => exact List.append_nil lead
  | cons r rs => rw [List.takeWhile_cons_of_neg (by rw [next r rfl]; decide), List.append_nil]

theorem dropWhile_lead {lead : List SerialLines} (h : ∀ l ∈ lead, l.sel = false) {rest : List SerialLines}
    (next : ∀ l ∈ rest.head?, l.sel = true) : ((lead ++ rest).dropWhile fun l => !l.sel) = rest := by
  rw [List.dropWhile_append_of_pos fun l m => by rw [h l m]; rfl]
  cases rest with
  | nil => rfl
  | cons r rs => exact List.dropWhile_cons_of_neg (by rw [next r rfl]; decide)

/-- A non-empty list of active lines begins with one, whatever follows. -/
theorem head_active {sel : List SerialLines} (some : sel ≠ []) (h : ∀ l ∈ sel, l.sel = true) (tail : List SerialLines) :
    ∀ l ∈ (sel ++ tail).head?, l.sel = true := fun l m => by
  cases sel with
  | nil => exact absurd rfl some
  | cons first more =>
    cases m
    exact h _ List.mem_cons_self

theorem selection_parts {lead sel tail : List SerialLines} (before : ∀ l ∈ lead, l.sel = false) (during : ∀ l ∈ sel, l.sel = true)
    (after : ∀ l ∈ tail.head?, l.sel = false) (some : sel ≠ []) : selection (lead ++ sel ++ tail) = sel := by
  rw [selection, List.append_assoc, dropWhile_lead before (head_active some during tail), List.takeWhile_append_of_pos during]
  cases tail with
  | nil => exact List.append_nil sel
  | cons t ts => rw [List.takeWhile_cons_of_neg (by rw [after t rfl]; decide), List.append_nil]

/-- Of a selection the port hears the lines before the first at which RESET is low. -/
theorem heard_of_selection {wave a b : List SerialLines} (parts : selection wave = a ++ b) (high : ∀ l ∈ a, l.reset = false)
    (low : ∀ l ∈ b.head?, l.reset = true) : heard wave = a := by
  rw [heard, parts, List.takeWhile_append_of_pos fun l m => by rw [high l m]; rfl]
  cases b with
  | nil => exact List.append_nil a
  | cons r rs => rw [List.takeWhile_cons_of_neg (by rw [low r rfl]; decide), List.append_nil]

/-- Lines during which SEL is active and RESET high are heard, with what is heard after them. -/
theorem heard_begins {lead sel tail : List SerialLines} (before : ∀ l ∈ lead, l.sel = false)
    (during : ∀ l ∈ sel, l.sel = true ∧ l.reset = false) (some : sel ≠ []) : ∃ more, heard (lead ++ sel ++ tail) = sel ++ more := by
  have active : ∀ l ∈ sel, l.sel = true := fun l m => (during l m).1
  refine ⟨(tail.takeWhile fun l => l.sel).takeWhile fun l => !l.reset, ?_⟩
  rw [heard, selection, List.append_assoc, dropWhile_lead before (head_active some active tail), List.takeWhile_append_of_pos active,
    List.takeWhile_append_of_pos fun l m => by rw [(during l m).2]; rfl]

/-! ### SDO on any wave -/

theorem length_sdoLevels (bytes : List Byte) (wave : List SerialLines) : (sdoLevels bytes wave).length = wave.length := by
  obtain ⟨rest, parts⟩ := wave_parts wave
  have total := congrArg List.length parts
  simp only [List.length_append] at total
  unfold sdoLevels
  simp only [List.length_append, List.length_replicate, List.length_map, length_driven]
  omega

/-- SDO at a moment: driven where the port hears, not driven elsewhere (R191). -/
theorem sdoLevels_heard (bytes : List Byte) (wave : List SerialLines) {j : Nat} (h : j < (heard wave).length) :
    (sdoLevels bytes wave)[(wave.takeWhile fun l => !l.sel).length + j]? = ((driven bytes 0 (heard wave))[j]?).map some := by
  unfold sdoLevels
  rw [List.append_assoc, List.getElem?_append_right (by simp), List.getElem?_append_left (by simp [length_driven, h])]
  simp

theorem sdoLevels_silent (bytes : List Byte) (wave : List SerialLines) {i : Nat} {l : SerialLines} (at' : wave[i]? = some l)
    (silent : l.sel = false ∨ l.reset = true) : (sdoLevels bytes wave)[i]? = some none := by
  obtain ⟨rest, parts⟩ := wave_parts wave
  have within : i < (sdoLevels bytes wave).length := by
    rw [length_sdoLevels]
    exact (List.getElem?_eq_some_iff.mp at').1
  by_cases before : i < (wave.takeWhile fun l => !l.sel).length
  · unfold sdoLevels
    rw [List.append_assoc, List.getElem?_append_left (by simpa using before), List.getElem?_replicate, if_pos before]
  · by_cases hears : i < (wave.takeWhile fun l => !l.sel).length + (heard wave).length
    · have member : l ∈ heard wave := by
        rw [parts, List.append_assoc, List.getElem?_append_right (by omega), List.getElem?_append_left (by omega)] at at'
        exact List.mem_of_getElem? at'
      obtain ⟨active, high⟩ := mem_heard member
      rw [active, high] at silent
      exact absurd silent (by decide)
    · have outside : ((List.replicate (wave.takeWhile fun l : SerialLines => !l.sel).length none ++ (driven bytes 0 (heard wave)).map some).length) ≤ i := by
        simpa [length_driven] using hears
      unfold sdoLevels at within ⊢
      dsimp only at within ⊢
      rw [List.length_append] at within
      rw [List.getElem?_append_right outside, List.getElem?_replicate, if_pos]
      rw [List.length_replicate] at within
      omega

theorem sdoLevels_selected (bytes : List Byte) {lead sel tail : List SerialLines} (before : ∀ l ∈ lead, l.sel = false)
    (during : ∀ l ∈ sel, l.sel = true ∧ l.reset = false) {j : Nat} (h : j < sel.length) :
    (sdoLevels bytes (lead ++ sel ++ tail))[lead.length + j]? =
      some (some (sentBit bytes (((sel.zip sel.tail).take j).countP fun e => e.1.sck && !e.2.sck))) := by
  have some : sel ≠ [] := List.ne_nil_of_length_pos (by omega)
  obtain ⟨more, hears⟩ := heard_begins (tail := tail) before during some
  have first : ((lead ++ sel ++ tail).takeWhile fun l => !l.sel) = lead := by
    rw [List.append_assoc]
    exact takeWhile_lead before (head_active some (fun l m => (during l m).1) tail)
  have driven := sdoLevels_heard bytes (lead ++ sel ++ tail) (j := j) (by rw [hears, List.length_append]; omega)
  rw [first, hears, driven_get bytes 0 sel more j h, Nat.zero_add] at driven
  exact driven

/-! ### SDO while bits are clocked -/

theorem clockLines_cons (b : Bool) (bits : List Bool) : clockLines (b :: bits) = activeLines false b :: activeLines true b :: clockLines bits := rfl

/-- The lines of bit `k` of a clocked selection. -/
theorem clockLines_get (bits : List Bool) (rest : List SerialLines) {k : Nat} (h : k < bits.length) :
    ((clockLines bits ++ rest)[2 * k]?).map SerialLines.sck = some false ∧
      ((clockLines bits ++ rest)[2 * k + 1]?).map SerialLines.sck = some true := by
  induction bits generalizing k with
  | nil => cases h
  | cons b bits ih =>
    cases k with
    | zero => exact ⟨rfl, rfl⟩
    | succ k => exact ih (k := k) (Nat.lt_of_succ_lt_succ h)

/-- SDO over both lines of a clocked bit: one bit further with every bit clocked. -/
theorem driven_clockLines (bytes : List Byte) (bits : List Bool) (rest : List SerialLines) (l : SerialLines) (n : Nat) {k : Nat} (h : k < bits.length) :
    (driven bytes n (l :: (clockLines bits ++ rest)))[2 * k + 1]? = some (sentBit bytes (n + l.sck.toNat + k)) ∧
      (driven bytes n (l :: (clockLines bits ++ rest)))[2 * k + 2]? = some (sentBit bytes (n + l.sck.toNat + k)) := by
  induction bits generalizing k l n with
  | nil => cases h
  | cons b bits ih =>
    have next : (if l.sck && !false then n + 1 else n) = n + l.sck.toNat := by cases l.sck <;> rfl
    have two : driven bytes n (l :: (clockLines (b :: bits) ++ rest)) = sentBit bytes n :: sentBit bytes (n + l.sck.toNat) ::
        driven bytes (n + l.sck.toNat) (activeLines true b :: (clockLines bits ++ rest)) := by
      rw [← next]
      rfl
    rw [two]
    cases k with
    | zero =>
      refine ⟨rfl, ?_⟩
      cases clockLines bits ++ rest <;> rfl
    | succ k =>
      have later := ih (activeLines true b) (n + l.sck.toNat) (k := k) (Nat.lt_of_succ_lt_succ h)
      rw [show n + l.sck.toNat + (activeLines true b).sck.toNat + k = n + l.sck.toNat + (k + 1) by
        rw [show (activeLines true b).sck.toNat = 1 from rfl]; omega] at later
      exact later

theorem length_clockLines (bits : List Bool) : (clockLines bits).length = 2 * bits.length := by
  induction bits with
  | nil => rfl
  | cons b bits ih =>
    rw [clockLines_cons, List.length_cons, List.length_cons, List.length_cons, ih]
    omega

theorem sdoLevels_clockingBits (bytes : List Byte) (bits : List Bool) {k : Nat} (h : k < bits.length) :
    (sdoLevels bytes (clockingBits bits))[2 * k + 2]? = some (some (sentBit bytes k)) ∧
      (sdoLevels bytes (clockingBits bits))[2 * k + 3]? = some (some (sentBit bytes k)) := by
  have size : (selectedLines bits).length = 2 * bits.length + 2 := by simp [selectedLines, length_clockLines]
  have place : ∀ j, j < 2 * bits.length + 2 →
      (sdoLevels bytes (clockingBits bits))[1 + j]? = ((driven bytes 0 (selectedLines bits))[j]?).map some := fun j inside => by
    have at' := sdoLevels_heard bytes (clockingBits bits) (j := j) (by rw [heard_clockingBits, size]; exact inside)
    rw [heard_clockingBits] at at'
    exact at'
  obtain ⟨low, high⟩ := driven_clockLines bytes bits [activeLines false false] (activeLines false false) 0 h
  rw [show 0 + (activeLines false false).sck.toNat + k = k from Nat.zero_add k] at low high
  rw [show 2 * k + 2 = 1 + (2 * k + 1) by omega, show 2 * k + 3 = 1 + (2 * k + 2) by omega, place _ (by omega), place _ (by omega),
    show selectedLines bits = activeLines false false :: (clockLines bits ++ [activeLines false false]) from rfl, low, high]
  exact ⟨rfl, rfl⟩

/-! ### The command port's lines -/

/-- The check bytes that R193 tabulates. -/
theorem crc8_table : crc8 [0x01, 0x00] = 0x15 ∧ crc8 [0x02, 0x00] = 0x2A ∧ crc8 [0x03, 0x00] = 0x3F ∧ crc8 [0x00, 0x00, 0x00] = 0x00 :=
  by decide +kernel

/-- The bits of a byte, most significant first. -/
theorem byteMsb_getLsbD : ∀ b7 b6 b5 b4 b3 b2 b1 b0 : Bool, let b := byteMsb [b7, b6, b5, b4, b3, b2, b1, b0]
    (b.getLsbD 7 = b7 ∧ b.getLsbD 6 = b6 ∧ b.getLsbD 5 = b5 ∧ b.getLsbD 4 = b4) ∧
    (b.getLsbD 3 = b3 ∧ b.getLsbD 2 = b2 ∧ b.getLsbD 1 = b1 ∧ b.getLsbD 0 = b0) := by
  intro b7 b6 b5 b4 b3 b2 b1 b0
  have bit : ∀ (b : Bool) (i : Nat) (h : i < 8), (boolByte b)[i] = (decide (i = 0) && b) := fun b i _ => by
    cases b <;> simp [boolByte]
  simp [byteMsb, bit]

/-- Settles O7: the check byte, the bits and bytes clocked, and SDO over a wave. -/
theorem serialBits : Obligations.SerialBits := by
  refine ⟨⟨crc8_checked, crc8_table⟩, byteMsb_getLsbD, fun bytes extra few => ⟨?_, ?_, cutByReset_clockingBits _⟩, fun a b rest => ⟨rfl, rfl, fun low high => ?_, fun quiet => ?_⟩,
    fun lead sel tail before during after some => ⟨?_, fun a b parts high low => ?_⟩,
    fun bytes wave => ⟨length_sdoLevels bytes wave, fun i l at' silent _ => sdoLevels_silent bytes wave at' silent,
      fun lead sel tail parts before during j inside => ?_, fun bits k inside => ⟨?_, ?_, ?_, ?_⟩⟩⟩
  · rw [clockedBytes, sampledBits_clockingBits]
    exact wholeBytes_bitsOf bytes extra few
  · rw [partialBits, sampledBits_clockingBits, List.length_append, length_bitsOf]
    omega
  · rw [sampledBits, low, high]
    rfl
  · rw [sampledBits]
    rcases quiet with high | low
    · rw [high]
      rfl
    · rw [low, Bool.and_false]
      rfl
  · rw [cutByReset, selection_parts before during after some, List.any_eq_true]
  · exact heard_of_selection ((selection_parts before during after some).trans parts) high low
  · intro n
    rw [parts]
    exact (sdoLevels_selected bytes before during inside).trans (congrArg (fun bit : Bool => some (some bit)) (sentBit_eq bytes n))
  · exact (clockLines_get bits _ inside).1
  · exact (clockLines_get bits _ inside).2
  · exact (sdoLevels_clockingBits bytes bits inside).1.trans (congrArg (fun bit : Bool => some (some bit)) (sentBit_eq bytes k))
  · exact (sdoLevels_clockingBits bytes bits inside).2.trans (congrArg (fun bit : Bool => some (some bit)) (sentBit_eq bytes k))

end Sys2Proof.Machine
end

section
/-! The device reads (R202, R204, R205): the codes of responses, DEV_IDENT, and the items of DEV_STATUS. -/

namespace Sys2Proof.Machine

/-! ### DEV_IDENT (R204) -/

/-- A DEV_IDENT frame with parameters has no layout. -/
theorem judgeRequest_devIdent {params : List Byte} (some : params ≠ []) : judgeRequest 0x01 params = .bad .badParam := by
  cases params with
  | nil => exact absurd rfl some
  | cons b bs => rfl

/-! ### DEV_STATUS (R205) -/

theorem Port.gathers_iff (p : Port) : p.gathers = true ↔ p.state = .executing ∧ p.request = some (.devStatus []) := by
  unfold Port.gathers
  rw [Bool.and_eq_true, beq_iff_eq, beq_iff_eq]

theorem Port.waitsFor_eq (p : Port) (later : List StatusOwner) (o : StatusOwner) :
    p.waitsFor later o = decide (o ∈ later ∧ p.gathered.lookup o = none) := by
  rw [Bool.eq_iff_iff, decide_eq_true_eq, Port.waitsFor, Bool.and_eq_true, List.contains_iff_mem, Option.isNone_iff_eq_none]

theorem State.statusItems_watchUnit (s : State) : s.statusItems .watchUnit =
    [boolByte s.watch.freeze + 2 * boolByte s.watch.hold, s.watch.podFault.setWidth 8] ++ be32 s.watch.cause ++ s.watch.noticeBytes := by
  unfold State.statusItems
  rw [flags_pair]

theorem devStatus_of_waiting {later : List StatusOwner} {s : State} (gathers : s.port.gathers = true)
    (waiting : statusOwners.filter (s.port.waitsFor later) ≠ []) : devStatus later s = s.gather later := by
  unfold devStatus
  rw [gathers, List.any_eq_true.mpr, Bool.true_and, if_pos rfl]
  obtain ⟨o, member⟩ := List.exists_mem_of_ne_nil _ waiting
  exact ⟨o, List.mem_filter.mp member⟩

theorem devStatus_of_complete {later : List StatusOwner} {s : State}
    (complete : s.port.gathers = false ∨ statusOwners.filter (s.port.waitsFor later) = []) : devStatus later s = s.answerStatus := by
  unfold devStatus
  rw [if_neg]
  intro waits
  rw [Bool.and_eq_true, List.any_eq_true] at waits
  obtain ⟨gathers, o, owner, waits⟩ := waits
  rcases complete with alone | none
  · rw [gathers] at alone
    cases alone
  · exact List.not_mem_nil (none ▸ List.mem_filter.mpr ⟨owner, waits⟩)

/-- The owners that have given their items are those that do not wait. -/
theorem notMem_open (p : Port) (later : List StatusOwner) (o : StatusOwner) (owner : o ∈ statusOwners) :
    (!p.waitsFor later o) = decide (o ∉ statusOwners.filter (p.waitsFor later)) := by
  rw [Bool.eq_iff_iff, decide_eq_true_eq, Bool.not_eq_true', List.mem_filter]
  exact ⟨fun waits h => absurd (waits.symm.trans h.2) (by decide), fun h => Bool.not_eq_true _ ▸ fun waits => h ⟨owner, waits⟩⟩

/-- Settles O12: the codes are values of the model's tables; DEV_IDENT answers its constant; DEV_STATUS answers, or gathers, the items as the owners stand. -/
theorem deviceReads : Obligations.DeviceReads := by
  refine ⟨⟨by decide, rfl, rfl, rfl, rfl, rfl, rfl, rfl, rfl, fun _ _ _ => rfl, rfl, rfl, rfl, rfl, rfl, rfl, rfl, fun _ => rfl, fun _ => rfl⟩,
    ⟨fun s => makes_of_eq devIdent rfl rfl, fun params some => judgeRequest_devIdent some⟩,
    fun s => ⟨s.watch.noticeBytes, WatchUnit.noticeBytes_of_current, WatchUnit.noticeBytes_of_current, WatchUnit.noticeBytes_of_current,
      WatchUnit.noticeBytes_of_current, WatchUnit.noticeBytes_of_current, WatchUnit.noticeBytes_of_current,
      fun i => WatchUnit.noticeBytes_of_current, ?_⟩⟩
  intro now items owners underWay later open'
  have now_eq : now = s.statusItems := funext fun o => by
    cases o
    case watchUnit => exact s.statusItems_watchUnit.symm
    all_goals rfl
  have items_eq : items = s.givenItems := funext fun o => by
    show (s.port.gathered.lookup o).getD (now o) = _
    rw [now_eq]
    rfl
  have open_eq : open' = statusOwners.filter (s.port.waitsFor later) :=
    congrArg (fun f => statusOwners.filter f) (funext fun o => (s.port.waitsFor_eq later o).symm)
  refine ⟨fun complete => makes_of_eq (devStatus later) rfl ?_, fun gathers waiting => makes_of_eq (devStatus later) rfl ?_⟩
  · rw [devStatus_of_complete, items_eq]
    · rfl
    · rcases complete with alone | none
      · exact Or.inl (Bool.not_eq_true _ ▸ fun gathers => alone (s.port.gathers_iff.mp gathers))
      · exact Or.inr (open_eq ▸ none)
  · have given : (statusOwners.filter fun o => !s.port.waitsFor later o) = owners.filter fun o => decide (o ∉ open') :=
      List.filter_congr fun o owner => open_eq ▸ notMem_open s.port later o owner
    rw [devStatus_of_waiting (s.port.gathers_iff.mpr gathers) (open_eq ▸ waiting), items_eq, State.gather, given]

end Sys2Proof.Machine
end

section
/-! The pod requests and the pods' presence and faults (R2 to R7, R11, R13): each is a pod's move, up to reports. -/

namespace Sys2Proof.Machine

/-! ### POD_SET (R4, R5) -/

theorem podTarget?_eq_some {b : Byte} {t : PodTarget} (h : b = 1 ∧ t = .off ∨ b = 4 ∧ t = .isolated ∨ b = 5 ∧ t = .live) :
    podTarget? b = some t := by
  rcases h with ⟨rfl, rfl⟩ | ⟨rfl, rfl⟩ | ⟨rfl, rfl⟩ <;> rfl

theorem widths?_eq_some {w : Vector Byte 8} (h : ∀ i : Fin 8, (w[i]).toNat ≤ 7) :
    widths? w = some (tab fun i => Fin.ofNat 8 w[i].toNat) :=
  if_pos (List.all_eq_true.mpr fun i _ => decide_eq_true (h i))

theorem Pod.changeCode_eq (p : Pod) (t : PodTarget) (code : Byte) (now : Nat) :
    ({ p with requested := t } : Pod).changeCode code now = p.afterSet t code now := by
  obtain ⟨present, state, requested, current, loaded, supply, mark, transition, insertion⟩ := p
  unfold Pod.changeCode Pod.afterSet
  cases state <;> rfl

/-- A threshold change is what takes a pod out of LIVE in POD_SET (R5). -/
theorem Pod.afterSet_leaves (p : Pod) (t : PodTarget) (code : Byte) (now : Nat) :
    (p.state == .live && (p.afterSet t code now).state != .live) = (p.state == .live && code != p.code) := by
  unfold Pod.afterSet
  by_cases same : code = p.code
  · rw [if_pos same, same]
    cases p.state <;> simp
  · rw [if_neg same, bne_iff_ne.mpr same]
    cases state : p.state <;> rfl

/-- Settles O14: POD_SET hands the widths on and makes one pod move. -/
theorem podSetStores : Obligations.PodSetStores := by
  intro p pod requested code t w s ok named target code_ok widths widened leaves
  have handed : s.setWidths p (tab fun i => Fin.ofNat 8 w[i].toNat) = widened := by
    unfold State.setWidths
    simp only [tab_get]
    rfl
  have sets : podSet pod requested code w s = (widened.podMoves p (s.pods[p].afterSet t code s.clock.now) .settle).ok := by
    unfold podSet
    rw [index?_eq_some.mpr named, podTarget?_eq_some target, widths?_eq_some widths]
    dsimp only
    rw [if_neg (show ¬ Config.maxThreshold < code.toNat from Nat.not_lt.mpr code_ok), handed, Pod.changeCode_eq]
  refine (makes_of_eq (podSet pod requested code w) rfl sets).some ?_
  have moved := State.podMoves_upTo p (s.pods[p].afterSet t code s.clock.now) .settle widened (ok.of_same rfl rfl)
  rw [show widened.pods[p] = s.pods[p] from rfl, Pod.afterSet_leaves] at moved
  exact moved.ok

/-! ### POD_GO (R6, R7) -/

theorem Pod.go_eq (p : Pod) (now : Nat) : p.go now = p.afterGo now := by
  obtain ⟨present, state, requested, current, loaded, supply, mark, transition, insertion⟩ := p
  cases state <;> cases requested <;> rfl

theorem Pod.afterGo_faultMark (p : Pod) (now : Nat) : (p.afterGo now).faultMark = p.faultMark := by
  unfold Pod.afterGo
  split <;> rfl

/-- POD_GO takes a pod out of LIVE when LIVE is not what it is requested to be (R7). -/
theorem Pod.afterGo_leaves (p : Pod) (now : Nat) :
    (p.state == .live && (p.afterGo now).state != .live) = (p.state == .live && p.requested != .live) := by
  obtain ⟨present, state, requested, current, loaded, supply, mark, transition, insertion⟩ := p
  cases state <;> cases requested <;> rfl

theorem UpToReports.withPodDown {s t : State} (h : UpToReports s t) (p : Fin 4) (cause : DownCause) (left : Bool) :
    UpToReports (s.withPodDown p cause left) (t.withPodDown p cause left) := by
  cases left with
  | false => exact h
  | true =>
    have same : t.withPodDown p cause true = { t with
        channels := (s.withPodDown p cause true).channels
        decoders := (s.withPodDown p cause true).decoders
        meters := (s.withPodDown p cause true).meters } := by
      simp only [State.withPodDown, if_true, h.channels, h.decoders, h.meters]
    rw [same]
    exact { h with channels := rfl, decoders := rfl, meters := rfl }

/-- A pod replaced by one with the same fault mark leaves the POD_FAULT mask as it is. -/
theorem State.withPod_of_sameMark {s : State} (ok : NoticesOk s) (p : Fin 4) {new : Pod} (mark : new.faultMark = s.pods[p].faultMark) :
    s.withPod p new = { s with pods := s.pods.set p new } := by
  have mask : (maskOf fun q => if q = p then new.faultMark else s.watch.podFault.getLsbD q) = s.watch.podFault := by
    refine mask_ext fun q => ?_
    rw [maskOf_getLsbD]
    split
    · next here =>
      subst here
      rw [mark, ok.marks]
    · rfl
  unfold State.withPod
  rw [mask]

theorem State.withPodDown_pods (s : State) (p : Fin 4) (cause : DownCause) (left : Bool) (pods : Vector Pod 4) :
    ({ s with pods } : State).withPodDown p cause left = { s.withPodDown p cause left with pods } := by
  cases left <;> rfl

/-- One named pod is handled (R6). -/
theorem State.podGoOne_upTo {s t : State} (agree : UpToReports s t) (ok : NoticesOk t) (p : Fin 4) :
    UpToReports ({ s.withPodDown p .stop (s.pods[p].state == .live && s.pods[p].requested != .live) with
      pods := s.pods.set p (s.pods[p].afterGo s.clock.now) }) (t.podGoOne p) := by
  have moved := State.podMoves_upTo p (t.pods[p].afterGo t.clock.now) .stop t ok
  rw [State.withPod_of_sameMark ok p (Pod.afterGo_faultMark _ _), Pod.afterGo_leaves, State.withPodDown_pods] at moved
  unfold State.podGoOne
  rw [Pod.go_eq, ← agree.pods, ← agree.clock]
  exact UpToReports.trans ((agree.withPodDown p .stop _).withPods _) moved

theorem State.withPodDown_clock (s : State) (p : Fin 4) (cause : DownCause) (left : Bool) : (s.withPodDown p cause left).clock = s.clock := by
  cases left <;> rfl

theorem foldl_withPodDown_pods (named : List (Fin 4)) (cause : DownCause) (left : Fin 4 → Bool) (s : State) (pods : Vector Pod 4) :
    named.foldl (fun x p => x.withPodDown p cause (left p)) { s with pods } =
      { named.foldl (fun x p => x.withPodDown p cause (left p)) s with pods } := by
  induction named generalizing s with
  | nil => rfl
  | cons p named ih => rw [List.foldl_cons, List.foldl_cons, State.withPodDown_pods, ih]

/-- Named pods are handled one after another, each on its own (R6). -/
theorem podGoOnes_upTo (named : List (Fin 4)) (each : named.Nodup) (left : Fin 4 → Bool) {s t : State} (agree : UpToReports s t)
    (ok : NoticesOk t) (leaves : ∀ p ∈ named, left p = (s.pods[p].state == .live && s.pods[p].requested != .live)) :
    UpToReports ({ named.foldl (fun x p => x.withPodDown p .stop (left p)) s with
      pods := tab fun p => if p ∈ named then s.pods[p].afterGo s.clock.now else s.pods[p] }) (named.foldl State.podGoOne t) := by
  induction named generalizing s t with
  | nil =>
    have same : (tab fun p => if p ∈ ([] : List (Fin 4)) then s.pods[p].afterGo s.clock.now else s.pods[p]) = s.pods :=
      (congrArg tab (funext fun p => if_neg List.not_mem_nil)).trans (tab_self s.pods)
    rw [same]
    exact agree
  | cons p named ih =>
    obtain ⟨fresh, rest⟩ := List.nodup_cons.mp each
    have one := State.podGoOne_upTo agree ok p
    have kept : ∀ q ∈ named, (s.pods.set p (s.pods[p].afterGo s.clock.now))[q] = s.pods[q] := fun q member =>
      vset_other _ _ fun same => fresh (same ▸ member)
    have later := ih rest one (ok.podMoves p _ .stop) fun q member => by
      dsimp only
      rw [kept q member]
      exact leaves q (List.mem_cons_of_mem p member)
    rw [List.foldl_cons, List.foldl_cons, leaves p List.mem_cons_self]
    rw [foldl_withPodDown_pods] at later
    refine UpToReports.trans (UpToReports.of_eq ?_) later
    dsimp only
    rw [State.withPodDown_clock]
    congr 1
    refine vec_ext fun q => ?_
    rw [tab_get, tab_get]
    by_cases here : q = p
    · subst here
      rw [if_neg fresh, if_pos List.mem_cons_self, vset_same]
    · by_cases member : q ∈ named
      · rw [if_pos member, if_pos (List.mem_cons_of_mem p member), kept q member]
      · rw [if_neg member, if_neg (List.not_mem_cons_of_ne_of_not_mem here member), vset_other _ _ fun same => here same.symm]

theorem foldl_withPodDown_named (pods : List (Fin 4)) (named : Fin 4 → Bool) (left : Fin 4 → Bool) (s : State) :
    (pods.filter named).foldl (fun x p => x.withPodDown p .stop (left p)) s =
      pods.foldl (fun x p => x.withPodDown p .stop (named p && left p)) s := by
  rw [List.foldl_filter]
  refine congrArg (fun f => pods.foldl f s) (funext fun x => funext fun p => ?_)
  cases named p <;> rfl

/-- Settles O15: with the checks passed, POD_GO makes the move of each named pod. -/
theorem podGoStarts : Obligations.PodGoStarts := by
  intro mask s small ok checked leaves absent
  have goes : podGo mask s = ((namedPods mask).foldl State.podGoOne s).answered .ok [absentMask s mask] := by
    unfold podGo
    rw [if_neg (Nat.not_le.mpr small),
      if_neg (Bool.eq_false_iff.mp (namedPods_any_eq_false.mpr fun p named => (checked p named).1)),
      if_neg (Bool.eq_false_iff.mp (namedPods_any_eq_false.mpr fun p named => (checked p named).2))]
  refine (makes_of_eq (podGo mask) rfl goes).some ?_
  have moved := podGoOnes_upTo (namedPods mask) ((List.nodup_finRange 4).filter _)
    (fun p => s.pods[p].state == .live && s.pods[p].requested != .live) (UpToReports.refl s) ok fun _ _ => rfl
  have member : ∀ p : Fin 4, p ∈ namedPods mask ↔ mask.getLsbD p = true := fun p => by simp [namedPods]
  have downs := foldl_withPodDown_named (List.finRange 4) (fun p => mask.getLsbD p)
    (fun p => s.pods[p].state == .live && s.pods[p].requested != .live) s
  simp only [member] at moved
  rw [namedPods, downs] at moved
  simp only [← Bool.and_assoc] at moved
  exact moved.answered .ok [absent]

/-! ### Presence (R2, R3) -/

theorem State.raisePodChange_derived (s : State) (p : Fin 4) : (s.raisePodChange p).watch.Derived := State.derive_derived _

theorem insertionTimerStart_of_not {p : Fin 4} {s : State} (h : s.pods[p].state ≠ .absent ∨ s.pods[p].insertion.isSome = true) :
    insertionTimerStart p s = s := by
  refine if_neg fun starts => ?_
  obtain ⟨absent, none⟩ := starts
  rw [none] at h
  exact h.elim (fun other => other absent) fun some => absurd some (by decide)

theorem insertionTimerStop_of_running {p : Fin 4} {s : State} (running : s.pods[p].insertion.isSome = true) :
    insertionTimerStop p s = { s with pins := s.pins.setSense p false, pods := s.pods.set p { s.pods[p] with insertion := none } } :=
  if_neg fun none => by
    rw [none] at running
    cases running

theorem insertion_upTo {p : Fin 4} {s : State} (ok : NoticesOk s) {t : Nat} (running : s.pods[p].insertion = some t) :
    UpToReports (((s.advance t).withPod p { s.pods[p] with present := true, state := .off, insertion := none }).withPodChange p)
      (insertion p s) ∧ (insertion p s).watch.Derived := by
  unfold insertion
  rw [running]
  exact ⟨State.withPodChange_upTo (State.putPod_upTo p _ (s.advance t) (ok.marks p)) p, State.raisePodChange_derived _ p⟩

theorem removal_upTo {p : Fin 4} {s : State} (ok : NoticesOk s) (there : s.pods[p].state ≠ .absent) :
    UpToReports (((({ s with pins := s.pins.setSense p false } : State).withPod p s.pods[p].removed).withPodDown p .removal
      (s.pods[p].state == .live)).withPodChange p) (removal p s) ∧ (removal p s).watch.Derived := by
  have moved := State.podMoves_upTo p s.pods[p].removed .removal { s with pins := s.pins.setSense p false } (ok.of_same rfl rfl)
  rw [show s.pods[p].removed.state = .absent from rfl, show (PodState.absent != .live) = true from rfl, Bool.and_true] at moved
  unfold removal
  rw [if_neg there]
  exact ⟨State.withPodChange_upTo moved p, State.raisePodChange_derived _ p⟩

/-- A command whose meaning changes nothing answers the state as it is, taken or not. -/
theorem exec_of_unchanged {c : Instr} {s : State} (f : State → State) (h : exec c s = .next (s.take c f)) (e : f s = s) : exec c s = .next s := by
  rw [h]
  unfold State.take
  rw [e, ite_self]

/-- Settles O16: the insertion timer's events and REMOVAL, each by whether it can arise. -/
theorem podPresence : Obligations.PodPresence := by
  refine ⟨fun p s ok => ⟨fun absent none => ?_, fun not => ?_, fun running => ?_, fun t running => ?_, fun none => ⟨?_, ?_⟩⟩,
    fun p s ok => ⟨fun there => ?_, fun absent => ?_⟩⟩
  · exact makes_of_eq (insertionTimerStart p) rfl (if_pos ⟨absent, none⟩)
  · exact exec_of_unchanged (insertionTimerStart p) rfl (insertionTimerStart_of_not not)
  · exact makes_of_eq (insertionTimerStop p) rfl (insertionTimerStop_of_running running)
  · exact makesSome_of_take (insertion p) rfl (insertion_upTo ok running)
  · exact exec_of_unchanged (insertionTimerStop p) rfl (if_pos none)
  · refine exec_of_unchanged (insertion p) rfl ?_
    unfold insertion
    rw [none]
  · exact makesSome_of_take (removal p) rfl (removal_upTo ok there)
  · exact exec_of_unchanged (removal p) rfl (if_pos absent)

/-! ### Faults (R11, R140, R148) -/

theorem PodState.powered_iff (state : PodState) : state.powered = true ↔ state ≠ .off ∧ state ≠ .absent := by
  cases state <;> decide

/-- While a fault mark is set the freeze is in effect and POD_FAULT is the current notice (R140, R148). -/
theorem WatchUnit.Derived.of_podFault {u : WatchUnit} (derived : u.Derived) (fault : u.podFault ≠ 0) : u.freeze = true ∧ u.current = .podFault := by
  refine ⟨derived.freeze ▸ (u.freezeOf_iff.mpr (Or.inr (Or.inl fault))), derived.current.trans ?_⟩
  unfold WatchUnit.currentOf
  exact if_pos fault

theorem State.withPodDown_watch (s : State) (p : Fin 4) (cause : DownCause) (left : Bool) : (s.withPodDown p cause left).watch = s.watch := by
  cases left <;> rfl

/-- Settles O17: a fault is a pod's move that sets its mark. -/
theorem fault : Obligations.Fault := by
  intro p s ok faulted
  refine ⟨fun on there => ?_, fun off => exec_of_unchanged (overcurrent p) rfl (if_neg fun powered => ?_)⟩
  · have moved := State.podMoves_upTo p faulted .fault s ok
    rw [show faulted.state = .off from rfl, show (PodState.off != .live) = true from rfl, Bool.and_true] at moved
    have derived := (s.podMoves_derived p faulted .fault ok.derived).1
    have marked : (s.podMoves p faulted .fault).watch.podFault ≠ 0 := by
      rw [moved.podFault, State.withPodDown_watch]
      refine mask_ne_zero.mpr ⟨p, ?_⟩
      show (maskOf fun q => if q = p then faulted.faultMark else s.watch.podFault.getLsbD q).getLsbD p = true
      rw [maskOf_getLsbD, if_pos rfl]
    have faults : overcurrent p s = s.podMoves p faulted .fault := if_pos (s.pods[p].state.powered_iff.mpr ⟨on, there⟩)
    exact (makes_of_eq (overcurrent p) rfl faults).some ⟨moved, derived.of_podFault marked⟩
  · obtain ⟨on, there⟩ := s.pods[p].state.powered_iff.mp powered
    exact off.elim on there

end Sys2Proof.Machine
end

section
/-! The ends of a pod's stages, and the pod up (R9, R10, R58). -/

namespace Sys2Proof.Machine

/-! ### The stage in flight -/

theorem Pod.inStage_some {p : Pod} {t : Transition} {stage : Stage} (flight : p.transition = some t) (at' : t.stage = stage) :
    p.inStage stage = some t := by
  rw [Pod.inStage, flight, Option.filter_some, if_pos (beq_iff_eq.mpr at')]

theorem Pod.inStage_none {p : Pod} {stage : Stage} (other : ∀ t, p.transition = some t → t.stage ≠ stage) : p.inStage stage = none := by
  rw [Pod.inStage, Option.filter_eq_none_iff]
  exact fun t flight at' => other t flight (beq_iff_eq.mp at')

theorem Pod.ramped_eq (p : Pod) (dest : PodTarget) (now : Nat) : p.ramped dest now =
    if dest = .live then { p with
      state := .settling, loaded := p.code
      transition := some { dest := .live, stage := .settling, endsAt := now + 50000 } }
    else { p with state := .isolated, transition := none } := by
  cases dest <;> rfl

theorem Pod.stopped_eq (p : Pod) (dest : PodTarget) : p.stopped dest =
    if dest = .isolated then { p with state := .isolated, transition := none }
    else { p with state := .off, supply := false, transition := none } := by
  cases dest <;> rfl

/-! ### The pod up (R10, R58) -/

/-- A decoder after a pod up: SUSPENDED on the pod with its bound pods all LIVE, it loads its line view and enters SYNCING. -/
def State.afterPodUp (s : State) (p : Fin 4) (dec : Decoder) : Decoder :=
  if dec.usesPod p && dec.state == .suspended && s.boundPodsLive dec then
    ({ dec with view := s.loadedView dec } : Decoder).enterSyncing s.clock.now
  else dec

/-- A fold by events that agree with others while an invariant holds. -/
theorem foldl_eq_of_keeps {σ α : Type} (P : σ → Prop) {f g : σ → α → σ} (same : ∀ s a, P s → f s a = g s a)
    (keeps : ∀ s a, P s → P (f s a)) (as : List α) (s : σ) (h : P s) : as.foldl f s = as.foldl g s := by
  induction as generalizing s with
  | nil => rfl
  | cons a as ih => rw [List.foldl_cons, List.foldl_cons, ih (f s a) (keeps s a h), same s a h]

/-- What the pod up of another state would do to one decoder of this one. -/
def State.podUpAs (s : State) (p : Fin 4) (t : State) (d : Fin 6) : State :=
  if t.decoders[d].usesPod p && t.decoders[d].state == .suspended && s.boundPodsLive t.decoders[d] then
    t.putDecoder d (({ t.decoders[d] with view := s.loadedView t.decoders[d] } : Decoder).enterSyncing s.clock.now)
  else t

theorem State.podUpAs_upTo (s : State) (p : Fin 4) (t : State) (d : Fin 6) :
    UpToReports { t with decoders := t.decoders.set d (s.afterPodUp p t.decoders[d]) } (s.podUpAs p t d) := by
  unfold State.podUpAs State.afterPodUp
  split
  · exact State.putDecoder_upTo d _ t
  · rw [State.replaceDecoder_self]
    exact UpToReports.refl t

/-- What a pod up reads of the state: no decoder's pod up changes it. -/
structure SamePodUp (s t : State) : Prop where
  pods     : t.pods = s.pods
  channels : t.channels = s.channels
  clock    : t.clock = s.clock

theorem State.decoderPodUp_eq {s t : State} (same : SamePodUp s t) (p : Fin 4) (d : Fin 6) : t.decoderPodUp p d = s.podUpAs p t d := by
  have live : t.boundPodsLive = s.boundPodsLive := funext fun dec => by
    simp only [State.boundPodsLive, State.podLive, same.pods]
  have view : t.loadedView = s.loadedView := funext fun dec => by
    simp only [State.loadedView, same.channels]
  unfold State.decoderPodUp State.podUpAs State.syncDecoder
  rw [live, view, same.clock]

/-- A pod up reaches every decoder (R58). -/
theorem State.decodersPodUp_upTo (p : Fin 4) (s : State) :
    UpToReports { s with decoders := tab fun d => s.afterPodUp p s.decoders[d] } (s.decodersPodUp p) := by
  have folds : s.decodersPodUp p = (List.finRange 6).foldl (s.podUpAs p) s :=
    foldl_eq_of_keeps (SamePodUp s) (fun t d same => State.decoderPodUp_eq same p d)
      (fun t d same => ⟨(State.decoderPodUp_pods p d t).trans same.pods, (State.decoderPodUp_channels p d t).trans same.channels,
        (State.decoderPodUp_clock p d t).trans same.clock⟩) _ s ⟨rfl, rfl, rfl⟩
  have each := foldl_decoders_upTo (s.podUpAs p) (fun _ dec => s.afterPodUp p dec) (s.podUpAs_upTo p) (List.finRange 6) (List.nodup_finRange 6) s
  rw [folds]
  simpa using each

theorem State.loadLevels_upTo {s t : State} (agree : UpToReports s t) (p : Fin 4) : UpToReports (s.loadLevels p) (t.loadLevels p) := by
  have same : t.loadLevels p = { t with channels := (s.loadLevels p).channels } := by
    simp only [State.loadLevels, agree.channels, agree.pins]
  rw [same]
  exact agree.withChannels (s.loadLevels p).channels

/-- A pod enters LIVE, with its levels loaded and the decoders told (R10). -/
theorem State.podUp_upTo (p : Fin 4) (new : Pod) (s : State) (ok : NoticesOk s) :
    UpToReports { (s.withPod p new).loadLevels p with
      decoders := tab fun d => ((s.withPod p new).loadLevels p).afterPodUp p s.decoders[d] } (s.podUp p new) := by
  have put := State.loadLevels_upTo (State.putPod_upTo p new s (ok.marks p)) p
  have told := State.decodersPodUp_upTo p ((s.putPod p new).loadLevels p)
  have live : ((s.putPod p new).loadLevels p).boundPodsLive = ((s.withPod p new).loadLevels p).boundPodsLive := funext fun dec => by
    simp only [State.boundPodsLive, State.podLive, put.pods]
  have view : ((s.putPod p new).loadLevels p).loadedView = ((s.withPod p new).loadLevels p).loadedView := funext fun dec => by
    simp only [State.loadedView, put.channels]
  have after : ((s.putPod p new).loadLevels p).afterPodUp p = ((s.withPod p new).loadLevels p).afterPodUp p := funext fun dec => by
    unfold State.afterPodUp
    rw [live, view, put.clock]
  rw [after, put.decoders] at told
  exact (put.withDecoders _).trans told

theorem settlingExpiry_of_flight {p : Fin 4} {levels : BitVec 8} {s : State} {t : Transition} (flight : s.pods[p].transition = some t)
    (at' : t.stage = .settling) : settlingExpiry p levels s =
      ({ s.advance t.endsAt with pins := s.pins.setPodLevels p levels } : State).podUp p { s.pods[p] with state := .live, transition := none } := by
  unfold settlingExpiry
  rw [Pod.inStage_some flight at']
  rfl

theorem levels_setPodLevels (pins : Pins) (p : Fin 4) (levels : BitVec 8) (c : Fin 32) : (pins.setPodLevels p levels).levels.getLsbD c =
    if podOf c = p then levels.getLsbD (inputOf c) else pins.levels.getLsbD c := maskOf_getLsbD _ c

/-- Settles O18: the ends of RAMPING and STOPPING write the pod; that of SETTLING is a pod up. -/
theorem podExpiries : Obligations.PodExpiries := by
  refine ⟨fun p s ok => ⟨fun t flight ramping => ?_, fun other => ?_, fun t flight stopping => ?_, fun other => ?_⟩,
    fun p levels s ok => ⟨fun t flight settling => ?_, fun other => ?_⟩⟩
  · intro now settling isolated
    have ends : rampingExpiry p s = (s.advance t.endsAt).putPod p (if t.dest = .live then settling else isolated) := by
      unfold rampingExpiry
      rw [Pod.inStage_some flight ramping]
      dsimp only
      rw [Pod.ramped_eq]
      rfl
    exact (makes_of_eq (rampingExpiry p) rfl ends).some (State.putPod_upTo p _ (s.advance t.endsAt) (ok.marks p))
  · refine exec_of_unchanged (rampingExpiry p) rfl ?_
    unfold rampingExpiry
    rw [Pod.inStage_none other]
  · intro isolated off
    have ends : stoppingExpiry p s = (s.advance t.endsAt).putPod p (if t.dest = .isolated then isolated else off) := by
      unfold stoppingExpiry
      rw [Pod.inStage_some flight stopping]
      dsimp only
      rw [Pod.stopped_eq]
    exact (makes_of_eq (stoppingExpiry p) rfl ends).some (State.putPod_upTo p _ (s.advance t.endsAt) (ok.marks p))
  · refine exec_of_unchanged (stoppingExpiry p) rfl ?_
    unfold stoppingExpiry
    rw [Pod.inStage_none other]
  · intro live up
    refine (makes_of_eq (settlingExpiry p levels) rfl (settlingExpiry_of_flight flight settling)).some ?_
    have made := State.podUp_upTo p live { s.advance t.endsAt with pins := s.pins.setPodLevels p levels } (ok.of_same rfl rfl)
    generalize State.podUp p live _ = u at made ⊢
    have channel : ∀ c : Fin 32, u.channels[c] =
        if podOf c = p then { s.channels[c] with accepted := levels.getLsbD (inputOf c), candidate := none } else s.channels[c] := fun c => by
      have loaded := congrArg (fun v : Vector Channel 32 => v[c]) made.channels
      refine loaded.trans ((tab_get _ c).trans ?_)
      split
      · next own =>
        have level := levels_setPodLevels s.pins p levels c
        rw [if_pos own] at level
        exact congrArg (fun l => ({ s.channels[c] with accepted := l, candidate := none } : Channel)) level
      · rfl
    have level : ∀ c : Fin 32, u.pins.levels.getLsbD c = if podOf c = p then levels.getLsbD (inputOf c) else s.pins.levels.getLsbD c :=
      fun c => (congrArg (fun x : Pins => x.levels.getLsbD c) made.pins).trans (levels_setPodLevels s.pins p levels c)
    have decoder : ∀ d : Fin 6, u.decoders[d] = _ := fun d =>
      (congrArg (fun v : Vector Decoder 6 => v[d]) made.decoders).trans (tab_get _ d)
    refine ⟨channel, level, fun d => ⟨fun uses suspended bound => ?_, fun not => ?_⟩, ?_⟩
    · refine ⟨_, (decoder d).trans (if_pos ?_), fun r c once => ?_⟩
      · rw [Bool.and_eq_true, Bool.and_eq_true, beq_iff_eq]
        exact ⟨⟨uses, suspended⟩, bound⟩
      · rw [made.channels]
        exact State.loadedView_of_bound_once once
    · refine (decoder d).trans (if_neg fun all => ?_)
      rw [Bool.and_eq_true, Bool.and_eq_true, beq_iff_eq] at all
      obtain ⟨⟨uses, suspended⟩, bound⟩ := all
      rcases not with unused | other | down
      · exact absurd (unused.symm.trans uses) (by decide)
      · exact other suspended
      · exact absurd (down.symm.trans bound) (by decide)
    · rw [made.channels, made.decoders, made.pins]
      exact made
  · refine exec_of_unchanged (settlingExpiry p levels) rfl ?_
    unfold settlingExpiry
    rw [Pod.inStage_none other]

end Sys2Proof.Machine
end

section
/-! Accepted edges (R17, R18, R56, R77, R79, R90 to R92): the changes accepted, and the order in which every taker takes them. -/

namespace Sys2Proof.Machine

/-! ### The changes accepted (R17) -/

theorem Channel.accepts_iff (c : Channel) : c.accepts = true ↔ (c.afterSample (!c.accepted)).accepted = !c.accepted := by
  have change := c.afterSample_accepted (!c.accepted)
  have other : (!c.accepted) ≠ c.accepted := by cases c.accepted <;> decide
  rw [and_iff_right other] at change
  rw [← change]
  cases (c.afterSample (!c.accepted)).accepted <;> cases c.accepted <;> decide

/-- The changes of distinct channels are accepted one after another (R17). -/
theorem foldl_acceptChange (channels : List (Fin 32)) (each : channels.Nodup) (s : State) :
    channels.foldl State.acceptChange s = { s with
      channels := tab fun c => if c ∈ channels then s.channels[c].flip else s.channels[c]
      pins := { s.pins with levels := maskOf fun c => if c ∈ channels then !s.channels[c].accepted else s.pins.levels.getLsbD c } } := by
  induction channels generalizing s with
  | nil =>
    have levels : (maskOf fun c : Fin 32 => if c ∈ ([] : List (Fin 32)) then !s.channels[c].accepted else s.pins.levels.getLsbD c) = s.pins.levels :=
      mask_ext fun c => (maskOf_getLsbD _ c).trans (if_neg List.not_mem_nil)
    have channels : (tab fun c : Fin 32 => if c ∈ ([] : List (Fin 32)) then s.channels[c].flip else s.channels[c]) = s.channels :=
      (congrArg tab (funext fun c => if_neg List.not_mem_nil)).trans (tab_self s.channels)
    rw [levels, channels]
    rfl
  | cons c channels ih =>
    obtain ⟨fresh, rest⟩ := List.nodup_cons.mp each
    have kept : ∀ i : Fin 32, i ≠ c → (s.acceptChange c).channels[i] = s.channels[i] := fun i other =>
      vset_other _ _ other.symm
    have own : (s.acceptChange c).channels[c] = s.channels[c].flip := vset_same _ _ _
    have level : ∀ i : Fin 32, (s.acceptChange c).pins.levels.getLsbD i = if i = c then !s.channels[c].accepted else s.pins.levels.getLsbD i :=
      fun i => maskOf_getLsbD _ i
    have channels_eq : (tab fun i => if i ∈ channels then (s.acceptChange c).channels[i].flip else (s.acceptChange c).channels[i]) =
        tab fun i => if i ∈ c :: channels then s.channels[i].flip else s.channels[i] := congrArg tab <| funext fun i => by
      by_cases here : i = c
      · subst here
        rw [if_neg fresh, if_pos List.mem_cons_self, own]
      · simp only [kept i here, List.mem_cons, here, false_or]
    have levels_eq : (maskOf fun i => if i ∈ channels then !(s.acceptChange c).channels[i].accepted else (s.acceptChange c).pins.levels.getLsbD i) =
        maskOf fun i => if i ∈ c :: channels then !s.channels[i].accepted else s.pins.levels.getLsbD i := congrArg maskOf <| funext fun i => by
      rw [level]
      by_cases here : i = c
      · subst here
        rw [if_neg fresh, if_pos rfl, if_pos List.mem_cons_self]
      · simp only [kept i here, List.mem_cons, here, false_or, if_false]
    rw [List.foldl_cons, ih rest, channels_eq, levels_eq]
    rfl

/-! ### Delivery (R18) -/

theorem takerOrder_eq (order : List Taker) : takerOrder order =
    order ++ ([.decoder 0, .decoder 1, .decoder 2, .decoder 3, .decoder 4, .decoder 5,
      .meter 0, .meter 1, .meter 2, .meter 3, .meter 4, .meter 5, .meter 6, .meter 7] : List Taker).filter fun t => decide (t ∉ order) := by
  refine congrArg (order ++ ·) (List.filter_congr fun t _ => ?_)
  rw [Bool.eq_iff_iff, decide_eq_true_eq, Bool.not_eq_true', ← Bool.not_eq_true, List.contains_iff_mem]

/-- What a taker does with the edges of one sample. -/
theorem State.taken_eq (channels : List (Fin 32)) (stamp : Nat) : State.taken channels stamp = fun x t => match t with
    | .decoder d => x.decoderEdges channels stamp d
    | .meter m => channels.foldl (fun y c => y.meterEdge m c y.channels[c].accepted stamp) x := by
  funext x t
  cases t <;> rfl

/-! ### The edges of one sample at a decoder (R56, R79, R90 to R92) -/

/-- The edge of a role, when its channel is among those with an edge. -/
def State.edgeOf (s : State) (d : Fin 6) (channels : List (Fin 32)) (r : Role) : List (Role × Bool) :=
  match s.decoders[d].bindings.find? fun b => b.role == r with
  | some b => if b.channel ∈ channels then [(r, s.channels[b.channel].accepted)] else []
  | none => []

theorem State.roleEdges_eq (s : State) (d : Fin 6) (channels : List (Fin 32)) :
    s.roleEdges d channels = s.decoders[d].params.roles.flatMap (s.edgeOf d channels) := by
  unfold State.roleEdges
  induction s.decoders[d].params.roles with
  | nil => rfl
  | cons r rs ih =>
    rw [List.filterMap_cons, List.flatMap_cons, ← ih]
    unfold State.edgeOf Decoder.channelOf
    cases s.decoders[d].bindings.find? fun b => b.role == r with
    | none => rfl
    | some b => by_cases member : b.channel ∈ channels <;> simp [member]

/-- A role's edge passes a filter, or not, by its role. -/
theorem State.edgeOf_filter {s : State} {d : Fin 6} {channels : List (Fin 32)} {r : Role} {f : Role × Bool → Bool} {passes : Bool}
    (h : ∀ l, f (r, l) = passes) : (s.edgeOf d channels r).filter f = if passes then s.edgeOf d channels r else [] := by
  unfold State.edgeOf
  split
  · split
    · rw [List.filter_cons, h]
      rfl
    · exact (ite_self _).symm
  · exact (ite_self _).symm

theorem Role.selectIndex_selectRole (k : Fin 4) : (selectRole k).selectIndex = some k := by
  revert k
  decide

theorem flatMap_edgeOf_filter {s : State} {d : Fin 6} {channels : List (Fin 32)} {f : Role × Bool → Bool} {selects : List (Fin 4)} {passes : Bool}
    (h : ∀ k l, f (selectRole k, l) = passes) : (selects.flatMap fun k => s.edgeOf d channels (selectRole k)).filter f =
      if passes then selects.flatMap fun k => s.edgeOf d channels (selectRole k) else [] := by
  rw [List.filter_flatMap]
  cases passes with
  | true => exact congrArg (fun g => selects.flatMap g) (funext fun k => State.edgeOf_filter (h k))
  | false =>
    refine List.flatMap_eq_nil_iff.mpr fun k _ => ?_
    exact State.edgeOf_filter (h k)

/-- Among the edges of selects, what a filter takes by the level. -/
theorem flatMap_edgeOf_filter_level {s : State} {d : Fin 6} {channels : List (Fin 32)} {f g : Role × Bool → Bool} {selects : List (Fin 4)}
    (h : ∀ k l, f (selectRole k, l) = g (selectRole k, l)) : (selects.flatMap fun k => s.edgeOf d channels (selectRole k)).filter f =
      (selects.flatMap fun k => s.edgeOf d channels (selectRole k)).filter g := by
  refine List.filter_congr fun e member => ?_
  obtain ⟨k, _, member⟩ := List.mem_flatMap.mp member
  unfold State.edgeOf at member
  split at member
  · split at member
    · cases List.mem_singleton.mp member
      exact h k _
    · cases member
  · cases member

/-- The edges of a CLOCKED decoder in the order of its profile (R90 to R92). -/
theorem State.order_clocked (s : State) (d : Fin 6) (channels : List (Fin 32)) (p : ClockedParams) :
    let selects := ((List.finRange 4).filter fun k => k.val < p.selectCount).flatMap fun k => s.edgeOf d channels (selectRole k)
    let up := selects.filter fun e => e.2 == p.activeHigh
    let down := selects.filter fun e => e.2 != p.activeHigh
    p.order ((Params.clocked p).roles.flatMap (s.edgeOf d channels)) =
      if down = [] then up ++ s.edgeOf d channels .clock ++ (s.edgeOf d channels .out ++ s.edgeOf d channels .inp)
      else s.edgeOf d channels .clock ++ down ++ up ++ (s.edgeOf d channels .out ++ s.edgeOf d channels .inp) := by
  intro selects up down
  have edges : (Params.clocked p).roles.flatMap (s.edgeOf d channels) =
      s.edgeOf d channels .clock ++ (s.edgeOf d channels .out ++ (s.edgeOf d channels .inp ++ selects)) := by
    simp only [Params.roles, List.flatMap_append, List.flatMap_cons, List.flatMap_nil, List.append_nil, List.append_assoc, List.flatMap_map]
    rfl
  have byRole : ∀ {f : Role × Bool → Bool} {clock out inp select : Bool}, (∀ l, f (.clock, l) = clock) → (∀ l, f (.out, l) = out) →
      (∀ l, f (.inp, l) = inp) → (∀ k l, f (selectRole k, l) = select) →
      (s.edgeOf d channels .clock ++ (s.edgeOf d channels .out ++ (s.edgeOf d channels .inp ++ selects))).filter f =
        (if clock then s.edgeOf d channels .clock else []) ++ ((if out then s.edgeOf d channels .out else []) ++
          ((if inp then s.edgeOf d channels .inp else []) ++ (if select then selects else []))) := fun c o i k => by
    rw [List.filter_append, List.filter_append, List.filter_append, State.edgeOf_filter c, State.edgeOf_filter o, State.edgeOf_filter i,
      flatMap_edgeOf_filter k]
  have byLevel : ∀ {f g : Role × Bool → Bool}, (∀ l, f (.clock, l) = false) → (∀ l, f (.out, l) = false) →
      (∀ l, f (.inp, l) = false) → (∀ k l, f (selectRole k, l) = g (selectRole k, l)) →
      (s.edgeOf d channels .clock ++ (s.edgeOf d channels .out ++ (s.edgeOf d channels .inp ++ selects))).filter f = selects.filter g :=
    fun c o i k => by
      rw [List.filter_append, List.filter_append, List.filter_append, State.edgeOf_filter c, State.edgeOf_filter o, State.edgeOf_filter i,
        flatMap_edgeOf_filter_level k]
      rfl
  have isSelect : ∀ k, (selectRole k).selectIndex.isSome = true := fun k => by rw [Role.selectIndex_selectRole]; rfl
  have notClock : ∀ k, (selectRole k == Role.clock) = false := by decide
  have notLine : ∀ k, (selectRole k == Role.out || selectRole k == Role.inp) = false := by decide
  have goesDown := byLevel (f := p.goesInactive) (g := fun e => e.2 != p.activeHigh) (fun _ => rfl) (fun _ => rfl) (fun _ => rfl)
    fun k l => by rw [ClockedParams.goesInactive, isSelect, Bool.true_and]
  have goesUp := byLevel (f := p.goesActive) (g := fun e => e.2 == p.activeHigh) (fun _ => rfl) (fun _ => rfl) (fun _ => rfl)
    fun k l => by rw [ClockedParams.goesActive, isSelect, Bool.true_and]
  have clocks := byRole (f := fun e => e.1 == .clock) (fun _ => rfl) (fun _ => rfl) (fun _ => rfl) fun k _ => notClock k
  have lines := byRole (f := fun e => e.1 == .out || e.1 == .inp) (fun _ => rfl) (fun _ => rfl) (fun _ => rfl) fun k _ => notLine k
  unfold ClockedParams.order
  rw [edges, goesDown, goesUp, clocks, lines]
  simp only [List.isEmpty_iff, if_true, Bool.false_eq_true, if_false, List.append_nil, List.nil_append]
  rfl

/-! ### The statement -/

theorem State.roleEdge_ignored {d : Fin 6} {stamp : Nat} {r : Role} {level : Bool} {s : State}
    (h : s.decoders[d].state = .stopped ∨ s.decoders[d].state = .suspended ∨ s.decoders[d].view[r.code] = level) :
    s.roleEdge d stamp (r, level) = s := by
  unfold State.roleEdge
  rcases h with stopped | suspended | same
  · rw [stopped]
  · rw [suspended]
  · split
    · rfl
    · rfl
    all_goals exact if_pos same

/-- Settles O19: the changes accepted, their delivery, and the order of a decoder's edges by its profile. -/
theorem acceptedEdge_meaning : Obligations.AcceptedEdge := by
  refine ⟨fun channel also stamp order s each => ?_, fun cs stamp d s => ?_, fun d stamp r level s ignored => State.roleEdge_ignored ignored⟩
  · intro accepts accepted changed takers
    have accept : ∀ c : Fin 32, accepts c = (decide (c ∈ channel :: also) && s.canAccept c) := fun c => by
      have same : decide ((s.channels[c].afterSample (!s.channels[c].accepted)).accepted = !s.channels[c].accepted) = s.channels[c].accepts := by
        rw [Bool.eq_iff_iff, decide_eq_true_eq, Channel.accepts_iff]
      show (decide (c ∈ channel :: also) && s.podLive (podOf c) && decide _) = _
      rw [same, State.canAccept, Bool.and_assoc]
    have channels : (channel :: also).filter s.canAccept = accepted := List.filter_congr fun c member => by
      rw [accept, decide_eq_true member, Bool.true_and]
    have member : ∀ c : Fin 32, c ∈ accepted ↔ accepts c = true := fun c => by
      rw [List.mem_filter, accept, Bool.and_eq_true, decide_eq_true_eq]
      exact ⟨fun h => h.2, fun h => ⟨h.1, h⟩⟩
    have changes : accepted.foldl State.acceptChange (s.advance stamp) = changed := by
      rw [foldl_acceptChange accepted (each.filter _)]
      simp only [member]
      rfl
    refine ⟨fun none => exec_of_unchanged (acceptedEdge channel also stamp order) rfl ?_, fun some => makes_of_eq (acceptedEdge channel also stamp order) rfl ?_⟩
    · unfold acceptedEdge
      rw [channels, none]
      rfl
    · unfold acceptedEdge
      rw [channels]
      dsimp only
      rw [if_neg fun empty => some (List.isEmpty_iff.mp empty), changes, State.deliver, takerOrder_eq, State.taken_eq] <;> rfl
  · intro dec edge takes
    have edges := s.roleEdges_eq d cs
    refine ⟨fun none => ?_, fun twoWire => ?_, fun p async => ?_, fun p clocked => ?_⟩
    · unfold State.decoderEdges
      rw [edges, none]
      rfl
    · unfold State.decoderEdges
      rw [edges, twoWire]
      exact congrArg (takes s) (congrArg (edge .clock ++ ·) (List.append_nil (edge .data)))
    · unfold State.decoderEdges
      rw [edges, async]
      exact congrArg (takes s) (List.append_nil (edge .line))
    · intro selects up down lines
      have ordered : s.decoderEdges cs stamp d = takes s (p.order ((Params.clocked p).roles.flatMap (s.edgeOf d cs))) :=
        (show s.decoderEdges cs stamp d = takes s (dec.params.order (s.roleEdges d cs)) from rfl).trans
          (congrArg (takes s) (by rw [edges, clocked]; rfl))
      exact ⟨fun none => ordered.trans (congrArg (takes s) ((s.order_clocked d cs p).trans (if_pos none))), fun some => ordered.trans (congrArg (takes s) ((s.order_clocked d cs p).trans (if_neg some)))⟩

end Sys2Proof.Machine
end

section
/-! What an edge of a role makes of a running decoder (R59, R64, R78): the line view follows it, and the profile's writes are one decoder's, up to reports. -/

namespace Sys2Proof.Machine

/-! ### One decoder replaced -/

/-- The state with one decoder replaced. -/
def State.withDecoder (s : State) (d : Fin 6) (x : Decoder) : State := { s with decoders := s.decoders.set d x }

@[simp] theorem State.withDecoder_own (s : State) (d : Fin 6) (x : Decoder) : (s.withDecoder d x).decoders[d] = x := vset_same _ _ _

@[simp] theorem State.withDecoder_twice (s : State) (d : Fin 6) (x y : Decoder) :
    (s.withDecoder d x).withDecoder d y = s.withDecoder d y := by
  simp [State.withDecoder]

theorem State.putDecoder_withDecoder (s : State) (d : Fin 6) (x y : Decoder) :
    UpToReports (s.withDecoder d y) ((s.withDecoder d x).putDecoder d y) := by
  have put := State.putDecoder_upTo d y (s.withDecoder d x)
  rw [show ({ s.withDecoder d x with decoders := (s.withDecoder d x).decoders.set d y } : State) = (s.withDecoder d x).withDecoder d y from rfl,
    State.withDecoder_twice] at put
  exact put

/-- Another staging, timer or line view is no report. -/
theorem State.putDecoder_unreported (s : State) (d : Fin 6) (x y : Decoder) (state : y.state = x.state) (applied : y.applied = x.applied)
    (aborted : y.aborted = x.aborted) (unknown : y.unknown = x.unknown) : (s.withDecoder d x).putDecoder d y = s.withDecoder d y := by
  rw [State.putDecoder_silent d y _ ((s.withDecoder_own d x).symm ▸ state) ((s.withDecoder_own d x).symm ▸ applied)
    ((s.withDecoder_own d x).symm ▸ aborted) ((s.withDecoder_own d x).symm ▸ unknown)]
  exact s.withDecoder_twice d x y

theorem State.setStaging_withDecoder (s : State) (d : Fin 6) (x : Decoder) (st : Staging) :
    (s.withDecoder d x).setStaging d st = s.withDecoder d (x.withStaging st) := by
  unfold State.setStaging
  rw [State.withDecoder_own]
  exact s.putDecoder_unreported d x _ rfl rfl rfl rfl

theorem State.begin_withDecoder (s : State) (d : Fin 6) (x : Decoder) (st : Staging) :
    UpToReports (s.withDecoder d (x.afterEnd .busy (some st))) ((s.withDecoder d x).begin d st) := by
  unfold State.begin
  rw [State.withDecoder_own]
  exact s.putDecoder_withDecoder d x _

theorem State.discard_withDecoder (s : State) (d : Fin 6) (x : Decoder) (next : DecState) (staging : Option Staging) :
    UpToReports (s.withDecoder d (x.afterEnd next staging)) ((s.withDecoder d x).discard d next staging) := by
  unfold State.discard
  rw [State.withDecoder_own]
  exact s.putDecoder_withDecoder d x _

/-! ### The edge of a role (R59, R77) -/

/-- A decoder takes edges in SYNCING, IDLE and BUSY. -/
def DecState.running : DecState → Bool
  | .syncing | .idle | .busy => true
  | .stopped | .suspended => false

/-- An edge that changes the line view of a running decoder: the view follows it, then the profile takes it. -/
theorem State.roleEdge_eq {s : State} {d : Fin 6} {r : Role} {level : Bool} (stamp : Nat) (running : s.decoders[d].state.running = true)
    (change : s.decoders[d].view[r.code] ≠ level) : s.roleEdge d stamp (r, level) =
      match s.decoders[d].params with
      | .none => s
      | .twoWire => (s.withDecoder d (s.decoders[d].withLevel r level)).twoWireEdge d r level stamp
      | .clocked p => (s.withDecoder d (s.decoders[d].withLevel r level)).clockedEdge d p r level stamp
      | .async p => (s.withDecoder d (s.decoders[d].withLevel r level)).asyncEdge d p stamp := by
  have follows : s.putDecoder d (s.decoders[d].withLevel r level) = s.withDecoder d (s.decoders[d].withLevel r level) :=
    State.putDecoder_silent d _ s rfl rfl rfl rfl
  have change' : ¬ s.decoders[d].level r = level := change
  unfold State.roleEdge
  dsimp only
  rw [follows]
  cases state : s.decoders[d].state with
  | stopped =>
    rw [state] at running
    cases running
  | suspended =>
    rw [state] at running
    cases running
  | syncing =>
    dsimp only
    rw [if_neg change'] <;> (cases s.decoders[d].params <;> rfl)
  | idle =>
    dsimp only
    rw [if_neg change'] <;> (cases s.decoders[d].params <;> rfl)
  | busy =>
    dsimp only
    rw [if_neg change'] <;> (cases s.decoders[d].params <;> rfl)

/-! ### Aborts (R38, R64, R148) -/

theorem State.errorReport_freeze (d : Fin 6) (a : Byte) (reason : AbortReason) (s : State)
    (frozen : s.watch.freeze = true) : (s.errorReport d a reason).watch.freeze = true := by
  unfold State.errorReport
  rw [if_pos frozen]
  exact frozen

/-- A bus-originated abort: the decoder counts it, and an error report of the freeze that then stands reaches the store (R38, R64). -/
theorem State.abortTo_upTo {s : State} (derived : s.watch.Derived) {d : Fin 6} {reason : AbortReason} (bus : reason.fromBus = true)
    (f : Decoder → Decoder) {st : Staging} (staging : s.decoders[d].staging = some st) :
    ∃ frozen, FreezeWithin s (s.abortTo d reason f) frozen ∧
      UpToReports { s.withDecoder d (f (s.decoders[d].countAbort reason)) with
        store := s.store.afterError frozen d st.address (reason == .unanswered) } (s.abortTo d reason f) := by
  have put := State.putDecoder_upTo d (f (s.decoders[d].countAbort reason)) s
  have before := State.putDecoder_freeze d (f (s.decoders[d].countAbort reason)) s derived
  unfold State.abortTo State.abortReport
  rw [staging]
  dsimp only
  generalize s.putDecoder d (f (s.decoders[d].countAbort reason)) = t at put before
  cases address : st.address with
  | none => exact ⟨t.watch.freeze, ⟨before, id⟩, put⟩
  | some a =>
    rw [bus]
    refine ⟨t.watch.freeze, ⟨before, fun frozen => State.errorReport_freeze d a reason t frozen⟩, ?_⟩
    have report := State.errorReport_upTo d a reason t
    rw [put.store] at report
    exact (put.withStore _).trans report

end Sys2Proof.Machine
end

section
/-! The edges of TWO_WIRE (R78 to R87). -/

namespace Sys2Proof.Machine

/-! ### The staging -/

/-- A read byte is a value; a written byte that is taken is the pointer-set, then a value (R84, R85). -/
theorem Staging.twoWireData_read {st : Staging} (read : st.direction = some .read) (value : Byte) (ack : Bool) :
    st.twoWireData value ack = st.takeValue value := by
  unfold Staging.twoWireData
  rw [read]

theorem Staging.twoWireData_write {st : Staging} (other : st.direction ≠ some .read) (value : Byte) (ack : Bool) :
    st.twoWireData value ack = if st.taking then
      if ack then
        match st.pointerSet with
        | none => { st with pointerSet := some value }
        | some _ => st.takeValue value
      else { st with taking := false }
    else st := by
  unfold Staging.twoWireData
  split
  · next read => exact absurd read other
  · rfl
  · rfl

/-! ### The edges -/

section Edges

variable {s : State} {d : Fin 6} {x : Decoder} {r : Role} {level : Bool} (stamp : Nat)

theorem State.twoWireEdge_idle (idle : x.state = .idle) : (s.withDecoder d x).twoWireEdge d r level stamp =
    if r = .data ∧ level = false ∧ x.view[0] = true then (s.withDecoder d x).begin d Staging.fresh else s.withDecoder d x := by
  unfold State.twoWireEdge
  rw [State.withDecoder_own]
  dsimp only
  rw [idle]
  dsimp only
  refine if_congr ?_ rfl rfl
  rw [Bool.and_eq_true, Bool.and_eq_true, beq_iff_eq, Bool.not_eq_true']
  exact ⟨fun ⟨⟨role, clock⟩, low⟩ => ⟨role, low, clock⟩, fun ⟨role, low, clock⟩ => ⟨⟨role, clock⟩, low⟩⟩

theorem State.twoWireEdge_busy (busy : x.state = .busy) {st : Staging} (staging : x.staging = some st) :
    (s.withDecoder d x).twoWireEdge d r level stamp =
      if r = .data ∧ x.view[0] = true then (s.withDecoder d x).twoWireCondition d level stamp st
      else if r = .clock ∧ level = true then (s.withDecoder d x).twoWireClock d x.view[1] st
      else s.withDecoder d x := by
  unfold State.twoWireEdge
  rw [State.withDecoder_own]
  dsimp only
  rw [busy]
  dsimp only
  rw [staging]
  dsimp only
  refine if_congr ?_ rfl (if_congr ?_ rfl rfl)
  · rw [Bool.and_eq_true, beq_iff_eq]
    rfl
  · rw [Bool.and_eq_true, beq_iff_eq]

/-- The slot that a CLOCK rising edge takes (R82). -/
def Staging.nextSlot (st : Staging) : Nat := if 9 ≤ st.slot then 1 else st.slot + 1

theorem State.twoWireClock_bit {st : Staging} (bit : Bool) (early : st.nextSlot ≤ 8) :
    (s.withDecoder d x).twoWireClock d bit st = s.withDecoder d (x.withStaging (st.twoWireBit st.nextSlot bit)) :=
  (if_pos early).trans (s.setStaging_withDecoder d x _)

theorem State.twoWireClock_address {st : Staging} (bit : Bool) (late : ¬ st.nextSlot ≤ 8) (address : st.addressByte = true) :
    (s.withDecoder d x).twoWireClock d bit st =
      if bit then (s.withDecoder d x).abort d .unanswered .idle none else s.withDecoder d (x.withStaging st.byteDone) := by
  rw [← s.setStaging_withDecoder d x st.byteDone]
  exact (if_neg late).trans (if_pos address)

theorem State.twoWireClock_data {st : Staging} (bit : Bool) (late : ¬ st.nextSlot ≤ 8) (data : st.addressByte = false) :
    (s.withDecoder d x).twoWireClock d bit st = s.withDecoder d (x.withStaging (st.byteDone.twoWireData (byteMsb st.bits) (!bit))) := by
  rw [← s.setStaging_withDecoder d x]
  exact (if_neg late).trans (if_neg (by rw [data]; decide))

theorem Staging.twoWireBit_plain {st : Staging} {slot : Nat} (bit : Bool) (h : ¬ (slot = 8 ∧ st.addressByte = true)) :
    st.twoWireBit slot bit = { st with slot, bits := st.bits ++ [bit] } := if_neg h

theorem Staging.twoWireBit_last {st : Staging} {slot : Nat} (bit : Bool) (last : slot = 8) (address : st.addressByte = true) :
    st.twoWireBit slot bit = { st with
      slot, bits := st.bits ++ [bit], address := some (byteMsb (st.bits ++ [bit]) >>> 1), direction := some (if bit then .read else .write) } :=
  if_pos ⟨last, address⟩

/-- What a start or a stop condition leaves of the decoder (R81, R86). -/
def Decoder.afterCondition (x : Decoder) (stop : Bool) : Decoder :=
  if stop then x.afterEnd .idle none else x.afterEnd .busy (some Staging.fresh)

theorem Decoder.afterCondition_eq (x : Decoder) (stop : Bool) :
    x.afterEnd (if stop then .idle else .busy) (if stop then none else some Staging.fresh) = x.afterCondition stop := by
  cases stop <;> rfl

theorem State.twoWireCondition_discard {st : Staging} (stop : Bool) (boundary : st.slot ≤ 1) (unknown : st.address = none) :
    UpToReports (s.withDecoder d (x.afterCondition stop)) ((s.withDecoder d x).twoWireCondition d stop stamp st) := by
  unfold State.twoWireCondition
  dsimp only
  rw [if_pos boundary, unknown]
  have discarded := s.discard_withDecoder d x (if stop then .idle else .busy) (if stop then none else some Staging.fresh)
  rw [Decoder.afterCondition_eq] at discarded
  exact discarded

theorem State.twoWireCondition_clean {st : Staging} (stop : Bool) (boundary : st.slot ≤ 1) (known : st.address ≠ none) :
    (s.withDecoder d x).twoWireCondition d stop stamp st =
      (s.withDecoder d x).cleanEnd d stamp (x.afterCondition stop).state (x.afterCondition stop).staging := by
  obtain ⟨a, known⟩ := Option.ne_none_iff_exists'.mp known
  unfold State.twoWireCondition
  dsimp only
  rw [if_pos boundary, known]
  cases stop <;> rfl

theorem State.twoWireCondition_inside {st : Staging} (stop : Bool) (inside : 2 ≤ st.slot) :
    (s.withDecoder d x).twoWireCondition d stop stamp st = (s.withDecoder d x).abortTo d .protocol fun dec => dec.afterCondition stop := by
  unfold State.twoWireCondition State.abort
  dsimp only
  rw [if_neg (by omega)]
  exact congrArg (fun f => (s.withDecoder d x).abortTo d .protocol f) (funext fun dec => dec.afterCondition_eq stop)

end Edges

/-- An abort after an edge, as a change of the state before it. -/
theorem State.abortTo_withDecoder {s : State} (derived : s.watch.Derived) {d : Fin 6} {x : Decoder} {reason : AbortReason}
    (bus : reason.fromBus = true) (f : Decoder → Decoder) {st : Staging} (staging : x.staging = some st) :
    ∃ frozen, FreezeWithin s ((s.withDecoder d x).abortTo d reason f) frozen ∧
      UpToReports { s.withDecoder d (f (x.countAbort reason)) with
        store := s.store.afterError frozen d st.address (reason == .unanswered) } ((s.withDecoder d x).abortTo d reason f) := by
  obtain ⟨frozen, within, agree⟩ := State.abortTo_upTo (s := s.withDecoder d x) derived bus f ((s.withDecoder_own d x).symm ▸ staging)
  rw [State.withDecoder_own, State.withDecoder_twice] at agree
  exact ⟨frozen, ⟨within.before, within.after⟩, agree⟩

theorem DecState.running_of_idle {st : DecState} (h : st = .idle) : st.running = true := h ▸ rfl

theorem DecState.running_of_busy {st : DecState} (h : st = .busy) : st.running = true := h ▸ rfl

/-- Settles O20: the edges of TWO_WIRE in IDLE and in BUSY. -/
theorem twoWireEdges : Obligations.TwoWireEdges := by
  intro d stamp r level s ok dec seen after u aborted valued fresh idle clock data start stop rises params role change
  have edge : dec.state.running = true → u = (s.withDecoder d seen).twoWireEdge d r level stamp := fun running => by
    refine (State.roleEdge_eq stamp running change).trans ?_
    rw [show s.decoders[d].params = .twoWire from params]
    rfl
  refine ⟨fun state => ?_, fun st state staging => ?_⟩
  · have taken := (edge (DecState.running_of_idle state)).trans (State.twoWireEdge_idle (x := seen) stamp state)
    refine ⟨fun begins => ?_, fun other => taken.trans (if_neg other)⟩
    rw [taken, if_pos begins]
    exact s.begin_withDecoder d seen fresh
  · intro slot staged bits done next
    have taken := (edge (DecState.running_of_busy state)).trans (State.twoWireEdge_busy (x := seen) stamp state staging)
    have risen : rises → u = (s.withDecoder d seen).twoWireClock d data st := fun rise =>
      taken.trans ((if_neg fun condition => by rw [rise.1] at condition; exact absurd condition.1 (by decide)).trans (if_pos rise))
    have condition : start ∨ stop → u = (s.withDecoder d seen).twoWireCondition d level stamp st := fun either =>
      taken.trans (if_pos (either.elim (fun h => ⟨h.1, h.2.2⟩) fun h => ⟨h.1, h.2.2⟩))
    refine ⟨fun noRise noStart noStop => ?_, fun rise early => ?_, fun rise eight address => ?_, fun rise nine address refused => ?_,
      fun rise nine address acknowledged => ?_, fun rise nine notAddress => ?_, fun either boundary unknown => ?_, fun either boundary known => ?_,
      fun either inside => ?_⟩
    · refine taken.trans ((if_neg fun condition => ?_).trans (if_neg noRise))
      cases level with
      | false => exact noStart ⟨condition.1, rfl, condition.2⟩
      | true => exact noStop ⟨condition.1, rfl, condition.2⟩
    · have before : st.nextSlot ≤ 8 := early.elim Nat.le_of_lt fun h => Nat.le_of_eq h.1
      refine (risen rise).trans ((State.twoWireClock_bit data before).trans ?_)
      rw [Staging.twoWireBit_plain (slot := st.nextSlot) data fun last => early.elim (fun h => absurd last.1 (Nat.ne_of_lt h)) fun h => absurd (h.2.symm.trans last.2) (by decide)]
      rfl
    · refine (risen rise).trans ((State.twoWireClock_bit data (Nat.le_of_eq eight)).trans ?_)
      rw [Staging.twoWireBit_last (slot := st.nextSlot) data eight address]
      rfl
    · have late : ¬ st.nextSlot ≤ 8 := fun h => absurd (nine ▸ h : 9 ≤ 8) (by decide)
      have ends : u = (s.withDecoder d seen).abortTo d .unanswered fun dec => dec.afterEnd .idle none :=
        (risen rise).trans ((State.twoWireClock_address data late address).trans (if_pos refused))
      show ∃ frozen, FreezeWithin s u frozen ∧ _
      rw [ends]
      exact State.abortTo_withDecoder ok.derived rfl _ staging
    · have late : ¬ st.nextSlot ≤ 8 := fun h => absurd (nine ▸ h : 9 ≤ 8) (by decide)
      exact (risen rise).trans ((State.twoWireClock_address data late address).trans (if_neg (by rw [acknowledged]; decide)))
    · intro value
      have late : ¬ st.nextSlot ≤ 8 := fun h => absurd (nine ▸ h : 9 ≤ 8) (by decide)
      have byte := (risen rise).trans (State.twoWireClock_data data late notAddress)
      refine ⟨fun read => byte.trans ?_, fun other noMore => byte.trans ?_, fun other more refused => byte.trans ?_,
        fun other more acknowledged => ⟨fun first => byte.trans ?_, fun later => byte.trans ?_⟩⟩
      · rw [Staging.twoWireData_read (st := st.byteDone) read]
        rfl
      · rw [Staging.twoWireData_write (st := st.byteDone) other, if_neg (show ¬ st.byteDone.taking = true from noMore ▸ by decide)]
        rfl
      · rw [Staging.twoWireData_write (st := st.byteDone) other, if_pos (show st.byteDone.taking = true from more), refused]
        rfl
      · rw [Staging.twoWireData_write (st := st.byteDone) other, if_pos (show st.byteDone.taking = true from more), acknowledged, if_pos (show (!false) = true from rfl),
          show st.byteDone.pointerSet = none from first]
        rfl
      · obtain ⟨ptr, later⟩ := Option.ne_none_iff_exists'.mp later
        rw [Staging.twoWireData_write (st := st.byteDone) other, if_pos (show st.byteDone.taking = true from more), acknowledged, if_pos (show (!false) = true from rfl),
          show st.byteDone.pointerSet = some ptr from later]
        rfl
    · have next_eq : seen.afterCondition level = next := by cases level <;> rfl
      rw [condition either]
      exact next_eq ▸ State.twoWireCondition_discard stamp level boundary unknown
    · have next_eq : seen.afterCondition level = next := by cases level <;> rfl
      exact (condition either).trans (next_eq ▸ State.twoWireCondition_clean stamp level boundary known)
    · have ends := (condition either).trans (State.twoWireCondition_inside stamp level inside)
      have next_eq : (seen.countAbort .protocol).afterCondition level =
          { next with aborted := satInc dec.aborted, lastAbort := .protocol } := by cases level <;> rfl
      show ∃ frozen, FreezeWithin s u frozen ∧ _
      rw [ends]
      have aborts := State.abortTo_withDecoder ok.derived (d := d) (reason := .protocol) rfl (fun dec => dec.afterCondition level) (x := seen) staging
      rw [next_eq] at aborts
      exact aborts

end Sys2Proof.Machine
end

section
/-! The edges of CLOCKED (R90 to R94). -/

namespace Sys2Proof.Machine

/-! ### Roles and samples -/

theorem Role.selectIndex_eq_none {r : Role} (h : ∀ k : Fin 4, r ≠ selectRole k) : r.selectIndex = none := by
  cases r
  case select0 => exact absurd rfl (h 0)
  case select1 => exact absurd rfl (h 1)
  case select2 => exact absurd rfl (h 2)
  case select3 => exact absurd rfl (h 3)
  all_goals rfl

theorem ClockedParams.samples_iff (p : ClockedParams) (level : Bool) :
    p.samples level = true ↔ (level ≠ p.idleHigh ↔ p.sampleSecond = false) := by
  unfold ClockedParams.samples
  cases level <;> cases p.idleHigh <;> cases p.sampleSecond <;> decide

theorem ClockedParams.assemble_eq (p : ClockedParams) (bits : List Bool) :
    p.assemble bits = byteMsb (if p.lsbFirst then bits.reverse else bits) := by
  unfold ClockedParams.assemble byteLsb
  split <;> rfl

theorem ClockedParams.direction_eq (p : ClockedParams) (command : Byte) :
    p.direction command = if command.getLsbD 7 = p.readZero then .write else .read := by
  unfold ClockedParams.direction
  by_cases same : command.getLsbD 7 = p.readZero
  · rw [if_neg (by rw [same]; simp), if_pos same]
  · rw [if_pos (bne_iff_ne.mpr same), if_neg same]

/-! ### The staging -/

theorem Staging.clockedBit_partial {st : Staging} (p : ClockedParams) {out : Bool} (inp : Bool) (few : (st.bits ++ [out]).length < 8) :
    st.clockedBit p out inp = { st with bits := st.bits ++ [out], inBits := st.inBits ++ [inp] } := if_pos few

theorem Staging.clockedBit_byte {st : Staging} (p : ClockedParams) {out : Bool} (inp : Bool) (full : 8 ≤ (st.bits ++ [out]).length) :
    st.clockedBit p out inp = ({ st with bits := [], inBits := [] } : Staging).clockedByte p (p.assemble (st.bits ++ [out])) (p.assemble (st.inBits ++ [inp])) :=
  if_neg (Nat.not_lt.mpr full)

theorem Staging.clockedByte_write {st : Staging} (write : st.direction = some .write) (p : ClockedParams) (o i : Byte) :
    st.clockedByte p o i = st.takeValue o := by
  unfold Staging.clockedByte
  rw [write]

theorem Staging.clockedByte_read {st : Staging} (read : st.direction = some .read) (p : ClockedParams) (o i : Byte) :
    st.clockedByte p o i = st.takeValue i := by
  unfold Staging.clockedByte
  rw [read]

/-! ### The edges -/

theorem Decoder.enterSyncing_countAbort (x : Decoder) (reason : AbortReason) (stamp : Nat) :
    (x.countAbort reason).enterSyncing stamp = { x.enterSyncing stamp with aborted := satInc x.aborted, lastAbort := reason } := by
  obtain ⟨params, learn, bindings, state, view, timer, staging, applied, aborted, unknown, withheld, ragged, lastAbort⟩ := x
  unfold Decoder.enterSyncing Decoder.countAbort
  cases params with
  | none => rfl
  | twoWire =>
    dsimp only
    rw [show ∀ a l, Decoder.bothHigh ⟨.twoWire, learn, bindings, state, view, timer, staging, applied, a, unknown, withheld, ragged, l⟩ =
      Decoder.bothHigh ⟨.twoWire, learn, bindings, state, view, timer, staging, applied, aborted, unknown, withheld, ragged, lastAbort⟩ from fun _ _ => rfl]
    split <;> rfl
  | clocked p =>
    dsimp only
    rw [show ∀ a l, Decoder.selectsInactive ⟨.clocked p, learn, bindings, state, view, timer, staging, applied, a, unknown, withheld, ragged, l⟩ p =
      Decoder.selectsInactive ⟨.clocked p, learn, bindings, state, view, timer, staging, applied, aborted, unknown, withheld, ragged, lastAbort⟩ p from fun _ _ => rfl]
    split <;> rfl
  | async p =>
    dsimp only
    rw [show ∀ a l, Decoder.logical ⟨.async p, learn, bindings, state, view, timer, staging, applied, a, unknown, withheld, ragged, l⟩ p =
      Decoder.logical ⟨.async p, learn, bindings, state, view, timer, staging, applied, aborted, unknown, withheld, ragged, lastAbort⟩ p from fun _ _ => rfl]
    split <;> rfl

section Edges

variable {s : State} {d : Fin 6} {x : Decoder} {p : ClockedParams} {r : Role} {level : Bool} (stamp : Nat)

theorem State.clockedEdge_select_idle {k : Fin 4} (role : r = selectRole k) (idle : x.state = .idle) :
    (s.withDecoder d x).clockedEdge d p r level stamp =
      if level = p.activeHigh then (s.withDecoder d x).begin d { Staging.fresh with address := some (byte k) } else s.withDecoder d x := by
  unfold State.clockedEdge
  rw [role, Role.selectIndex_selectRole, State.withDecoder_own]
  dsimp only
  rw [idle]
  exact if_congr beq_iff_eq rfl rfl

theorem State.clockedEdge_select_busy {k : Fin 4} (role : r = selectRole k) (busy : x.state = .busy) {st : Staging} (staging : x.staging = some st) :
    (s.withDecoder d x).clockedEdge d p r level stamp = (s.withDecoder d x).selectInBusy d k (level == p.activeHigh) stamp st := by
  unfold State.clockedEdge
  rw [role, Role.selectIndex_selectRole, State.withDecoder_own]
  dsimp only
  rw [busy, staging]

theorem State.clockedEdge_line_idle (role : ∀ k : Fin 4, r ≠ selectRole k) (idle : x.state = .idle) :
    (s.withDecoder d x).clockedEdge d p r level stamp = s.withDecoder d x := by
  unfold State.clockedEdge
  rw [Role.selectIndex_eq_none role, State.withDecoder_own]
  dsimp only
  rw [idle]

theorem State.clockedEdge_line_busy (role : ∀ k : Fin 4, r ≠ selectRole k) (busy : x.state = .busy) {st : Staging} (staging : x.staging = some st) :
    (s.withDecoder d x).clockedEdge d p r level stamp =
      if r = .clock ∧ p.samples level = true then s.withDecoder d (x.withStaging (st.clockedBit p x.view[2] x.view[3]))
      else s.withDecoder d x := by
  unfold State.clockedEdge
  rw [Role.selectIndex_eq_none role, State.withDecoder_own]
  dsimp only
  rw [busy, staging]
  dsimp only
  rw [State.setStaging_withDecoder]
  refine if_congr ?_ rfl rfl
  rw [Bool.and_eq_true, beq_iff_eq]

/-- The ragged count at the end of a frame (R94). -/
theorem State.frameEnd_withDecoder (st : Staging) : (s.withDecoder d x).frameEnd d stamp st =
    match st.direction with
    | some _ => (s.withDecoder d { x with ragged := if st.bits = [] then x.ragged else satInc x.ragged }).cleanEnd d stamp .idle none
    | none => (s.withDecoder d { x with ragged := if st.bits = [] then x.ragged else satInc x.ragged }).discard d .idle none := by
  have counted : (if st.bits.isEmpty = true then s.withDecoder d x
      else (s.withDecoder d x).putDecoder d { (s.withDecoder d x).decoders[d] with ragged := satInc (s.withDecoder d x).decoders[d].ragged }) =
      s.withDecoder d { x with ragged := if st.bits = [] then x.ragged else satInc x.ragged } := by
    rw [State.withDecoder_own]
    by_cases empty : st.bits = []
    · rw [if_pos (List.isEmpty_iff.mpr empty), if_pos empty]
    · rw [if_neg (fun h => empty (List.isEmpty_iff.mp h)), if_neg empty]
      exact s.putDecoder_unreported d x _ rfl rfl rfl rfl
  unfold State.frameEnd
  dsimp only
  rw [counted] <;> (cases st.direction <;> rfl)

end Edges

/-- Settles O21: the edges of CLOCKED in IDLE and in BUSY. -/
theorem clockedEdges : Obligations.ClockedEdges := by
  intro d stamp r level s p ok dec seen after u aborted valued fresh idle active samples params change
  have edge : dec.state.running = true → u = (s.withDecoder d seen).clockedEdge d p r level stamp := fun running => by
    refine (State.roleEdge_eq stamp running change).trans ?_
    rw [show s.decoders[d].params = .clocked p from params]
    rfl
  have notSelect : r = .clock → ∀ k : Fin 4, r ≠ selectRole k := fun role k => by
    rw [role]
    revert k
    decide
  refine ⟨fun state => ⟨fun k role isActive => ?_, fun quiet => ?_⟩, fun st state staging => ?_⟩
  · rw [(edge (DecState.running_of_idle state)).trans ((State.clockedEdge_select_idle (x := seen) stamp role state).trans (if_pos isActive))]
    exact s.begin_withDecoder d seen _
  · refine (edge (DecState.running_of_idle state)).trans ?_
    by_cases select : ∃ k : Fin 4, r = selectRole k
    · obtain ⟨k, role⟩ := select
      exact (State.clockedEdge_select_idle (x := seen) stamp role state).trans (if_neg (quiet.resolve_left fun none => none k role))
    · exact State.clockedEdge_line_idle (x := seen) stamp (not_exists.mp select) state
  · intro staged bits inBits value done ragged
    have busy := edge (DecState.running_of_busy state)
    have line : (∀ k : Fin 4, r ≠ selectRole k) → u = _ := fun role =>
      busy.trans (State.clockedEdge_line_busy (x := seen) stamp role state staging)
    have sampled : samples → u = staged (st.clockedBit p seen.view[2] seen.view[3]) := fun ⟨role, sample⟩ =>
      (line (notSelect role)).trans (if_pos ⟨role, (p.samples_iff level).mpr sample⟩)
    have select : ∀ k : Fin 4, r = selectRole k → u = (s.withDecoder d seen).selectInBusy d k (level == p.activeHigh) stamp st := fun k role =>
      busy.trans (State.clockedEdge_select_busy (x := seen) stamp role state staging)
    refine ⟨fun sample few => (sampled sample).trans (congrArg staged (Staging.clockedBit_partial p _ few)), fun sample full => ?_,
      fun role other => (line role).trans (if_neg fun both => other ⟨both.1, (p.samples_iff level).mp both.2⟩), fun k role => ?_⟩
    · have byte := (sampled sample).trans (congrArg staged (Staging.clockedBit_byte p seen.view[3] full))
      rw [ClockedParams.assemble_eq, ClockedParams.assemble_eq] at byte
      refine ⟨fun command => byte.trans (congrArg staged ?_), fun write => byte.trans (congrArg staged ?_), fun read => byte.trans (congrArg staged ?_)⟩
      · unfold Staging.clockedByte
        dsimp only
        rw [command, ClockedParams.direction_eq]
      · exact Staging.clockedByte_write (st := done) write p _ _
      · exact Staging.clockedByte_read (st := done) read p _ _
    · have inBusy : u = if st.address = some (byte k) then (if (level == p.activeHigh) = true then s.withDecoder d seen else (s.withDecoder d seen).frameEnd d stamp st)
          else if (level == p.activeHigh) = true then (s.withDecoder d seen).abortToSyncing d .protocol stamp else s.withDecoder d seen := select k role
      have yes : active → (level == p.activeHigh) = true := beq_iff_eq.mpr
      have no : ¬ active → ¬ (level == p.activeHigh) = true := fun h k => h (beq_iff_eq.mp k)
      refine ⟨fun own isActive => inBusy.trans ((if_pos own).trans (if_pos (yes isActive))), fun own ends directed => ?_, fun own ends undirected => ?_,
        fun other isActive => ?_, fun other ends => inBusy.trans ((if_neg other).trans (if_neg (no ends)))⟩
      · obtain ⟨dir, directed⟩ := Option.ne_none_iff_exists'.mp directed
        refine inBusy.trans ((if_pos own).trans ((if_neg (no ends)).trans ((State.frameEnd_withDecoder (x := seen) stamp st).trans ?_)))
        rw [directed]
        rfl
      · rw [inBusy, if_pos own, if_neg (no ends), State.frameEnd_withDecoder, undirected]
        exact s.discard_withDecoder d { seen with ragged } .idle none
      · have ends := inBusy.trans ((if_neg other).trans (if_pos (yes isActive)))
        show ∃ frozen, FreezeWithin s u frozen ∧ _
        rw [ends]
        have aborts := State.abortTo_withDecoder ok.derived (d := d) (reason := .protocol) rfl (fun dec => dec.enterSyncing stamp) (x := seen) staging
        rw [Decoder.enterSyncing_countAbort] at aborts
        exact aborts

end Sys2Proof.Machine
end

section
/-! The edges of ASYNC (R98, R99, R102). -/

namespace Sys2Proof.Machine

/-! ### Characters -/

theorem AsyncParams.positions_eq (p : AsyncParams) : p.positions =
    9 + (if p.addressBit then 1 else 0) + (if p.parity = .none then 0 else 1) + (if p.twoStops then 2 else 1) := rfl

theorem AsyncParams.samplePoint_first (p : AsyncParams) (start : Nat) : p.samplePoint start 1 = start + 3 * p.bitTime / 2 := rfl

theorem Staging.awaitsBreak_iff (st : Staging) (p : AsyncParams) : st.awaitsBreak p = true ↔ p.positions ≤ st.bits.length + 1 :=
  decide_eq_true_iff

/-! ### The edges -/

section Edges

variable {s : State} {d : Fin 6} {x : Decoder} {p : AsyncParams} (stamp : Nat)

/-- What a start edge in IDLE makes of the decoder (R98). -/
def Decoder.asyncStarted (x : Decoder) (p : AsyncParams) (stamp : Nat) : Decoder :=
  { x.afterEnd .busy (some (p.startStaging stamp)) with timer := some (p.samplePoint stamp 1) }

theorem State.asyncStart_upTo (t : State) (d : Fin 6) (p : AsyncParams) (stamp : Nat) :
    UpToReports (t.withDecoder d (t.decoders[d].asyncStarted p stamp)) (t.asyncStart d p stamp) := State.putDecoder_upTo d _ t

theorem State.asyncEdge_idle (idle : x.state = .idle) : (s.withDecoder d x).asyncEdge d p stamp =
    if x.logical p = true then s.withDecoder d x else (s.withDecoder d x).asyncStart d p stamp := by
  unfold State.asyncEdge
  rw [State.withDecoder_own]
  dsimp only
  rw [idle]

theorem State.asyncEdge_receiving (busy : x.state = .busy) {st : Staging} (staging : x.staging = some st) {rc : Receiver}
    (receiver : st.receiver = some rc) : (s.withDecoder d x).asyncEdge d p stamp =
      if p.positions ≤ st.bits.length + 1 ∧ x.logical p = true then (s.withDecoder d x).judge d p rc.start st
      else s.withDecoder d (x.withStaging { st with receiver := some { rc with edgeSeen := true } }) := by
  unfold State.asyncEdge
  rw [State.withDecoder_own]
  dsimp only
  rw [busy, staging]
  dsimp only
  rw [receiver]
  dsimp only
  unfold State.asyncReceiving
  rw [State.setStaging_withDecoder]
  refine if_congr ?_ rfl rfl
  rw [Bool.and_eq_true, Staging.awaitsBreak_iff]

theorem State.asyncEdge_waiting (busy : x.state = .busy) {st : Staging} (staging : x.staging = some st)
    (receiver : st.receiver = none) : (s.withDecoder d x).asyncEdge d p stamp =
      if x.logical p = true then s.withDecoder d x else (s.withDecoder d x).asyncNextCharacter d p stamp st := by
  unfold State.asyncEdge
  rw [State.withDecoder_own]
  dsimp only
  rw [busy, staging]
  dsimp only
  rw [receiver]

/-- A start edge before the end of the idle gap begins the next character (R102). -/
theorem State.asyncNextCharacter_inGap {st : Staging} (inGap : ∀ t, x.timer = some t → stamp < t) :
    (s.withDecoder d x).asyncNextCharacter d p stamp st = s.withDecoder d { x with
      staging := some { st with receiver := some { start := stamp, edgeSeen := false } }
      timer := some (p.samplePoint stamp 1) } := by
  have begins : (s.withDecoder d x).putDecoder d { x.withStaging { st with receiver := some { start := stamp, edgeSeen := false } } with
      timer := some (p.samplePoint stamp 1) } = s.withDecoder d { x with
        staging := some { st with receiver := some { start := stamp, edgeSeen := false } }
        timer := some (p.samplePoint stamp 1) } := s.putDecoder_unreported d x _ rfl rfl rfl rfl
  unfold State.asyncNextCharacter
  rw [State.withDecoder_own]
  cases timer : x.timer with
  | none => exact begins
  | some t => exact (if_neg (Nat.not_le.mpr (inGap t timer))).trans begins

theorem State.asyncNextCharacter_afterGap {st : Staging} {t : Nat} (timer : x.timer = some t) (after : t ≤ stamp) :
    (s.withDecoder d x).asyncNextCharacter d p stamp st = ((s.withDecoder d x).cleanEnd d t .idle none).asyncStart d p stamp := by
  unfold State.asyncNextCharacter
  rw [State.withDecoder_own, timer]
  exact if_pos after

end Edges

/-- A clean end leaves the decoder as its end gives it. -/
theorem State.cleanEnd_own (d : Fin 6) (stamp : Nat) (next : DecState) (staging : Option Staging) (s : State) :
    ∃ dec : Decoder, (s.cleanEnd d stamp next staging).decoders[d] = dec.afterEnd next staging := by
  obtain ⟨dec, decoders, _⟩ := State.cleanEnd_decoders d stamp next staging s
  exact ⟨dec, by rw [decoders, vset_same]⟩

/-- Settles O22: the edges of LINE in IDLE and in BUSY. -/
theorem asyncEdges : Obligations.AsyncEdges := by
  intro d stamp level s p ok r dec seen after u fresh high n receiver first timer params change
  have edge : dec.state.running = true → u = (s.withDecoder d seen).asyncEdge d p stamp := fun running => by
    refine (State.roleEdge_eq stamp running change).trans ?_
    rw [show s.decoders[d].params = .async p from params]
    rfl
  have logical : seen.logical p = high := by
    show (seen.view[Role.line.code] != p.inverted) = (level != p.inverted)
    rw [show seen.view[Role.line.code] = level from vset_same _ _ _]
  refine ⟨fun state => ⟨fun low => ?_, fun isHigh => ?_⟩, fun st state staging => ⟨fun rc receiving => ⟨fun waits isHigh => ?_, fun not => ?_⟩,
    fun waiting => ⟨fun isHigh => ?_, fun low inGap => ?_, fun low t timed past => ?_⟩⟩⟩
  · rw [(edge (DecState.running_of_idle state)).trans ((State.asyncEdge_idle (x := seen) stamp state).trans (if_neg (by rw [logical, low]; decide)))]
    have begins := State.asyncStart_upTo (s.withDecoder d seen) d p stamp
    rw [State.withDecoder_own, State.withDecoder_twice] at begins
    exact begins
  · exact (edge (DecState.running_of_idle state)).trans ((State.asyncEdge_idle (x := seen) stamp state).trans (if_pos (logical.trans isHigh)))
  · exact (edge (DecState.running_of_busy state)).trans ((State.asyncEdge_receiving (x := seen) stamp state staging receiving).trans
      (if_pos ⟨waits, logical.trans isHigh⟩))
  · refine (edge (DecState.running_of_busy state)).trans ((State.asyncEdge_receiving (x := seen) stamp state staging receiving).trans
      (if_neg fun both => ?_))
    exact not.elim (Nat.not_lt.mpr both.1) fun low => absurd (low.symm.trans (logical.symm.trans both.2)) (by decide)
  · exact (edge (DecState.running_of_busy state)).trans ((State.asyncEdge_waiting (x := seen) stamp state staging waiting).trans
      (if_pos (logical.trans isHigh)))
  · exact (edge (DecState.running_of_busy state)).trans ((State.asyncEdge_waiting (x := seen) stamp state staging waiting).trans
      ((if_neg (by rw [logical, low]; decide)).trans (State.asyncNextCharacter_inGap (x := seen) stamp inGap)))
  · intro ended
    rw [(edge (DecState.running_of_busy state)).trans ((State.asyncEdge_waiting (x := seen) stamp state staging waiting).trans
      ((if_neg (by rw [logical, low]; decide)).trans (State.asyncNextCharacter_afterGap (x := seen) stamp timed past)))]
    exact State.asyncStart_upTo ((s.withDecoder d seen).cleanEnd d t .idle none) d p stamp

end Sys2Proof.Machine
end

section
/-! Edges at the meters (R105, R107 to R111, R113): by the meter's state, and in either order at one stamp. -/

namespace Sys2Proof.Machine

/-! ### Channels and edges that a meter uses (R103) -/

theorem EdgeSelect.selects_iff (e : EdgeSelect) (rising : Bool) :
    e.selects rising = true ↔ e = .either ∨ (e = .rising ∧ rising = true) ∨ (e = .falling ∧ rising = false) := by
  cases e <;> cases rising <;> decide

theorem MeterConfig.usedChannels_iff (c : MeterConfig) (ch : Fin 32) : c.usedChannels.contains ch = true ↔
    (c.mode ≠ .gate ∧ c.mode ≠ .delay ∧ ch = c.channelA) ∨ (c.mode = .delay ∧ ch = c.channelB) ∨
      (c.mode = .delay ∧ c.startSource = .channelA ∧ ch = c.channelA) := by
  unfold MeterConfig.usedChannels
  cases mode : c.mode
  case delay => cases source : c.startSource <;> simp
  all_goals simp

theorem afterStop_iff (held : Option Nat) (stamp : Nat) : afterStop held stamp = true ↔ ∀ stop, held = some stop → stop < stamp := by
  cases held with
  | none => exact iff_of_true rfl nofun
  | some stop =>
    unfold afterStop
    rw [decide_eq_true_eq]
    exact ⟨fun h stop' e => Option.some.inj e ▸ h, fun h => h stop rfl⟩

/-! ### One meter's state -/

theorem State.overrangeFirst_of_notTiming {s : State} {m : Fin 8} (stamp : Nat) (h : ∀ start, s.meters[m].state ≠ .timing start) :
    s.overrangeFirst m stamp = s := by
  unfold State.overrangeFirst
  split
  · next start timing => exact absurd timing (h start)
  · rfl

theorem State.overrangeFirst_of_notDue {s : State} {m : Fin 8} {stamp : Nat}
    (h : ∀ start, s.meters[m].state = .timing start → stamp < start + 4294967296) : s.overrangeFirst m stamp = s := by
  unfold State.overrangeFirst
  split
  · next start timing => exact if_neg (Nat.not_le.mpr (h start timing))
  · rfl

theorem State.overrangeFirst_of_due {s : State} {m : Fin 8} {stamp start : Nat} (timing : s.meters[m].state = .timing start)
    (due : start + 4294967296 ≤ stamp) : s.overrangeFirst m stamp = s.overrangeEnd m := by
  unfold State.overrangeFirst
  rw [timing]
  exact if_pos due

theorem MeterRecord.result_overrange (freeze : Bool) (r : MeterRecord) : r.result freeze .overrange = r.afterOverrange freeze := by
  cases freeze <;> rfl

theorem MeterRecord.result_valid (freeze : Bool) (r : MeterRecord) (v : Word) : r.result freeze (.valid v) = r.afterValue freeze v := by
  have either : ∀ (a b : Word) (p : Prop) [Decidable p],
      (if r.count = 0 then a else if p then a else b) = if r.count = 0 ∨ p then a else b := fun a b p _ => by
    by_cases first : r.count = 0
    · rw [if_pos first, if_pos (Or.inl first)]
    · rw [if_neg first]
      exact if_congr (by rw [or_iff_right first]) rfl rfl
  cases freeze with
  | true => rfl
  | false =>
    unfold MeterRecord.result MeterRecord.take MeterRecord.afterValue
    dsimp only
    rw [either, either]

/-- A measurement's end, as a change of the meter (R105, R116). -/
theorem State.meterResult_ended (s : State) (m : Fin 8) (o : MeterOutcome) (next : MeterState) :
    UpToReports { s with meters := s.meters.set m (s.meters[m].ended (s.meters[m].record.result s.watch.freeze o) next) }
      (s.meterResult m o next) := State.putMeter_upTo m _ s

theorem State.meterResult_own (s : State) (m : Fin 8) (o : MeterOutcome) (next : MeterState) :
    (s.meterResult m o next).meters[m] = s.meters[m].ended (s.meters[m].record.result s.watch.freeze o) next := by
  rw [(s.meterResult_ended m o next).meters, vset_same]

theorem Meter.ended_state (mt : Meter) (record : MeterRecord) (next : MeterState) :
    (mt.ended record next).state = if mt.config.singleShot then .off else next := rfl

theorem State.setMeterState_own (s : State) (m : Fin 8) (st : MeterState) :
    (s.setMeterState m st).meters[m] = { s.meters[m] with state := st } := by
  rw [State.setMeterState_eq, vset_same]

/-! ### An edge, by the meter's state -/

theorem State.meterEdge_unused {s : State} {m : Fin 8} {ch : Fin 32} (unused : ¬ s.meters[m].config.usedChannels.contains ch = true)
    (rising : Bool) (stamp : Nat) : s.meterEdge m ch rising stamp = s := if_neg unused

/-- An edge of a used channel at a meter whose overrange is not due. -/
theorem State.meterEdge_used {s : State} {m : Fin 8} {ch : Fin 32} (used : s.meters[m].config.usedChannels.contains ch = true) {stamp : Nat}
    (notDue : ∀ start, s.meters[m].state = .timing start → stamp < start + 4294967296) (rising : Bool) :
    s.meterEdge m ch rising stamp = s.takeEdge m ch rising stamp := by
  unfold State.meterEdge
  rw [if_pos used, State.overrangeFirst_of_notDue notDue]

/-! ### The edge that ends a measurement (R108 to R110) -/

/-- An edge of a channel ends a measurement in TIMING. -/
def MeterConfig.stops (c : MeterConfig) (ch : Fin 32) (rising : Bool) : Bool :=
  match c.mode with
  | .period => ch == c.channelA && c.startEdge.selects rising
  | .high => ch == c.channelA && !rising
  | .low => ch == c.channelA && rising
  | .delay => ch == c.channelB && c.stopEdge.selects rising
  | .gate | .count => false

/-- The state after a measurement that an edge has ended. -/
def MeterConfig.afterMeasurement (c : MeterConfig) (stamp : Nat) : MeterState :=
  match c.mode with
  | .period => .timing stamp
  | .delay => .armed (some stamp)
  | .high | .low | .gate | .count => .armed none

theorem State.timingEdge_eq (s : State) (m : Fin 8) (ch : Fin 32) (rising : Bool) {stamp start : Nat} (later : start < stamp) :
    s.timingEdge m ch rising stamp start =
      if s.meters[m].config.stops ch rising then
        s.meterResult m (.valid (elapsed start stamp)) (s.meters[m].config.afterMeasurement stamp)
      else s := by
  unfold State.timingEdge MeterConfig.stops MeterConfig.afterMeasurement
  dsimp only
  rw [if_neg (Nat.not_le.mpr later)]
  cases s.meters[m].config.mode
  all_goals simp only [Bool.and_eq_true, beq_iff_eq, Bool.not_eq_true', Bool.false_eq_true, if_false]

theorem MeterConfig.stops_used {c : MeterConfig} {ch : Fin 32} {rising : Bool} (h : c.stops ch rising = true) :
    c.usedChannels.contains ch = true := by
  rw [MeterConfig.usedChannels_iff]
  unfold MeterConfig.stops at h
  cases mode : c.mode
  all_goals
    simp only [mode, Bool.and_eq_true, beq_iff_eq, Bool.false_eq_true] at h
  all_goals simp [h.1]

theorem State.takeEdge_timing {s : State} {m : Fin 8} {start : Nat} (timing : s.meters[m].state = .timing start) (ch : Fin 32) (rising : Bool)
    (stamp : Nat) : s.takeEdge m ch rising stamp = s.timingEdge m ch rising stamp start := by
  unfold State.takeEdge
  rw [timing]

/-- Settles O24: an edge that ends a measurement gives its result, and another changes nothing. -/
theorem measurementEnds : Obligations.MeasurementEnds := by
  intro m ch rising stamp start s timing mt selected ends next
  have stops : mt.config.stops ch rising = true ↔ ends := by
    show mt.config.stops ch rising = true ↔ match mt.config.mode with
      | .period => ch = mt.config.channelA ∧ selected mt.config.startEdge
      | .high => ch = mt.config.channelA ∧ rising = false
      | .low => ch = mt.config.channelA ∧ rising = true
      | .delay => ch = mt.config.channelB ∧ selected mt.config.stopEdge
      | .gate | .count => False
    unfold MeterConfig.stops
    cases mt.config.mode
    all_goals simp only [Bool.and_eq_true, beq_iff_eq, Bool.not_eq_true', Bool.false_eq_true, EdgeSelect.selects_iff, selected]
  have notDue : stamp < start + 4294967296 → ∀ t, s.meters[m].state = .timing t → stamp < t + 4294967296 := fun early t e => by
    rw [timing] at e
    cases e
    exact early
  refine ⟨fun later early ending => ?_, fun early quiet => ?_⟩
  · have ending := stops.mpr ending
    rw [State.meterEdge_used (MeterConfig.stops_used ending) (notDue early), State.takeEdge_timing timing, State.timingEdge_eq s m ch rising later,
      if_pos ending, ← MeterRecord.result_valid]
    exact s.meterResult_ended m _ _
  · by_cases used : s.meters[m].config.usedChannels.contains ch = true
    · rw [State.meterEdge_used used (notDue early), State.takeEdge_timing timing]
      by_cases later : start < stamp
      · rw [State.timingEdge_eq s m ch rising later]
        exact if_neg fun ending => quiet.elim (Nat.not_le.mpr later) fun not => not (stops.mp ending)
      · exact if_pos (Nat.not_lt.mp later)
    · exact State.meterEdge_unused used rising stamp

/-! ### The edge that begins a measurement (R104, R108 to R110, R113) -/

/-- An edge of a channel begins a measurement in ARMED, the stop edge of the last one being held or not. -/
def State.starts (s : State) (c : MeterConfig) (ch : Fin 32) (rising : Bool) (stamp : Nat) (held : Option Nat) : Bool :=
  match c.mode with
  | .period => ch == c.channelA && c.startEdge.selects rising
  | .high => ch == c.channelA && rising
  | .low => ch == c.channelA && !rising
  | .delay => c.startSource == .channelA && ch == c.channelA && c.startEdge.selects rising && afterStop held stamp && s.usedPodsLive c
  | .count | .gate => false

/-- An edge is one that a COUNT meter counts or holds. -/
def MeterConfig.counts (c : MeterConfig) (ch : Fin 32) (rising : Bool) : Bool :=
  c.mode == .count && ch == c.channelA && c.startEdge.selects rising

theorem State.armedEdge_eq (s : State) (m : Fin 8) (ch : Fin 32) (rising : Bool) (stamp : Nat) (held : Option Nat) :
    s.armedEdge m ch rising stamp held =
      if s.starts s.meters[m].config ch rising stamp held then s.setMeterState m (.timing stamp)
      else if s.meters[m].config.counts ch rising then s.setMeterState m (.armed (some stamp))
      else s := by
  unfold State.armedEdge State.starts MeterConfig.counts
  dsimp only
  cases s.meters[m].config.mode
  all_goals simp [and_assoc]

theorem State.takeEdge_armed {s : State} {m : Fin 8} {held : Option Nat} (armed : s.meters[m].state = .armed held) (ch : Fin 32) (rising : Bool)
    (stamp : Nat) : s.takeEdge m ch rising stamp = s.armedEdge m ch rising stamp held := by
  unfold State.takeEdge
  rw [armed]

theorem State.takeEdge_counting {s : State} {m : Fin 8} {openAt edges : Nat} {held : Option Nat}
    (counting : s.meters[m].state = .counting openAt edges held) (ch : Fin 32) (rising : Bool) (stamp : Nat) :
    s.takeEdge m ch rising stamp = s.countingEdge m ch rising stamp openAt edges held := by
  unfold State.takeEdge
  rw [counting]

theorem State.takeEdge_idle {s : State} {m : Fin 8} (h : s.meters[m].state = .off ∨ ∃ t, s.meters[m].state = .windowOpen t) (ch : Fin 32)
    (rising : Bool) (stamp : Nat) : s.takeEdge m ch rising stamp = s := by
  unfold State.takeEdge
  rcases h with off | ⟨t, isOpen⟩
  · rw [off]
  · rw [isOpen]

theorem State.starts_used {s : State} {c : MeterConfig} {ch : Fin 32} {rising : Bool} {stamp : Nat} {held : Option Nat}
    (h : s.starts c ch rising stamp held = true) : c.usedChannels.contains ch = true := by
  rw [MeterConfig.usedChannels_iff]
  unfold State.starts at h
  cases mode : c.mode
  all_goals
    simp only [mode, Bool.and_eq_true, beq_iff_eq, Bool.false_eq_true] at h
  case delay =>
    obtain ⟨⟨⟨⟨source, channel⟩, _⟩, _⟩, _⟩ := h
    simp [source, channel]
  all_goals simp [h.1]

theorem MeterConfig.counts_used {c : MeterConfig} {ch : Fin 32} {rising : Bool} (h : c.counts ch rising = true) :
    c.usedChannels.contains ch = true := by
  unfold MeterConfig.counts at h
  simp only [Bool.and_eq_true, beq_iff_eq] at h
  obtain ⟨⟨mode, channel⟩, _⟩ := h
  rw [MeterConfig.usedChannels_iff]
  exact Or.inl ⟨by rw [mode]; decide, by rw [mode]; decide, channel⟩

end Sys2Proof.Machine
end

section
/-! Two events of one stamp at a meter, in either order (R107, R110, R111). -/

namespace Sys2Proof.Machine

section OneMeter

variable {s : State} {m : Fin 8}

/-! ### What an edge keeps -/

/-- The overrange of a measurement in TIMING has not come at this stamp. -/
def State.NotDue (s : State) (m : Fin 8) (stamp : Nat) : Prop := ∀ start, s.meters[m].state = .timing start → stamp < start + 4294967296

theorem State.NotDue.of_now {stamp : Nat} (timing : s.meters[m].state = .timing stamp) : s.NotDue m stamp := fun start e => by
  rw [timing] at e
  cases e
  omega

theorem State.NotDue.of_notTiming (h : ∀ start, s.meters[m].state ≠ .timing start) (stamp : Nat) : s.NotDue m stamp :=
  fun start e => absurd e (h start)

/-- A result leaves a meter in OFF or in the state given. -/
theorem State.meterResult_state (s : State) (m : Fin 8) (o : MeterOutcome) (next : MeterState) :
    (s.meterResult m o next).meters[m].state = .off ∨ (s.meterResult m o next).meters[m].state = next := by
  rw [State.meterResult_own, Meter.ended_state]
  split
  · exact Or.inl rfl
  · exact Or.inr rfl

theorem State.meterResult_config (s : State) (m : Fin 8) (o : MeterOutcome) (next : MeterState) :
    (s.meterResult m o next).meters[m].config = s.meters[m].config := by
  rw [State.meterResult_own]
  rfl

theorem State.setMeterState_config (s : State) (m : Fin 8) (st : MeterState) : (s.setMeterState m st).meters[m].config = s.meters[m].config := by
  rw [State.setMeterState_own]

theorem State.setMeterState_state (s : State) (m : Fin 8) (st : MeterState) : (s.setMeterState m st).meters[m].state = st := by
  rw [State.setMeterState_own]

theorem State.overrangeFirst_notDue (s : State) (m : Fin 8) (stamp : Nat) : (s.overrangeFirst m stamp).NotDue m stamp := by
  by_cases due : ∃ start, s.meters[m].state = .timing start ∧ start + 4294967296 ≤ stamp
  · obtain ⟨start, timing, due⟩ := due
    rw [State.overrangeFirst_of_due timing due]
    refine .of_notTiming (fun t e => ?_) stamp
    rcases s.meterResult_state m .overrange (.armed none) with off | armed
    · exact MeterState.noConfusion (off.symm.trans e)
    · exact MeterState.noConfusion (armed.symm.trans e)
  · have notDue : s.NotDue m stamp := fun start timing => Nat.not_le.mp fun le => due ⟨start, timing, le⟩
    rw [State.overrangeFirst_of_notDue notDue]
    exact notDue

theorem State.overrangeFirst_config (s : State) (m : Fin 8) (stamp : Nat) : (s.overrangeFirst m stamp).meters[m].config = s.meters[m].config := by
  unfold State.overrangeFirst
  split
  · split
    · exact s.meterResult_config m .overrange (.armed none)
    · rfl
  · rfl

/-! ### What an edge makes of a meter -/

/-- What an event of a stamp leaves: the configuration, and a state whose overrange has not come. -/
structure Settled (s t : State) (m : Fin 8) (stamp : Nat) : Prop where
  config : t.meters[m].config = s.meters[m].config
  notDue : t.NotDue m stamp

theorem Settled.refl {stamp : Nat} (notDue : s.NotDue m stamp) : Settled s s m stamp := ⟨rfl, notDue⟩

theorem Settled.timing (s : State) (m : Fin 8) (stamp : Nat) : Settled s (s.setMeterState m (.timing stamp)) m stamp :=
  ⟨s.setMeterState_config m _, .of_now (s.setMeterState_state m _)⟩

theorem Settled.setState {st : MeterState} (notTiming : ∀ start, st ≠ .timing start) (stamp : Nat) : Settled s (s.setMeterState m st) m stamp :=
  ⟨s.setMeterState_config m _, .of_notTiming (fun start => by rw [State.setMeterState_state]; exact notTiming start) stamp⟩

theorem Settled.result {o : MeterOutcome} {next : MeterState} {stamp : Nat} (h : next = .timing stamp ∨ ∀ start, next ≠ .timing start) :
    Settled s (s.meterResult m o next) m stamp := by
  refine ⟨s.meterResult_config m o next, fun start e => ?_⟩
  rcases s.meterResult_state m o next with off | is
  · exact MeterState.noConfusion (off.symm.trans e)
  · rcases h with now | not
    · exact State.NotDue.of_now (is.trans now) start e
    · exact absurd (is.symm.trans e) (not start)

theorem takeEdge_settled {stamp : Nat} (notDue : s.NotDue m stamp) (ch : Fin 32) (rising : Bool) : Settled s (s.takeEdge m ch rising stamp) m stamp := by
  cases state : s.meters[m].state with
  | off =>
    rw [State.takeEdge_idle (Or.inl state)]
    exact .refl notDue
  | windowOpen t =>
    rw [State.takeEdge_idle (Or.inr ⟨t, state⟩)]
    exact .refl notDue
  | armed held =>
    rw [State.takeEdge_armed state, State.armedEdge_eq]
    split
    · exact .timing s m stamp
    · split
      · exact .setState (fun _ e => by cases e) stamp
      · exact .refl notDue
  | timing start =>
    rw [State.takeEdge_timing state]
    by_cases later : start < stamp
    · rw [State.timingEdge_eq s m ch rising later]
      split
      · refine .result ?_
        unfold MeterConfig.afterMeasurement
        cases s.meters[m].config.mode
        case period => exact Or.inl rfl
        all_goals exact Or.inr nofun
      · exact .refl notDue
    · rw [show s.timingEdge m ch rising stamp start = s from if_pos (Nat.not_lt.mp later)]
      exact .refl notDue
  | counting openAt edges held =>
    rw [State.takeEdge_counting state]
    unfold State.countingEdge
    dsimp only
    split
    · split
      · exact .setState (fun _ e => by cases e) stamp
      · split
        · exact .setState (fun _ e => by cases e) stamp
        · exact .refl notDue
    · exact .refl notDue

theorem takeEdge_config (s : State) (m : Fin 8) (ch : Fin 32) (rising : Bool) (stamp : Nat) :
    (s.takeEdge m ch rising stamp).meters[m].config = s.meters[m].config := by
  cases state : s.meters[m].state with
  | timing start =>
    rw [State.takeEdge_timing state]
    by_cases later : start < stamp
    · rw [State.timingEdge_eq s m ch rising later]
      split
      · exact s.meterResult_config m _ _
      · rfl
    · rw [show s.timingEdge m ch rising stamp start = s from if_pos (Nat.not_lt.mp later)]
  | off => rw [State.takeEdge_idle (Or.inl state)]
  | windowOpen t => rw [State.takeEdge_idle (Or.inr ⟨t, state⟩)]
  | armed held => exact (takeEdge_settled (.of_notTiming (fun t e => MeterState.noConfusion (state.symm.trans e)) stamp) ch rising).config
  | counting openAt edges held =>
    exact (takeEdge_settled (.of_notTiming (fun t e => MeterState.noConfusion (state.symm.trans e)) stamp) ch rising).config

theorem takeStart_of_notArmed (h : ∀ held, s.meters[m].state ≠ .armed held) (stamp : Nat) : s.takeStart m stamp = s := by
  unfold State.takeStart
  split
  · next held armed => exact absurd armed (h held)
  · rfl

/-- At a meter that is COUNTING an edge leaves it so. -/
theorem takeEdge_counting_state {openAt edges : Nat} {held : Option Nat} (counting : s.meters[m].state = .counting openAt edges held) (ch : Fin 32)
    (rising : Bool) (stamp : Nat) : ∃ n h, (s.takeEdge m ch rising stamp).meters[m].state = .counting openAt n h := by
  rw [State.takeEdge_counting counting]
  unfold State.countingEdge
  dsimp only
  split
  · split
    · exact ⟨_, _, s.setMeterState_state m _⟩
    · split
      · exact ⟨_, _, s.setMeterState_state m _⟩
      · exact ⟨_, _, counting⟩
  · exact ⟨_, _, counting⟩

/-- An edge of the stamp at which the measurement began does nothing (R107). -/
theorem takeEdge_now {stamp : Nat} (timing : s.meters[m].state = .timing stamp) (ch : Fin 32) (rising : Bool) :
    s.takeEdge m ch rising stamp = s := by
  rw [State.takeEdge_timing timing]
  exact if_pos (Nat.le_refl stamp)

/-! ### DELAY meters (R110) -/

variable (delay : s.meters[m].config.mode = .delay)
include delay

theorem counts_of_delay (ch : Fin 32) (rising : Bool) : s.meters[m].config.counts ch rising = false := by
  unfold MeterConfig.counts
  rw [delay]
  rfl

/-- In ARMED a DELAY meter takes no edge but a start. -/
theorem takeEdge_armed_delay {held : Option Nat} (armed : s.meters[m].state = .armed held) (ch : Fin 32) (rising : Bool) (stamp : Nat) :
    s.takeEdge m ch rising stamp =
      if s.starts s.meters[m].config ch rising stamp held then s.setMeterState m (.timing stamp) else s := by
  rw [State.takeEdge_armed armed, State.armedEdge_eq, counts_of_delay delay]
  rfl

theorem takeEdge_armed_delay_silent {held : Option Nat} (armed : s.meters[m].state = .armed held) {ch : Fin 32}
    (h : s.meters[m].config.startSource ≠ .channelA ∨ ch ≠ s.meters[m].config.channelA ∨ held = some stamp) (rising : Bool) :
    s.takeEdge m ch rising stamp = s := by
  rw [takeEdge_armed_delay delay armed]
  refine if_neg fun starts => ?_
  unfold State.starts at starts
  rw [delay] at starts
  simp only [Bool.and_eq_true, beq_iff_eq] at starts
  obtain ⟨⟨⟨⟨source, channel⟩, _⟩, after⟩, _⟩ := starts
  rcases h with other | other | same
  · exact other source
  · exact other channel
  · rw [same] at after
    exact absurd ((afterStop_iff _ _).mp after _ rfl) (Nat.lt_irrefl _)

/-- A measurement of a DELAY meter that an edge has ended takes no event of the same stamp: it is OFF, or its stop is held. -/
theorem takeEdge_timing_delay {start : Nat} (timing : s.meters[m].state = .timing start) (ch : Fin 32) (rising : Bool) (stamp : Nat) :
    s.takeEdge m ch rising stamp = s ∨ (ch = s.meters[m].config.channelB ∧
      ((s.takeEdge m ch rising stamp).meters[m].state = .off ∨ (s.takeEdge m ch rising stamp).meters[m].state = .armed (some stamp))) := by
  rw [State.takeEdge_timing timing]
  by_cases later : start < stamp
  · rw [State.timingEdge_eq s m ch rising later]
    split
    · next stops =>
      refine Or.inr ⟨?_, ?_⟩
      · unfold MeterConfig.stops at stops
        rw [delay] at stops
        simp only [Bool.and_eq_true, beq_iff_eq] at stops
        exact stops.1
      · have next : s.meters[m].config.afterMeasurement stamp = .armed (some stamp) := by
          unfold MeterConfig.afterMeasurement
          rw [delay]
        rw [next]
        exact s.meterResult_state m _ _
    · exact Or.inl rfl
  · exact Or.inl (if_pos (Nat.not_lt.mp later))

/-- The start and the stop edge of a DELAY meter at one stamp (R107). -/
theorem takeEdge_start_stop (different : s.meters[m].config.channelA ≠ s.meters[m].config.channelB) (x y : Bool) (stamp : Nat) :
    (s.takeEdge m s.meters[m].config.channelA x stamp).takeEdge m s.meters[m].config.channelB y stamp =
      (s.takeEdge m s.meters[m].config.channelB y stamp).takeEdge m s.meters[m].config.channelA x stamp := by
  cases state : s.meters[m].state with
  | off => rw [State.takeEdge_idle (Or.inl state), State.takeEdge_idle (Or.inl state), State.takeEdge_idle (Or.inl state)]
  | windowOpen t =>
    rw [State.takeEdge_idle (Or.inr ⟨t, state⟩), State.takeEdge_idle (Or.inr ⟨t, state⟩), State.takeEdge_idle (Or.inr ⟨t, state⟩)]
  | armed held =>
    have stop := takeEdge_armed_delay_silent (stamp := stamp) delay state (Or.inr (Or.inl different.symm)) y
    rw [stop, takeEdge_armed_delay delay state]
    split
    · exact takeEdge_now (s.setMeterState_state m _) _ y
    · exact stop
  | timing start =>
    have begin : s.takeEdge m s.meters[m].config.channelA x stamp = s :=
      (takeEdge_timing_delay delay state _ x stamp).resolve_right fun h => different h.1
    rw [begin]
    rcases takeEdge_timing_delay delay state s.meters[m].config.channelB y stamp with silent | ⟨_, off | armed⟩
    · rw [silent, begin]
    · exact (State.takeEdge_idle (Or.inl off) _ x stamp).symm
    · have config := (takeEdge_config s m s.meters[m].config.channelB y stamp)
      exact (takeEdge_armed_delay_silent (config.symm ▸ delay) armed (Or.inr (Or.inr rfl)) x).symm
  | counting openAt edges held =>
    have stop : ∀ u : State, u.meters[m].config = s.meters[m].config → (∃ n h, u.meters[m].state = .counting openAt n h) →
        u.takeEdge m s.meters[m].config.channelB y stamp = u := fun u config ⟨n, h, counting⟩ => by
      rw [State.takeEdge_counting counting]
      refine if_neg fun counts => ?_
      rw [config] at counts
      exact different counts.1.symm
    rw [stop s rfl ⟨edges, held, state⟩]
    exact stop _ (takeEdge_config s m _ x stamp) (takeEdge_counting_state state _ x stamp)

/-- An edge and a clean-end event at one stamp, at a DELAY meter that a decoder starts (R107). -/
theorem takeEdge_takeStart (source : s.meters[m].config.startSource ≠ .channelA) (ch : Fin 32) (rising : Bool) (stamp : Nat) :
    (s.takeEdge m ch rising stamp).takeStart m stamp = (s.takeStart m stamp).takeEdge m ch rising stamp := by
  cases state : s.meters[m].state with
  | off => rw [State.takeEdge_idle (Or.inl state), takeStart_of_notArmed (by rw [state]; nofun), State.takeEdge_idle (Or.inl state)]
  | windowOpen t =>
    rw [State.takeEdge_idle (Or.inr ⟨t, state⟩), takeStart_of_notArmed (by rw [state]; nofun), State.takeEdge_idle (Or.inr ⟨t, state⟩)]
  | armed held =>
    have silent := takeEdge_armed_delay_silent (stamp := stamp) delay state (ch := ch) (Or.inl source) rising
    rw [silent, State.takeStart, state]
    dsimp only
    split
    · exact (takeEdge_now (s.setMeterState_state m _) ch rising).symm
    · exact silent.symm
  | timing start =>
    rw [takeStart_of_notArmed (s := s) (by rw [state]; nofun)]
    rcases takeEdge_timing_delay delay state ch rising stamp with silent | ⟨_, off | armed⟩
    · rw [silent, takeStart_of_notArmed (by rw [state]; nofun)]
    · exact takeStart_of_notArmed (by rw [off]; nofun) stamp
    · unfold State.takeStart
      rw [armed]
      refine if_neg fun starts => ?_
      rw [Bool.and_eq_true, afterStop_iff] at starts
      exact Nat.lt_irrefl _ (starts.1 stamp rfl)
  | counting openAt edges held =>
    obtain ⟨n, h, counting⟩ := takeEdge_counting_state state ch rising stamp
    rw [takeStart_of_notArmed (s := s) (by rw [state]; nofun), takeStart_of_notArmed (by rw [counting]; nofun)]

end OneMeter

/-! ### The two orders -/

/-- Only a DELAY meter uses two channels (R103). -/
theorem MeterConfig.two_used {c : MeterConfig} {a b : Fin 32} (different : a ≠ b) (usesA : c.usedChannels.contains a = true)
    (usesB : c.usedChannels.contains b = true) : c.mode = .delay ∧ c.channelA ≠ c.channelB ∧
      ((a = c.channelA ∧ b = c.channelB) ∨ (a = c.channelB ∧ b = c.channelA)) := by
  rw [MeterConfig.usedChannels_iff] at usesA usesB
  rcases usesA with ⟨_, notDelay, atA⟩ | ⟨delay, atA⟩ | ⟨delay, _, atA⟩
  · rcases usesB with ⟨_, _, atB⟩ | ⟨delay, _⟩ | ⟨delay, _⟩
    · exact absurd (atA.trans atB.symm) different
    · exact absurd delay notDelay
    · exact absurd delay notDelay
  · rcases usesB with ⟨_, notDelay, _⟩ | ⟨_, atB⟩ | ⟨_, _, atB⟩
    · exact absurd delay notDelay
    · exact absurd (atA.trans atB.symm) different
    · exact ⟨delay, fun same => different (atA.trans (same.symm.trans atB.symm)), Or.inr ⟨atA, atB⟩⟩
  · rcases usesB with ⟨_, notDelay, _⟩ | ⟨_, atB⟩ | ⟨_, _, atB⟩
    · exact absurd delay notDelay
    · exact ⟨delay, fun same => different (atA.trans (same.trans atB.symm)), Or.inl ⟨atA, atB⟩⟩
    · exact absurd (atA.trans atB.symm) different

/-- The edges of one stamp on two channels, in either order (R107). -/
theorem meterEdge_comm (m : Fin 8) (a b : Fin 32) (x y : Bool) (stamp : Nat) (s : State) (different : a ≠ b) :
    (s.meterEdge m a x stamp).meterEdge m b y stamp = (s.meterEdge m b y stamp).meterEdge m a x stamp := by
  have config : ∀ (u : State) (ch : Fin 32) (l : Bool), (u.meterEdge m ch l stamp).meters[m].config = u.meters[m].config := fun u ch l => by
    unfold State.meterEdge
    split
    · rw [takeEdge_config, State.overrangeFirst_config]
    · rfl
  by_cases usesA : s.meters[m].config.usedChannels.contains a = true
  · by_cases usesB : s.meters[m].config.usedChannels.contains b = true
    · have both : ∀ (c e : Fin 32) (z w : Bool), s.meters[m].config.usedChannels.contains c = true → s.meters[m].config.usedChannels.contains e = true →
          (s.meterEdge m c z stamp).meterEdge m e w stamp = ((s.overrangeFirst m stamp).takeEdge m c z stamp).takeEdge m e w stamp :=
        fun c e z w usesC usesE => by
          have first : s.meterEdge m c z stamp = (s.overrangeFirst m stamp).takeEdge m c z stamp := if_pos usesC
          have settled := takeEdge_settled (s.overrangeFirst_notDue m stamp) c z
          rw [first, State.meterEdge_used _ settled.notDue]
          rw [settled.config, State.overrangeFirst_config]
          exact usesE
      rw [both a b x y usesA usesB, both b a y x usesB usesA]
      have kept := s.overrangeFirst_config m stamp
      generalize s.overrangeFirst m stamp = o at kept
      rw [← kept] at usesA usesB
      obtain ⟨delay, apart, ⟨rfl, rfl⟩ | ⟨rfl, rfl⟩⟩ := MeterConfig.two_used different usesA usesB
      · exact takeEdge_start_stop delay apart x y stamp
      · exact (takeEdge_start_stop delay apart y x stamp).symm
    · rw [State.meterEdge_unused usesB, State.meterEdge_unused (by rw [config s a x]; exact usesB)]
  · rw [State.meterEdge_unused (s := s.meterEdge m b y stamp) (by rw [config s b y]; exact usesA), State.meterEdge_unused usesA]

theorem takeStart_settled {s : State} {m : Fin 8} {stamp : Nat} (notDue : s.NotDue m stamp) : Settled s (s.takeStart m stamp) m stamp := by
  unfold State.takeStart
  split
  · split
    · exact .timing s m stamp
    · exact .refl notDue
  · exact .refl notDue

/-- An edge and a clean-end event of one stamp, in either order (R107, log entry 30). -/
theorem meterEdge_meterCleanEnd (m : Fin 8) (ch : Fin 32) (rising : Bool) (d : Fin 6) (address : Byte) (stamp : Nat) (s : State) :
    (s.meterEdge m ch rising stamp).meterCleanEnd d address stamp m = (s.meterCleanEnd d address stamp m).meterEdge m ch rising stamp := by
  by_cases uses : s.meters[m].config.usedChannels.contains ch = true
  · by_cases starts : s.meters[m].config.startsOn d address = true
    · have overrange := s.overrangeFirst_notDue m stamp
      have kept := s.overrangeFirst_config m stamp
      have edge : s.meterEdge m ch rising stamp = (s.overrangeFirst m stamp).takeEdge m ch rising stamp := if_pos uses
      have event : s.meterCleanEnd d address stamp m = (s.overrangeFirst m stamp).takeStart m stamp := if_pos starts
      have afterEdge := takeEdge_settled overrange ch rising
      have afterEvent := takeStart_settled overrange
      rw [edge, event, State.meterEdge_used (by rw [afterEvent.config, kept]; exact uses) afterEvent.notDue]
      unfold State.meterCleanEnd
      rw [if_pos (by rw [afterEdge.config, kept]; exact starts), State.overrangeFirst_of_notDue afterEdge.notDue]
      unfold MeterConfig.startsOn at starts
      simp only [Bool.and_eq_true, beq_iff_eq] at starts
      obtain ⟨⟨⟨delay, source⟩, _⟩, _⟩ := starts
      exact takeEdge_takeStart (kept.symm ▸ delay) (by rw [kept, source]; decide) ch rising stamp
    · have none : ∀ u : State, u.meters[m].config = s.meters[m].config → u.meterCleanEnd d address stamp m = u := fun u config => by
        refine if_neg ?_
        rw [config]
        exact starts
      rw [none s rfl]
      refine none _ ?_
      rw [show s.meterEdge m ch rising stamp = (s.overrangeFirst m stamp).takeEdge m ch rising stamp from if_pos uses,
        takeEdge_config, State.overrangeFirst_config]
  · have config : (s.meterCleanEnd d address stamp m).meters[m].config = s.meters[m].config := by
      unfold State.meterCleanEnd
      split
      · rw [(takeStart_settled (s.overrangeFirst_notDue m stamp)).config, State.overrangeFirst_config]
      · rfl
    rw [State.meterEdge_unused uses, State.meterEdge_unused (by rw [config]; exact uses)]

/-! ### The statement -/

theorem State.usedPodsLive_delay {s : State} {c : MeterConfig} (delay : c.mode = .delay) (source : c.startSource = .channelA) :
    s.usedPodsLive c = true ↔ s.podLive (podOf c.channelA) = true ∧ s.podLive (podOf c.channelB) = true := by
  unfold State.usedPodsLive MeterConfig.usedChannels
  rw [delay, source]
  simp [and_comm]

/-- Settles O23: an edge by the meter's state, and the events of one stamp in either order. -/
theorem meterEdges : Obligations.MeterEdges := by
  refine ⟨fun m ch rising stamp s => ?_, fun m a b x y stamp s different => meterEdge_comm m a b x y stamp s different,
    fun m ch rising d address stamp s => meterEdge_meterCleanEnd m ch rising d address stamp s⟩
  intro mt c becomes selected used live counted
  have uses : c.usedChannels.contains ch = true ↔ used := c.usedChannels_iff ch
  have counts : c.counts ch rising = true ↔ counted := by
    unfold MeterConfig.counts
    simp only [Bool.and_eq_true, beq_iff_eq, EdgeSelect.selects_iff, and_assoc]
    rfl
  refine ⟨fun idle => ?_, fun held armed => ?_, fun openAt edges held counting mode => ?_, fun start timing due isUsed => ?_⟩
  · by_cases isUsed : c.usedChannels.contains ch = true
    · have still := idle.resolve_left fun not => not (uses.mp isUsed)
      have notTiming : ∀ start, s.meters[m].state ≠ .timing start := fun start timing => by
        rcases still with off | ⟨t, isOpen⟩
        · exact MeterState.noConfusion (off.symm.trans timing)
        · exact MeterState.noConfusion (isOpen.symm.trans timing)
      rw [State.meterEdge_used isUsed (State.NotDue.of_notTiming notTiming stamp)]
      exact State.takeEdge_idle still ch rising stamp
    · exact State.meterEdge_unused isUsed rising stamp
  · intro starts
    have notTiming : ∀ start, s.meters[m].state ≠ .timing start := fun start timing => MeterState.noConfusion (armed.symm.trans timing)
    have begins : s.starts c ch rising stamp held = true ↔ starts := by
      show _ ↔ (c.mode = .period ∧ ch = c.channelA ∧ selected c.startEdge) ∨
        (c.mode = .high ∧ ch = c.channelA ∧ rising = true) ∨ (c.mode = .low ∧ ch = c.channelA ∧ rising = false) ∨
        (c.mode = .delay ∧ c.startSource = .channelA ∧ ch = c.channelA ∧ selected c.startEdge ∧ live ∧ ∀ stop, held = some stop → stop < stamp)
      unfold State.starts
      cases mode : c.mode
      case delay =>
        simp only [Bool.and_eq_true, beq_iff_eq, EdgeSelect.selects_iff, afterStop_iff, reduceCtorEq, false_and, false_or, true_and]
        refine ⟨fun ⟨⟨⟨⟨source, channel⟩, edge⟩, after⟩, pods⟩ => ⟨source, channel, edge, (State.usedPodsLive_delay mode source).mp pods, after⟩,
          fun ⟨source, channel, edge, pods, after⟩ => ⟨⟨⟨⟨source, channel⟩, edge⟩, after⟩, (State.usedPodsLive_delay mode source).mpr pods⟩⟩
      all_goals simp [EdgeSelect.selects_iff, selected]
    have edge : c.usedChannels.contains ch = true → s.meterEdge m ch rising stamp =
        if s.starts c ch rising stamp held then s.setMeterState m (.timing stamp)
        else if c.counts ch rising then s.setMeterState m (.armed (some stamp)) else s := fun isUsed => by
      rw [State.meterEdge_used isUsed (State.NotDue.of_notTiming notTiming stamp), State.takeEdge_armed armed]
      exact s.armedEdge_eq m ch rising stamp held
    refine ⟨fun start => ?_, fun count => ?_, fun noStart noCount => ?_⟩
    · have start := begins.mpr start
      exact (edge (State.starts_used start)).trans ((if_pos start).trans (s.setMeterState_eq m _))
    · have count' := counts.mpr count
      have noStart : ¬ s.starts c ch rising stamp held = true := fun start => by
        unfold State.starts at start
        rw [count.1] at start
        cases start
      exact (edge (MeterConfig.counts_used count')).trans ((if_neg noStart).trans ((if_pos count').trans (s.setMeterState_eq m _)))
    · by_cases isUsed : c.usedChannels.contains ch = true
      · exact (edge isUsed).trans ((if_neg fun h => noStart (begins.mp h)).trans (if_neg fun h => noCount (counts.mp h)))
      · exact State.meterEdge_unused isUsed rising stamp
  · intro expiry
    have notTiming : ∀ start, s.meters[m].state ≠ .timing start := fun start timing => MeterState.noConfusion (counting.symm.trans timing)
    have edge : c.usedChannels.contains ch = true → s.meterEdge m ch rising stamp = s.countingEdge m ch rising stamp openAt edges held := fun isUsed => by
      rw [State.meterEdge_used isUsed (State.NotDue.of_notTiming notTiming stamp), State.takeEdge_counting counting]
    have taken : counted → ch = c.channelA ∧ c.startEdge.selects rising = true := fun count => ⟨count.2.1, (c.startEdge.selects_iff rising).mpr count.2.2⟩
    refine ⟨fun count opened inside => ?_, fun count at' opened => ?_, fun quiet => ?_⟩
    · exact (edge (MeterConfig.counts_used (counts.mpr count))).trans ((if_pos (taken count)).trans ((if_pos ⟨opened, inside⟩).trans (s.setMeterState_eq m _)))
    · have outside : ¬ (openAt ≤ stamp ∧ stamp < expiry) := fun h => Nat.lt_irrefl _ (at' ▸ h.2)
      exact (edge (MeterConfig.counts_used (counts.mpr count))).trans ((if_pos (taken count)).trans ((if_neg outside).trans ((if_pos at').trans (s.setMeterState_eq m _))))
    · by_cases isUsed : c.usedChannels.contains ch = true
      · refine (edge isUsed).trans ?_
        by_cases count : counted
        · have away := quiet.resolve_left fun not => not count
          refine (if_pos (taken count)).trans ((if_neg fun h => ?_).trans (if_neg fun at' => ?_))
          · exact away.elim (Nat.not_lt.mpr h.1) (Nat.lt_asymm h.2)
          · have late : openAt ≤ stamp := at' ▸ Nat.le_add_right openAt _
            exact away.elim (Nat.not_lt.mpr late) fun after => Nat.lt_irrefl _ (at' ▸ after)
        · exact if_neg fun h => count ⟨mode, h.1, (c.startEdge.selects_iff rising).mp h.2⟩
      · exact State.meterEdge_unused isUsed rising stamp
  · refine ⟨s.overrangeFirst m stamp, ?_, ?_⟩
    · rw [State.overrangeFirst_of_due timing due, ← MeterRecord.result_overrange]
      exact s.meterResult_ended m .overrange (.armed none)
    · have uses' := uses.mpr isUsed
      rw [State.meterEdge_used (s := s.overrangeFirst m stamp) (by rw [State.overrangeFirst_config]; exact uses') (s.overrangeFirst_notDue m stamp)]
      exact if_pos uses'

end Sys2Proof.Machine
end

section
/-! DEC_CONFIG (R54, R55, R67, R88, R95, R216): what its operands name, and each outcome by its own premise. -/

namespace Sys2Proof.Machine

/-! ### Roles and bindings (R55) -/

theorem goodBindings_iff (p : Params) (bs : List Binding) : goodBindings p bs = true ↔
    (∀ r : Role, r ∈ p.roles ↔ ∃ b ∈ bs, b.role = r) ∧ (bs.map (·.role)).Nodup ∧ (bs.map (·.channel)).Nodup := by
  have every : ((p.roles.all fun r => bs.any fun b => b.role == r) && (bs.all fun b => p.roles.contains b.role)) = true ↔
      ∀ r : Role, r ∈ p.roles ↔ ∃ b ∈ bs, b.role = r := by
    simp only [Bool.and_eq_true, List.all_eq_true, List.any_eq_true, List.contains_iff_mem, beq_iff_eq]
    exact ⟨fun ⟨named, used⟩ r => ⟨named r, fun ⟨b, member, role⟩ => role ▸ used b member⟩,
      fun same => ⟨fun r member => (same r).mp member, fun b member => (same b.role).mpr ⟨b, member, rfl⟩⟩⟩
  unfold goodBindings
  rw [Bool.and_eq_true, Bool.and_eq_true, every, decide_eq_true_eq, decide_eq_true_eq, and_assoc]

theorem roles_clocked (p : ClockedParams) (few : p.selectCount ≤ 4) : (Params.clocked p).roles =
    [.clock, .out, .inp] ++ [Role.select0, .select1, .select2, .select3].take p.selectCount := by
  have named : ∀ n, n ≤ 4 → ((List.finRange 4).filter fun k => decide (k.val < n)).map selectRole =
      [Role.select0, .select1, .select2, .select3].take n := fun n small => by
    interval_cases n <;> rfl
  exact congrArg ([.clock, .out, .inp] ++ ·) (named _ few)

theorem role?_eq_some {b : Byte} {r : Role} : role? b = some r ↔ b = byte r.code := by
  refine ⟨fun h => ?_, fun h => h ▸ role?_byte_code r⟩
  unfold role? at h
  split_ifs at h
  all_goals
    cases h
    assumption

theorem binding?_eq_some {pair : Byte × Byte} {b : Binding} : binding? pair = some b ↔ pair = (byte b.role.code, byte b.channel) := by
  have channel : ∀ (x : Byte) (c : Fin 32), index? 32 x = some c ↔ x = byte c := fun x c => by
    rw [index?_eq_some, ← BitVec.toNat_inj, byte_toNat_of_lt (by omega)]
  unfold binding?
  rw [Prod.ext_iff]
  refine ⟨fun h => ?_, fun ⟨role, chan⟩ => ?_⟩
  · split at h
    · next r c role chan =>
      cases h
      exact ⟨role?_eq_some.mp role, (channel _ _).mp chan⟩
    · cases h
  · rw [role?_eq_some.mpr role, (channel _ _).mpr chan]

theorem bindings?_cons {pair : Byte × Byte} {pairs : List (Byte × Byte)} {bs : List Binding} : bindings? (pair :: pairs) = some bs ↔
    ∃ b, binding? pair = some b ∧ ∃ rest, bindings? pairs = some rest ∧ b :: rest = bs := by
  simp only [bindings?, List.mapM_cons, Option.bind_eq_bind, Option.bind_eq_some_iff, Option.pure_def, Option.some.injEq]

theorem bindings?_eq_some {pairs : List (Byte × Byte)} {bs : List Binding} :
    bindings? pairs = some bs ↔ pairs = bs.map fun b => (byte b.role.code, byte b.channel) := by
  induction pairs generalizing bs with
  | nil =>
    cases bs with
    | nil => exact iff_of_true rfl rfl
    | cons b bs => exact iff_of_false (fun h => by cases h) (fun h => by cases h)
  | cons pair pairs ih =>
    rw [bindings?_cons]
    cases bs with
    | nil => exact iff_of_false (fun ⟨_, _, _, _, h⟩ => by cases h) (fun h => by cases h)
    | cons b bs =>
      rw [List.map_cons, List.cons.injEq, ← binding?_eq_some, ← ih]
      constructor
      · rintro ⟨_, own, _, others, ⟨⟩⟩
        exact ⟨own, others⟩
      · exact fun ⟨own, others⟩ => ⟨b, own, bs, others, rfl⟩

/-! ### Parameters (R88, R95, R216) -/

theorem choice?_eq_some {b : Byte} {c : Bool} : choice? b = some c ↔ b.toNat ≤ 2 ∧ c = (b == 2) := by
  revert b c
  decide

theorem parity?_eq_some {b : Byte} {x : Parity} : parity? b = some x ↔
    b.toNat ≤ 3 ∧ x = if b = 2 then .even else if b = 3 then .odd else .none := by
  revert b
  cases x <;> decide

theorem learn?_eq_some {b : Byte} {l : Learn} : learn? b = some l ↔ (b = 0 ∧ l = .auto) ∨ (b = 1 ∧ l = .fixed) := by
  revert b
  cases l <;> decide

theorem clockedParams?_eq_some {bytes : List Byte} {p : ClockedParams} : clockedParams? bytes = some p ↔
    ∃ idle edge order polarity count sense : Byte, bytes = [idle, edge, order, polarity, count, sense] ∧
      idle.toNat ≤ 2 ∧ edge.toNat ≤ 2 ∧ order.toNat ≤ 2 ∧ polarity.toNat ≤ 2 ∧ sense.toNat ≤ 2 ∧
      1 ≤ count.toNat ∧ count.toNat ≤ 4 ∧ p =
        { idleHigh := idle == 2, sampleSecond := edge == 2, lsbFirst := order == 2, activeHigh := polarity == 2
          selectCount := count.toNat, readZero := sense == 2 } := by
  refine ⟨fun h => ?_, fun ⟨idle, edge, order, polarity, count, sense, bytes, i, e, o, a, r, least, most, params⟩ => ?_⟩
  · unfold clockedParams? at h
    split at h
    · next idle edge order polarity count sense =>
      split at h
      · next ci ce co ca cr =>
        split at h
        · next range =>
          cases h
          rw [choice?_eq_some] at ci ce co ca cr
          obtain ⟨ci, rfl⟩ := ci
          obtain ⟨ce, rfl⟩ := ce
          obtain ⟨co, rfl⟩ := co
          obtain ⟨ca, rfl⟩ := ca
          obtain ⟨cr, rfl⟩ := cr
          exact ⟨idle, edge, order, polarity, count, sense, rfl, ci, ce, co, ca, cr, range.1, range.2, rfl⟩
        · cases h
      · cases h
    · cases h
  · subst bytes params
    unfold clockedParams?
    dsimp only
    rw [choice?_eq_some.mpr ⟨i, rfl⟩, choice?_eq_some.mpr ⟨e, rfl⟩, choice?_eq_some.mpr ⟨o, rfl⟩, choice?_eq_some.mpr ⟨a, rfl⟩,
      choice?_eq_some.mpr ⟨r, rfl⟩]
    exact if_pos ⟨least, most⟩

theorem ofBe16_toNat (a b : Byte) : (ofBe16 a b).toNat = a.toNat * 256 + b.toNat := by
  have small := b.isLt
  rw [ofBe16, BitVec.toNat_append, Nat.shiftLeft_eq, Nat.mul_comm, Nat.two_pow_add_eq_or_of_lt small, Nat.mul_comm]

theorem asyncParams?_eq_some {bytes : List Byte} {p : AsyncParams} : asyncParams? bytes = some p ↔
    ∃ b1 b0 addressBit parity stops gap polarity fixed : Byte,
      bytes = [b1, b0, addressBit, parity, stops, gap, polarity, fixed] ∧ addressBit.toNat ≤ 2 ∧ parity.toNat ≤ 3 ∧
      stops.toNat ≤ 2 ∧ polarity.toNat ≤ 2 ∧ 8 ≤ b1.toNat * 256 + b0.toNat ∧ 1 ≤ gap.toNat ∧ p =
        { bitTime := b1.toNat * 256 + b0.toNat, addressBit := addressBit == 2
          parity := if parity = 2 then .even else if parity = 3 then .odd else .none
          twoStops := stops == 2, idleGap := gap.toNat, inverted := polarity == 2, fixedAddress := fixed } := by
  refine ⟨fun h => ?_, fun ⟨b1, b0, addressBit, parity, stops, gap, polarity, fixed, bytes, a, q, st, inv, least, gapped, params⟩ => ?_⟩
  · unfold asyncParams? at h
    split at h
    · next b1 b0 addressBit parity stops gap polarity fixed =>
      split at h
      · next ca cp cs ci =>
        split at h
        · next range =>
          cases h
          rw [choice?_eq_some] at ca cs ci
          rw [parity?_eq_some] at cp
          obtain ⟨ca, rfl⟩ := ca
          obtain ⟨cp, rfl⟩ := cp
          obtain ⟨cs, rfl⟩ := cs
          obtain ⟨ci, rfl⟩ := ci
          rw [ofBe16_toNat] at range ⊢
          exact ⟨b1, b0, addressBit, parity, stops, gap, polarity, fixed, rfl, ca, cp, cs, ci, range.1, range.2, rfl⟩
        · cases h
      · cases h
    · cases h
  · subst bytes params
    unfold asyncParams?
    dsimp only
    rw [choice?_eq_some.mpr ⟨a, rfl⟩, parity?_eq_some.mpr ⟨q, rfl⟩, choice?_eq_some.mpr ⟨st, rfl⟩, choice?_eq_some.mpr ⟨inv, rfl⟩]
    dsimp only
    rw [ofBe16_toNat]
    exact if_pos ⟨least, gapped⟩

theorem params?_eq_some {profile : Byte} {bytes : List Byte} {p : Params} : params? profile bytes = some p ↔
    (profile = 0 ∧ p = .none) ∨ (profile = 1 ∧ p = .twoWire) ∨ (profile = 2 ∧ ∃ q, clockedParams? bytes = some q ∧ p = .clocked q) ∨
      (profile = 3 ∧ ∃ q, asyncParams? bytes = some q ∧ p = .async q) := by
  unfold params?
  split_ifs with h0 h1 h2 h3
  · subst h0
    simp [eq_comm]
  · subst h1
    simp [eq_comm]
  · subst h2
    simp [eq_comm]
  · subst h3
    simp [eq_comm]
  · refine iff_of_false nofun ?_
    rintro (⟨e, _⟩ | ⟨e, _⟩ | ⟨e, _⟩ | ⟨e, _⟩)
    · exact h0 e
    · exact h1 e
    · exact h2 e
    · exact h3 e

/-! ### DEC_CONFIG (R67) -/

theorem decConfig_refused {decoder : Byte} (profile learn : Byte) (pairs : List (Byte × Byte)) (bytes : List Byte) (s : State)
    (h : 6 ≤ decoder.toNat) : decConfig decoder profile learn pairs bytes s = s.refuse .badParam := by
  rw [decConfig, index?_eq_none.mpr h]

section Named

variable {decoder profile learn : Byte} {pairs : List (Byte × Byte)} {bytes : List Byte} {d : Fin 6} {s : State} (named : decoder.toNat = d)
include named

theorem decConfig_running (running : s.decoders[d].state ≠ .stopped) :
    decConfig decoder profile learn pairs bytes s = s.refuse .decoderRunning := by
  rw [decConfig, index?_eq_some.mpr named]
  exact if_pos running

theorem decConfig_badParam (stopped : s.decoders[d].state = .stopped)
    (bad : params? profile bytes = none ∨ learn? learn = none ∨ bindings? pairs = none) :
    decConfig decoder profile learn pairs bytes s = s.refuse .badParam := by
  rw [decConfig, index?_eq_some.mpr named]
  refine (if_neg (not_not.mpr stopped)).trans ?_
  split
  · next p l bs params learns binds =>
    rw [params, learns, binds] at bad
    simp at bad
  · rfl

theorem decConfig_configures (stopped : s.decoders[d].state = .stopped) {p : Params} {l : Learn} {bs : List Binding}
    (params : params? profile bytes = some p) (learns : learn? learn = some l) (binds : bindings? pairs = some bs) :
    decConfig decoder profile learn pairs bytes s =
      if goodBindings p bs then (s.putDecoder d { Decoder.reset with params := p, learn := l, bindings := bs }).ok
      else s.refuse .badBinding := by
  rw [decConfig, index?_eq_some.mpr named]
  refine (if_neg (not_not.mpr stopped)).trans ?_
  rw [params, learns, binds]

end Named

/-- Settles O25: the tables of DEC_CONFIG's operands, and the outcomes of the request in the order of R67. -/
theorem decConfig_meaning : Obligations.DecConfig := by
  refine ⟨goodBindings_iff, fun p q => ⟨rfl, rfl, rfl, roles_clocked p⟩, fun profile learn bytes named p l bs => ?_,
    fun decoder profile learn named bytes s => ⟨fun h => ?_, fun d hd => ⟨fun running => ?_, fun stopped bad => ?_,
      fun stopped p l bs params learns binds => ⟨fun bad => ?_, fun good => ?_⟩⟩⟩⟩
  · intro role
    have role_eq : role = fun r => byte r.code := funext fun r => by cases r <;> rfl
    refine ⟨?_, learn?_eq_some, ?_⟩
    · rw [params?_eq_some]
      simp only [clockedParams?_eq_some, asyncParams?_eq_some]
      refine or_congr_right (or_congr_right (or_congr (and_congr_right fun _ => ?_) (and_congr_right fun _ => ?_)))
      · constructor
        · rintro ⟨_, ⟨idle, edge, order, polarity, count, sense, bytes, i, e, o, a, r, least, most, rfl⟩, rfl⟩
          exact ⟨idle, edge, order, polarity, count, sense, bytes, i, e, o, a, r, least, most, rfl⟩
        · rintro ⟨idle, edge, order, polarity, count, sense, bytes, i, e, o, a, r, least, most, rfl⟩
          exact ⟨_, ⟨idle, edge, order, polarity, count, sense, bytes, i, e, o, a, r, least, most, rfl⟩, rfl⟩
      · constructor
        · rintro ⟨_, ⟨b1, b0, ab, par, stops, gap, pol, fixed, bytes, a, q, st, inv, least, gapped, rfl⟩, rfl⟩
          exact ⟨b1, b0, ab, par, stops, gap, pol, fixed, bytes, a, q, st, inv, least, gapped, rfl⟩
        · rintro ⟨b1, b0, ab, par, stops, gap, pol, fixed, bytes, a, q, st, inv, least, gapped, rfl⟩
          exact ⟨_, ⟨b1, b0, ab, par, stops, gap, pol, fixed, bytes, a, q, st, inv, least, gapped, rfl⟩, rfl⟩
    · rw [bindings?_eq_some, role_eq]
  · exact makes_of_eq (decConfig decoder profile learn named bytes) rfl (decConfig_refused profile learn named bytes s h)
  · exact makes_of_eq (decConfig decoder profile learn named bytes) rfl (decConfig_running hd running)
  · exact makes_of_eq (decConfig decoder profile learn named bytes) rfl (decConfig_badParam hd stopped bad)
  · have refuses := (decConfig_configures hd stopped params learns binds).trans (if_neg (by rw [bad]; decide))
    exact makes_of_eq (decConfig decoder profile learn named bytes) rfl refuses
  · intro dec
    have configures := (decConfig_configures hd stopped params learns binds).trans (if_pos good)
    exact (makes_of_eq (decConfig decoder profile learn named bytes) rfl configures).some (State.putDecoder_upTo d dec s).ok

end Sys2Proof.Machine
end

section
/-! The entry to SYNCING and its end (R77, R80, R89, R97). -/

namespace Sys2Proof.Machine

/-! ### The entry -/

theorem Decoder.selectsInactive_iff (x : Decoder) (p : ClockedParams) : x.selectsInactive p = true ↔
    ∀ k : Fin 4, k < p.selectCount → x.view[(selectRole k).code] = !p.activeHigh := by
  have one : ∀ k : Fin 4, (decide (p.selectCount ≤ k.val) || x.level (selectRole k) != p.activeHigh) = true ↔
      (k < p.selectCount → x.view[(selectRole k).code] = !p.activeHigh) := fun k => by
    have level : x.level (selectRole k) = x.view[(selectRole k).code] := rfl
    rw [level, Bool.or_eq_true, decide_eq_true_eq, bne_iff_ne, ← Bool.eq_not, or_iff_not_imp_left, Nat.not_le]
  unfold Decoder.selectsInactive
  rw [List.all_eq_true]
  exact ⟨fun all k => (one k).mp (all k (List.mem_finRange k)), fun all k _ => (one k).mpr (all k)⟩

theorem Decoder.enterSyncing_twoWire {x : Decoder} (params : x.params = .twoWire) (now : Nat) :
    x.enterSyncing now = { x with state := .syncing, timer := if x.bothHigh then some (now + 12500) else none, staging := none } := by
  unfold Decoder.enterSyncing
  rw [params]
  dsimp only
  split <;> rfl

theorem Decoder.enterSyncing_clocked {x : Decoder} {p : ClockedParams} (params : x.params = .clocked p) (now : Nat) :
    x.enterSyncing now = { x with state := if x.selectsInactive p then .idle else .syncing, timer := none, staging := none } := by
  unfold Decoder.enterSyncing
  rw [params]
  dsimp only
  split <;> rfl

theorem Decoder.enterSyncing_async {x : Decoder} {p : AsyncParams} (params : x.params = .async p) (now : Nat) :
    x.enterSyncing now = { x with state := .syncing, timer := if x.logical p then some (now + p.bitTime * p.positions) else none, staging := none } := by
  unfold Decoder.enterSyncing
  rw [params]
  dsimp only
  split <;> rfl

theorem Params.kinds (p : Params) : p = .none ∨ p = .twoWire ∨ (∃ q, p = .clocked q) ∨ ∃ q, p = .async q := by
  cases p
  case none => exact Or.inl rfl
  case twoWire => exact Or.inr (Or.inl rfl)
  case clocked q => exact Or.inr (Or.inr (Or.inl ⟨q, rfl⟩))
  case async q => exact Or.inr (Or.inr (Or.inr ⟨q, rfl⟩))

/-- The entry to SYNCING changes the state, the timer and the staging. -/
theorem Decoder.enterSyncing_eq (x : Decoder) (now : Nat) :
    x.enterSyncing now = { x with state := (x.enterSyncing now).state, timer := (x.enterSyncing now).timer, staging := none } := by
  have shape : ∃ state timer, x.enterSyncing now = { x with state, timer, staging := none } := by
    rcases x.params.kinds with params | params | ⟨p, params⟩ | ⟨p, params⟩
    · refine ⟨.syncing, none, ?_⟩
      unfold Decoder.enterSyncing
      rw [params]
    · exact ⟨_, _, Decoder.enterSyncing_twoWire params now⟩
    · exact ⟨_, _, Decoder.enterSyncing_clocked params now⟩
    · exact ⟨_, _, Decoder.enterSyncing_async params now⟩
  obtain ⟨state, timer, e⟩ := shape
  rw [e]

/-! ### Edges in SYNCING -/

section Edges

variable {s : State} {d : Fin 6} {x : Decoder} {r : Role} {level : Bool} {stamp : Nat} (syncing : x.state = .syncing)
include syncing

theorem State.twoWireEdge_syncing_stop (role : r = .data) (high : level = true) (clock : x.view[0] = true) :
    UpToReports (s.withDecoder d (x.afterEnd .idle none)) ((s.withDecoder d x).twoWireEdge d r level stamp) := by
  unfold State.twoWireEdge
  rw [State.withDecoder_own]
  dsimp only
  rw [syncing, role, high, show x.level .clock = true from clock]
  exact s.putDecoder_withDecoder d x _

theorem State.twoWireEdge_syncing_other (other : r ≠ .data ∨ level = false ∨ x.view[0] = false) :
    (s.withDecoder d x).twoWireEdge d r level stamp =
      s.withDecoder d (x.twoWireSyncTimer stamp) := by
  have condition : ¬ ((r == .data && x.level .clock && level) = true) := fun h => by
    rw [Bool.and_eq_true, Bool.and_eq_true, beq_iff_eq] at h
    obtain ⟨⟨role, clock⟩, high⟩ := h
    rcases other with not | low | down
    · exact not role
    · exact absurd (low.symm.trans high) (by decide)
    · exact absurd (down.symm.trans clock) (by decide)
  unfold State.twoWireEdge
  rw [State.withDecoder_own]
  dsimp only
  rw [syncing]
  exact (if_neg condition).trans (s.putDecoder_unreported d x (x.twoWireSyncTimer stamp) rfl rfl rfl rfl)

theorem State.clockedEdge_syncing_idle {p : ClockedParams} {k : Fin 4} (role : r = selectRole k) (inactive : x.selectsInactive p = true) :
    UpToReports (s.withDecoder d (x.afterEnd .idle none)) ((s.withDecoder d x).clockedEdge d p r level stamp) := by
  unfold State.clockedEdge
  rw [role, Role.selectIndex_selectRole, State.withDecoder_own]
  dsimp only
  rw [syncing, inactive]
  exact s.putDecoder_withDecoder d x _

theorem State.clockedEdge_syncing_stays {p : ClockedParams} (stays : (∀ k : Fin 4, r ≠ selectRole k) ∨ ¬ x.selectsInactive p = true) :
    (s.withDecoder d x).clockedEdge d p r level stamp = s.withDecoder d x := by
  unfold State.clockedEdge
  rw [State.withDecoder_own]
  dsimp only
  by_cases select : ∃ k : Fin 4, r = selectRole k
  · obtain ⟨k, role⟩ := select
    rw [role, Role.selectIndex_selectRole]
    dsimp only
    rw [syncing]
    exact if_neg (stays.resolve_left fun none => none k role)
  · rw [Role.selectIndex_eq_none (not_exists.mp select), syncing]

theorem State.asyncEdge_syncing {p : AsyncParams} : (s.withDecoder d x).asyncEdge d p stamp =
    s.withDecoder d (x.asyncSyncTimer p stamp) := by
  unfold State.asyncEdge
  rw [State.withDecoder_own]
  dsimp only
  rw [syncing]
  exact s.putDecoder_unreported d x (x.asyncSyncTimer p stamp) rfl rfl rfl rfl

end Edges

theorem DecState.running_of_syncing {st : DecState} (h : st = .syncing) : st.running = true := h ▸ rfl

/-- An edge of a TWO_WIRE line in SYNCING that is no stop condition (R80). -/
theorem State.roleEdge_twoWire_syncing {s : State} {d : Fin 6} (params : s.decoders[d].params = .twoWire) (syncing : s.decoders[d].state = .syncing)
    {r : Role} {level : Bool} (stamp : Nat) (change : s.decoders[d].view[r.code] ≠ level)
    (other : r ≠ .data ∨ level = false ∨ (s.decoders[d].view.set r.code level)[0] = false) :
    s.roleEdge d stamp (r, level) = s.withDecoder d { s.decoders[d] with
      view := s.decoders[d].view.set r.code level
      timer := if (s.decoders[d].view.set r.code level)[0] && (s.decoders[d].view.set r.code level)[1] then some (stamp + 12500) else none } := by
  refine (State.roleEdge_eq stamp (DecState.running_of_syncing syncing) change).trans ?_
  rw [params]
  exact State.twoWireEdge_syncing_other (x := s.decoders[d].withLevel r level) syncing other

/-! ### The expiries (R77) -/

/-- At the timer's expiry the decoder goes to IDLE. -/
theorem State.idleAt_upTo {s : State} {d : Fin 6} {t : Nat} (timer : s.decoders[d].timer = some t) :
    UpToReports (s.withDecoder d (s.decoders[d].afterEnd .idle none)) (s.idleAt d t) := by
  unfold State.idleAt
  rw [if_pos timer]
  exact State.putDecoder_upTo d _ s

/-- An edge of the expiry's stamp has stopped the timer. -/
theorem State.idleAt_of_stopped {s : State} {d : Fin 6} {x : Decoder} (t : Nat) (stopped : x.timer = none) :
    (s.withDecoder d x).idleAt d t = s.withDecoder d x := by
  unfold State.idleAt
  rw [State.withDecoder_own, stopped]
  exact if_neg nofun

theorem State.withDecoder_self (s : State) (d : Fin 6) : s.withDecoder d s.decoders[d] = s := State.replaceDecoder_self s d

/-- At the expiry of 50 µs both lines are high in the line view (R80). -/
theorem Decoder.Ok.bothHigh {x : Decoder} (ok : x.Ok) (params : x.params = .twoWire) (syncing : x.state = .syncing) {t : Nat}
    (timer : x.timer = some t) : x.view[0] = true ∧ x.view[1] = true := by
  have may := ok.timer (by rw [timer]; rfl)
  rw [Decoder.timerMayRun_twoWire params syncing, Decoder.bothHigh, Bool.and_eq_true] at may
  exact may

/-- At the expiry of a character time the line is idle in the line view (R97). -/
theorem Decoder.Ok.lineIdle {x : Decoder} (ok : x.Ok) {p : AsyncParams} (params : x.params = .async p) (syncing : x.state = .syncing) {t : Nat}
    (timer : x.timer = some t) : x.view[8] = !p.inverted := by
  have may := ok.timer (by rw [timer]; rfl)
  rw [Decoder.timerMayRun_async params syncing] at may
  exact Bool.eq_not.mpr (bne_iff_ne.mp may)

theorem vset_of_same {α : Type} {n : Nat} {v : Vector α n} {i : Fin n} {x : α} (same : v[i] = x) : v.set i x = v := same ▸ vset_self v i

/-- The decoder after an edge of the stamp that stops the timer of TWO_WIRE in SYNCING. -/
def Decoder.lowered (x : Decoder) (clock data : Bool) : Decoder := { x with view := (x.view.set 0 clock).set 1 data, timer := none }

/-- The lines of TWO_WIRE as they are at the expiry: a line that is low then stops the timer (R77, R80). -/
theorem State.atExpiry_twoWire_low {s : State} {d : Fin 6} (params : s.decoders[d].params = .twoWire) (syncing : s.decoders[d].state = .syncing)
    (clockHigh : s.decoders[d].view[0] = true) (dataHigh : s.decoders[d].view[1] = true) {clock data : Bool} (low : clock = false ∨ data = false) (t : Nat) :
    s.atExpiry d t [(.clock, clock), (.data, data)] = (s.advance t).withDecoder d (s.decoders[d].lowered clock data) := by
  have dataEdge : ∀ (u : State) (x : Decoder), u = (s.advance t).withDecoder d x → x.params = .twoWire → x.state = .syncing → x.view[1] = true →
      u.roleEdge d t (.data, false) = (s.advance t).withDecoder d { x with view := x.view.set 1 false, timer := none } := fun u x e xp xs high => by
    subst e
    have edge := State.roleEdge_twoWire_syncing (s := (s.advance t).withDecoder d x) (d := d) (r := .data) (level := false)
      ((State.withDecoder_own _ d x).symm ▸ xp) ((State.withDecoder_own _ d x).symm ▸ xs) t
      (by rw [State.withDecoder_own]; exact fun h => absurd (high.symm.trans h) (by decide)) (Or.inr (Or.inl rfl))
    rw [State.withDecoder_own, State.withDecoder_twice] at edge
    have down : (x.view.set Role.data.code false)[1] = false := vset_same x.view (1 : Fin 9) false
    rw [down, Bool.and_false] at edge
    exact edge
  show ((s.advance t).roleEdge d t (.clock, clock)).roleEdge d t (.data, data) = _
  cases clock with
  | true =>
    obtain rfl : data = false := low.resolve_left (by decide)
    have still : (s.advance t).roleEdge d t (.clock, true) = s.advance t := State.roleEdge_ignored (Or.inr (Or.inr clockHigh))
    rw [still, dataEdge _ s.decoders[d] ((s.advance t).withDecoder_self d).symm params syncing dataHigh]
    unfold Decoder.lowered
    rw [show s.decoders[d].view.set 0 true = s.decoders[d].view from vset_of_same (i := (0 : Fin 9)) clockHigh]
  | false =>
    have falls := State.roleEdge_twoWire_syncing (s := s.advance t) (d := d) (r := .clock) (level := false) params syncing t
      (fun h => absurd (clockHigh.symm.trans h) (by decide)) (Or.inl (by decide))
    have down : (s.decoders[d].view.set Role.clock.code false)[0] = false := vset_same s.decoders[d].view (0 : Fin 9) false
    have other : (s.decoders[d].view.set Role.clock.code false)[1] = true :=
      (vset_other s.decoders[d].view false (show (0 : Fin 9) ≠ 1 by decide)).trans dataHigh
    rw [show (s.advance t).decoders = s.decoders from rfl, down, Bool.false_and] at falls
    rw [falls]
    cases data with
    | false => exact dataEdge _ _ rfl params syncing other
    | true =>
      have ignored := State.roleEdge_ignored (stamp := t) (r := .data) (level := true) (d := d)
        (s := (s.advance t).withDecoder d { s.decoders[d] with view := s.decoders[d].view.set Role.clock.code false, timer := none })
        (Or.inr (Or.inr (by rw [State.withDecoder_own]; exact other)))
      refine ignored.trans ?_
      unfold Decoder.lowered
      rw [show (s.decoders[d].view.set 0 false).set 1 true = s.decoders[d].view.set 0 false from vset_of_same (i := (1 : Fin 9)) other]
      rfl

theorem twoWireIdleExpiry_due {s : State} {d : Fin 6} {t : Nat} (clock data : Bool) (params : s.decoders[d].params = .twoWire)
    (syncing : s.decoders[d].state = .syncing) (timer : s.decoders[d].timer = some t) :
    twoWireIdleExpiry d clock data s = (s.atExpiry d t [(.clock, clock), (.data, data)]).idleAt d t := by
  unfold twoWireIdleExpiry
  dsimp only
  rw [params, syncing, timer]

theorem asyncIdleExpiry_due {s : State} {d : Fin 6} {t : Nat} {p : AsyncParams} (line : Bool) (params : s.decoders[d].params = .async p)
    (syncing : s.decoders[d].state = .syncing) (timer : s.decoders[d].timer = some t) :
    asyncIdleExpiry d line s = (s.atExpiry d t [(.line, line)]).idleAt d t := by
  unfold asyncIdleExpiry
  dsimp only
  rw [params, syncing, timer]

/-- Settles O27: the entry to SYNCING, the edges in it, and its expiries. -/
theorem syncingEnds : Obligations.SyncingEnds := by
  refine ⟨fun dec now => ?_, fun d stamp r level s => ?_, fun d clock data line s ok => ?_⟩
  · intro e
    refine ⟨dec.enterSyncing_eq now, fun params => ?_, fun p params => ⟨?_, fun inactive => ?_, fun active => ?_⟩, fun p params => ?_⟩
    · rw [show e = _ from Decoder.enterSyncing_twoWire params now]
      exact ⟨rfl, rfl⟩
    · rw [show e = _ from Decoder.enterSyncing_clocked params now]
    · rw [show e = _ from Decoder.enterSyncing_clocked params now]
      exact if_pos ((dec.selectsInactive_iff p).mpr inactive)
    · rw [show e = _ from Decoder.enterSyncing_clocked params now]
      refine if_neg fun inactive => ?_
      obtain ⟨k, used, level⟩ := active
      exact Bool.not_ne_self p.activeHigh ((((dec.selectsInactive_iff p).mp inactive) k used).symm.trans level)
    · rw [show e = _ from Decoder.enterSyncing_async params now]
      exact ⟨rfl, rfl⟩
  · intro dec seen after idle u syncing change
    have edge := State.roleEdge_eq (r := r) (level := level) stamp (DecState.running_of_syncing syncing) change
    refine ⟨fun params => ⟨fun role high clock => ?_, fun other => ?_⟩, fun p params => ⟨fun select ended => ?_, fun stays => ?_⟩,
      fun p params role => ?_⟩
    · rw [show s.decoders[d].params = .twoWire from params] at edge
      rw [show u = (s.withDecoder d seen).twoWireEdge d r level stamp from edge]
      exact State.twoWireEdge_syncing_stop (x := seen) syncing role high clock
    · rw [show s.decoders[d].params = .twoWire from params] at edge
      exact edge.trans (State.twoWireEdge_syncing_other (x := seen) syncing other)
    · rw [show s.decoders[d].params = .clocked p from params] at edge
      rw [show u = (s.withDecoder d seen).clockedEdge d p r level stamp from edge]
      obtain ⟨k, role⟩ := select
      exact State.clockedEdge_syncing_idle (x := seen) syncing role ((seen.selectsInactive_iff p).mpr ended)
    · rw [show s.decoders[d].params = .clocked p from params] at edge
      exact edge.trans (State.clockedEdge_syncing_stays (x := seen) syncing (stays.imp_right fun not ended => not ((seen.selectsInactive_iff p).mp ended)))
    · rw [show s.decoders[d].params = .async p from params] at edge
      refine edge.trans ((State.asyncEdge_syncing (x := seen) syncing).trans ?_)
      have logical : seen.logical p = (level != p.inverted) := by
        subst role
        exact congrArg (· != p.inverted) (vset_same dec.view Role.line.code level)
      unfold Decoder.asyncSyncTimer
      rw [logical]
      rfl
  · intro dec idle
    refine ⟨fun t params syncing timer => ⟨fun clockHigh dataHigh => ?_, fun low => ?_⟩, fun not => ?_,
      fun t p params syncing timer => ⟨fun idleLine => ?_, fun startLine => ?_⟩, fun not => ?_⟩
    · obtain ⟨viewClock, viewData⟩ := (ok d).bothHigh params syncing timer
      have first : (s.advance t).roleEdge d t (.clock, clock) = s.advance t :=
        State.roleEdge_ignored (Or.inr (Or.inr (viewClock.trans clockHigh.symm)))
      have second : (s.advance t).roleEdge d t (.data, data) = s.advance t :=
        State.roleEdge_ignored (Or.inr (Or.inr (viewData.trans dataHigh.symm)))
      have quiet : s.atExpiry d t [(.clock, clock), (.data, data)] = s.advance t := by
        show ((s.advance t).roleEdge d t (.clock, clock)).roleEdge d t (.data, data) = _
        rw [first, second]
      have expires := twoWireIdleExpiry_due clock data params syncing timer
      rw [quiet] at expires
      exact (makes_of_eq (twoWireIdleExpiry d clock data) rfl expires).some (State.idleAt_upTo (s := s.advance t) timer)
    · obtain ⟨viewClock, viewData⟩ := (ok d).bothHigh params syncing timer
      have expires := twoWireIdleExpiry_due clock data params syncing timer
      rw [State.atExpiry_twoWire_low params syncing viewClock viewData low, State.idleAt_of_stopped t (show (dec.lowered clock data).timer = none from rfl)] at expires
      exact makes_of_eq (twoWireIdleExpiry d clock data) rfl expires
    · refine exec_of_unchanged (twoWireIdleExpiry d clock data) rfl ?_
      unfold twoWireIdleExpiry
      dsimp only
      split
      · next params syncing timer =>
        rcases not with h | h | h
        · exact absurd params h
        · exact absurd syncing h
        · exact absurd (h.symm.trans timer) nofun
      · rfl
    · have view : dec.view[8] = line := ((ok d).lineIdle params syncing timer).trans (Bool.eq_not.mpr idleLine).symm
      have quiet : s.atExpiry d t [(.line, line)] = s.advance t := State.roleEdge_ignored (s := s.advance t) (Or.inr (Or.inr view))
      have expires := asyncIdleExpiry_due line params syncing timer
      rw [quiet] at expires
      exact (makes_of_eq (asyncIdleExpiry d line) rfl expires).some (State.idleAt_upTo (s := s.advance t) timer)
    · have view := (ok d).lineIdle params syncing timer
      have edge := State.roleEdge_eq (s := s.advance t) (d := d) (r := .line) (level := line) t (DecState.running_of_syncing syncing)
        (fun h => by rw [startLine] at h; exact absurd (h.symm.trans view) (by cases p.inverted <;> decide))
      rw [show (s.advance t).decoders[d].params = .async p from params] at edge
      have edge := edge.trans (State.asyncEdge_syncing (x := dec.withLevel .line line) syncing)
      have stopped : (dec.withLevel .line line).asyncSyncTimer p t = { dec with view := dec.view.set 8 line, timer := none } := by
        have logical : (dec.withLevel .line line).logical p = false := by
          rw [startLine]
          exact (congrArg (· != p.inverted) (vset_same dec.view Role.line.code p.inverted)).trans (by simp)
        unfold Decoder.asyncSyncTimer
        rw [logical]
        rfl
      rw [stopped] at edge
      have expires := asyncIdleExpiry_due line params syncing timer
      rw [show s.atExpiry d t [(.line, line)] = (s.advance t).roleEdge d t (.line, line) from rfl, edge, State.idleAt_of_stopped t rfl] at expires
      exact makes_of_eq (asyncIdleExpiry d line) rfl expires
    · refine exec_of_unchanged (asyncIdleExpiry d line) rfl ?_
      unfold asyncIdleExpiry
      dsimp only
      split
      · next p t params syncing timer =>
        rcases not with h | h | h
        · exact absurd params (h p)
        · exact absurd syncing h
        · exact absurd (h.symm.trans timer) nofun
      · rfl

end Sys2Proof.Machine
end

section
/-! The characters of ASYNC (R77, R98 to R102): the sample points, the break test and the judgment. -/

namespace Sys2Proof.Machine

/-! ### The judgment (R99 to R101) -/

theorem AsyncParams.parityOk_iff (p : AsyncParams) (bits : List Bool) : p.parityOk bits = true ↔ p.parity = .none ∨
    (((bits.take (if p.addressBit then 10 else 9)).count true % 2 = 0) ↔ p.parity = .even) := by
  unfold AsyncParams.parityOk AsyncParams.parityBits
  cases p.parity with
  | none => exact iff_of_true rfl (Or.inl rfl)
  | even => simp
  | odd =>
    simp only [beq_iff_eq, reduceCtorEq, false_or, iff_false]
    omega

theorem AsyncParams.stopsOk_iff (p : AsyncParams) (bits : List Bool) : p.stopsOk bits = true ↔
    ∀ b ∈ bits.drop (p.positions - 1 - (if p.twoStops then 2 else 1)), b = true := by
  unfold AsyncParams.stopsOk
  rw [List.all_eq_true]
  rfl

theorem AsyncParams.isAddress_iff (p : AsyncParams) (bits : List Bool) : p.isAddress bits = true ↔ p.addressBit = true ∧ bits[8]? = some true := by
  unfold AsyncParams.isAddress
  rw [Bool.and_eq_true, List.headD_eq_head?_getD, List.head?_drop]
  refine and_congr_right fun _ => ?_
  cases bits[8]? <;> simp

theorem Staging.asyncData_first {st : Staging} (first : st.pointerSet = none) (value : Byte) :
    st.asyncData value = { st with pointerSet := some value } := by
  unfold Staging.asyncData
  rw [first]

theorem Staging.asyncData_later {st : Staging} {ptr : Byte} (later : st.pointerSet = some ptr) (value : Byte) :
    st.asyncData value = st.takeValue value := by
  unfold Staging.asyncData
  rw [later]

section Judge

variable {s : State} {d : Fin 6} {p : AsyncParams} {start : Nat} {st : Staging}

theorem State.judge_parity (bad : ¬ p.parityOk st.bits = true) : s.judge d p start st = s.abort d .parity .idle none :=
  if_pos (Bool.not_eq_true _ ▸ bad)

theorem State.judge_framing (parity : p.parityOk st.bits = true) (bad : ¬ p.stopsOk st.bits = true) :
    s.judge d p start st = s.abort d .framing .idle none :=
  (if_neg (by rw [parity]; decide)).trans (if_pos (Bool.not_eq_true _ ▸ bad))

theorem State.judge_good (parity : p.parityOk st.bits = true) (stops : p.stopsOk st.bits = true) :
    s.judge d p start st = s.goodCharacter d p start st :=
  (if_neg (by rw [parity]; decide)).trans (if_neg (by rw [stops]; decide))

/-- The idle-gap timer is set with no report (R102). -/
theorem State.setGap_eq (s : State) (d : Fin 6) (p : AsyncParams) (start : Nat) :
    s.setGap d p start = s.withDecoder d { s.decoders[d] with timer := some (start + p.charTime + p.idleGap * p.charTime) } :=
  State.putDecoder_silent d _ s rfl rfl rfl rfl

theorem State.setStaging_eq (s : State) (d : Fin 6) (st : Staging) : s.setStaging d st = s.withDecoder d (s.decoders[d].withStaging st) :=
  State.putDecoder_silent d _ s rfl rfl rfl rfl

/-- A good character that continues the transaction: its staging, and the idle gap from its start edge. -/
theorem State.setStaging_setGap (s : State) (d : Fin 6) (p : AsyncParams) (start : Nat) (st : Staging) : (s.setStaging d st).setGap d p start =
    s.withDecoder d { s.decoders[d] with staging := some st, timer := some (start + p.charTime + p.idleGap * p.charTime) } := by
  rw [State.setGap_eq, State.setStaging_eq, State.withDecoder_own, State.withDecoder_twice]
  rfl

theorem State.goodCharacter_address (isAddress : p.isAddress st.bits = true) (fresh : st.address = none) :
    s.goodCharacter d p start st = (s.setStaging d { st.charDone with address := some (byteLsb (p.dataBits st.bits)), direction := some .write }).setGap d p start := by
  unfold State.goodCharacter
  dsimp only
  rw [if_pos isAddress, fresh]

theorem State.goodCharacter_next (isAddress : p.isAddress st.bits = true) {a : Byte} (known : st.address = some a) :
    s.goodCharacter d p start st = (s.cleanEnd d (p.samplePoint start (p.positions - 1)) .busy
      (some (Staging.addressed (byteLsb (p.dataBits st.bits))))).setGap d p start := by
  unfold State.goodCharacter
  dsimp only
  rw [if_pos isAddress, known]

theorem State.goodCharacter_data (data : ¬ p.isAddress st.bits = true) {a : Byte} (known : st.address = some a) :
    s.goodCharacter d p start st = (s.setStaging d (st.charDone.asyncData (byteLsb (p.dataBits st.bits)))).setGap d p start := by
  unfold State.goodCharacter
  dsimp only
  rw [if_neg data, known]

theorem State.goodCharacter_discard (data : ¬ p.isAddress st.bits = true) (unknown : st.address = none) :
    s.goodCharacter d p start st = s.discardCharacter d := by
  unfold State.goodCharacter
  dsimp only
  rw [if_neg data, unknown]

end Judge

/-! ### After a judgment no character is being received -/

/-- The decoder receives no character. -/
def Decoder.Silent (x : Decoder) : Prop := ∀ st, x.staging = some st → st.receiver = none

theorem Decoder.Silent.receiving {x : Decoder} (h : x.Silent) : x.receiving = none := by
  unfold Decoder.receiving
  split
  · next p st t params busy staging timer => rw [h st staging]
  · rfl

theorem State.setGap_silent {s : State} {d : Fin 6} (h : s.decoders[d].Silent) (p : AsyncParams) (start : Nat) :
    ((s.setGap d p start).decoders[d]).Silent := by
  rw [State.setGap_eq, State.withDecoder_own]
  exact h

theorem State.setStaging_silent {st : Staging} (waiting : st.receiver = none) (s : State) (d : Fin 6) :
    ((s.setStaging d st).decoders[d]).Silent := by
  rw [State.setStaging_eq, State.withDecoder_own]
  exact fun st' e => Option.some.inj e ▸ waiting

theorem State.abort_silent (s : State) (d : Fin 6) (reason : AbortReason) : ((s.abort d reason .idle none).decoders[d]).Silent := by
  unfold State.abort
  rw [State.abortTo_decoders, vset_same]
  exact nofun

theorem Staging.asyncData_receiver (st : Staging) (value : Byte) : (st.asyncData value).receiver = st.receiver := by
  unfold Staging.asyncData Staging.takeValue
  repeat' split
  all_goals rfl

/-- A judgment leaves the receiver waiting, or the decoder outside BUSY (R99). -/
theorem State.judge_silent (s : State) (d : Fin 6) (p : AsyncParams) (start : Nat) (st : Staging) :
    ((s.judge d p start st).decoders[d]).Silent := by
  by_cases parity : p.parityOk st.bits = true
  · by_cases stops : p.stopsOk st.bits = true
    · rw [State.judge_good parity stops]
      by_cases isAddress : p.isAddress st.bits = true
      · cases address : st.address with
        | none =>
          rw [State.goodCharacter_address isAddress address]
          exact State.setGap_silent (State.setStaging_silent rfl s d) p start
        | some a =>
          rw [State.goodCharacter_next isAddress address]
          refine State.setGap_silent ?_ p start
          obtain ⟨dec, ended⟩ := State.cleanEnd_own d (p.samplePoint start (p.positions - 1)) .busy
            (some (Staging.addressed (byteLsb (p.dataBits st.bits)))) s
          rw [ended]
          exact fun st' e => Option.some.inj e ▸ rfl
      · cases address : st.address with
        | none =>
          rw [State.goodCharacter_discard isAddress address, State.discardCharacter, State.putDecoder_decoders, vset_same]
          exact nofun
        | some a =>
          rw [State.goodCharacter_data isAddress address]
          exact State.setGap_silent (State.setStaging_silent (Staging.asyncData_receiver _ _) s d) p start
    · rw [State.judge_framing parity stops]
      exact s.abort_silent d .framing
  · rw [State.judge_parity parity]
    exact s.abort_silent d .parity

end Sys2Proof.Machine
end

section
/-! The sample points of ASYNC, the break test, and what the events of a character make of the decoder (R77, R98, R99). -/

namespace Sys2Proof.Machine

/-! ### The line at a sample point (R77) -/

/-- An ASYNC decoder that is receiving a character (R98). -/
structure Decoder.Receives (x : Decoder) (p : AsyncParams) (st : Staging) (rc : Receiver) (t : Nat) : Prop where
  params   : x.params = .async p
  busy     : x.state = .busy
  staging  : x.staging = some st
  receiver : st.receiver = some rc
  timer    : x.timer = some t

theorem Decoder.Receives.receiving {x : Decoder} {p : AsyncParams} {st : Staging} {rc : Receiver} {t : Nat} (h : x.Receives p st rc t) :
    x.receiving = some (p, st, rc, t) := by
  unfold Decoder.receiving
  rw [h.params, h.busy, h.staging, h.timer]
  dsimp only
  rw [h.receiver]

/-- The staging with the edge that the line's level shows, if it shows one, noted. -/
def Staging.noting (st : Staging) (rc : Receiver) (edge : Bool) : Staging := { st with receiver := some { rc with edgeSeen := rc.edgeSeen || edge } }

/-- The decoder with the line at its level of the stamp. -/
def Decoder.withLine (x : Decoder) (st : Staging) (rc : Receiver) (line : Bool) : Decoder :=
  { x with view := x.view.set 8 line, staging := some (st.noting rc (line != x.view[8])) }

/-- Another staging and another timer, with no report. -/
theorem State.putDecoder_staging (s : State) (d : Fin 6) (x : Decoder) (st : Staging) (timer : Option Nat) :
    (s.withDecoder d x).putDecoder d { x.withStaging st with timer } = s.withDecoder d { x with staging := some st, timer } :=
  s.putDecoder_unreported d x { x.withStaging st with timer } rfl rfl rfl rfl

section Sampling

variable {s : State} {d : Fin 6} {p : AsyncParams} {st : Staging} {rc : Receiver} {t : Nat} (h : s.decoders[d].Receives p st rc t) (line : Bool)
include h

theorem Decoder.Receives.withLine : (s.decoders[d].withLine st rc line).Receives p (st.noting rc (line != s.decoders[d].view[8]))
    { rc with edgeSeen := rc.edgeSeen || (line != s.decoders[d].view[8]) } t :=
  ⟨h.params, h.busy, rfl, rfl, h.timer⟩

omit h in
theorem Decoder.withLine_logical : (s.decoders[d].withLine st rc line).logical p = (line != p.inverted) :=
  congrArg (· != p.inverted) (vset_same s.decoders[d].view Role.line.code line)

/-- Before the last sample point has passed an edge of the stamp is noted (R98). -/
theorem State.atExpiry_receiving (early : st.bits.length + 1 < p.positions) :
    s.atExpiry d t [(.line, line)] = (s.advance t).withDecoder d (s.decoders[d].withLine st rc line) := by
  show (s.advance t).roleEdge d t (.line, line) = _
  by_cases same : s.decoders[d].view[8] = line
  · rw [State.roleEdge_ignored (s := s.advance t) (Or.inr (Or.inr same))]
    have still : s.decoders[d].withLine st rc line = s.decoders[d] := by
      have view : s.decoders[d].view.set 8 line = s.decoders[d].view := vset_of_same (i := (8 : Fin 9)) same
      have staging : some (st.noting rc (line != s.decoders[d].view[8])) = s.decoders[d].staging := by
        rw [h.staging, same, bne_self_eq_false]
        unfold Staging.noting
        rw [Bool.or_false, ← h.receiver]
      unfold Decoder.withLine
      rw [view, staging]
    rw [still]
    exact ((s.advance t).withDecoder_self d).symm
  · have edge := State.roleEdge_eq (s := s.advance t) (d := d) (r := .line) (level := line) t (DecState.running_of_busy h.busy) same
    rw [show (s.advance t).decoders[d].params = .async p from h.params] at edge
    have noted := edge.trans (State.asyncEdge_receiving (x := s.decoders[d].withLevel .line line) t h.busy h.staging h.receiver)
    rw [if_neg fun both => absurd both.1 (Nat.not_le.mpr early)] at noted
    have shows : (line != s.decoders[d].view[8]) = true := bne_iff_ne.mpr (Ne.symm same)
    rw [noted]
    unfold Decoder.withLine Staging.noting
    rw [shows, Bool.or_true]
    rfl

/-- An edge to the idle level during the wait for the break test has the character judged (R99). -/
theorem State.atExpiry_waiting (late : p.positions ≤ st.bits.length + 1) (low : s.decoders[d].view[8] = p.inverted) (high : line ≠ p.inverted) :
    s.atExpiry d t [(.line, line)] =
      ((s.advance t).withDecoder d { s.decoders[d] with view := s.decoders[d].view.set 8 line }).judge d p rc.start st := by
  have change : s.decoders[d].view[8] ≠ line := fun same => high (same.symm.trans low)
  have edge := State.roleEdge_eq (s := s.advance t) (d := d) (r := .line) (level := line) t (DecState.running_of_busy h.busy) change
  rw [show (s.advance t).decoders[d].params = .async p from h.params] at edge
  refine edge.trans ((State.asyncEdge_receiving (x := s.decoders[d].withLevel .line line) t h.busy h.staging h.receiver).trans (if_pos ⟨late, ?_⟩))
  exact (congrArg (· != p.inverted) (vset_same s.decoders[d].view Role.line.code line)).trans (bne_iff_ne.mpr high)

/-! ### The events (R98, R99) -/

/-- The staging with the sampled bit. -/
def Staging.sampled (st : Staging) (rc : Receiver) (p : AsyncParams) (line seen : Bool) : Staging :=
  { st with bits := st.bits ++ [line != p.inverted], receiver := some { rc with edgeSeen := rc.edgeSeen || seen } }

theorem asyncSamplePoint_early (early : st.bits.length + 2 < p.positions) : asyncSamplePoint d line s =
    (s.advance t).withDecoder d { s.decoders[d] with
      view := s.decoders[d].view.set 8 line
      staging := some (st.sampled rc p line (line != s.decoders[d].view[8]))
      timer := some (p.samplePoint rc.start (st.bits.length + 2)) } := by
  unfold asyncSamplePoint
  rw [h.receiving]
  dsimp only
  rw [if_pos early, State.atExpiry_receiving h line (by omega)]
  unfold State.takeSample
  rw [State.withDecoder_own]
  dsimp only
  rw [(Decoder.Receives.withLine h line).receiving]
  dsimp only
  rw [State.putDecoder_staging, Decoder.withLine_logical line]
  rfl

theorem asyncSamplePoint_late (late : p.positions ≤ st.bits.length + 2) : asyncSamplePoint d line s = s := by
  unfold asyncSamplePoint
  rw [h.receiving]
  exact if_neg (Nat.not_lt.mpr late)

theorem characterJudged_last (last : st.bits.length + 2 = p.positions) : characterJudged d line s =
    (let seen := rc.edgeSeen || (line != s.decoders[d].view[8])
     let sampled := fun timer : Option Nat => (s.advance t).withDecoder d { s.decoders[d] with
      view := s.decoders[d].view.set 8 line
      staging := some (st.sampled rc p line (line != s.decoders[d].view[8]))
      timer }
     if seen = true then (sampled none).judge d p rc.start (st.sampled rc p line (line != s.decoders[d].view[8]))
     else sampled (some (rc.start + p.charTime))) := by
  unfold characterJudged
  rw [h.receiving]
  dsimp only
  rw [if_pos last, State.atExpiry_receiving h line (by omega)]
  unfold State.lastSample
  rw [State.withDecoder_own]
  dsimp only
  rw [(Decoder.Receives.withLine h line).receiving]
  dsimp only
  rw [State.putDecoder_staging, State.putDecoder_staging, Decoder.withLine_logical line]
  rfl

theorem characterJudged_other (other : st.bits.length + 2 ≠ p.positions) : characterJudged d line s = s := by
  unfold characterJudged
  rw [h.receiving]
  exact if_neg other

theorem breakTimeout_eq : breakTimeout d line s =
    if p.positions ≤ st.bits.length + 1 ∧ s.decoders[d].view[8] = p.inverted then (s.atExpiry d t [(.line, line)]).breakTest d t else s := by
  unfold breakTimeout
  dsimp only
  rw [h.receiving]
  dsimp only
  refine if_congr ?_ rfl rfl
  have level : s.decoders[d].logical p = (s.decoders[d].view[8] != p.inverted) := rfl
  rw [Bool.and_eq_true, Staging.awaitsBreak_iff, level, Bool.not_eq_true', bne_eq_false_iff_eq]

/-- A line still at the start level at the timeout is a break (R99). -/
theorem breakTimeout_break (late : p.positions ≤ st.bits.length + 1) (low : s.decoders[d].view[8] = p.inverted) (still : line = p.inverted) :
    breakTimeout d line s = (s.advance t).abortToSyncing d .break t := by
  have quiet : s.atExpiry d t [(.line, line)] = s.advance t :=
    State.roleEdge_ignored (s := s.advance t) (Or.inr (Or.inr (low.trans still.symm)))
  have level : s.decoders[d].logical p = false := by
    show (s.decoders[d].view[8] != p.inverted) = false
    rw [low, bne_self_eq_false]
  rw [breakTimeout_eq h, if_pos ⟨late, low⟩, quiet]
  unfold State.breakTest
  dsimp only
  rw [show (s.advance t).decoders[d].receiving = some (p, st, rc, t) from h.receiving]
  exact if_neg (by rw [show (s.advance t).decoders[d].logical p = false from level]; decide)

theorem breakTimeout_judged (late : p.positions ≤ st.bits.length + 1) (low : s.decoders[d].view[8] = p.inverted) (high : line ≠ p.inverted) :
    breakTimeout d line s =
      ((s.advance t).withDecoder d { s.decoders[d] with view := s.decoders[d].view.set 8 line }).judge d p rc.start st := by
  rw [breakTimeout_eq h, if_pos ⟨late, low⟩, State.atExpiry_waiting h line late low high]
  unfold State.breakTest
  dsimp only
  rw [(State.judge_silent _ d p rc.start st).receiving]

end Sampling

/-- An ASYNC event at a decoder that receives no character changes nothing (log entry 10). -/
theorem asyncEvents_of_notReceiving {s : State} {d : Fin 6} (h : s.decoders[d].receiving = none) (line : Bool) :
    asyncSamplePoint d line s = s ∧ characterJudged d line s = s ∧ breakTimeout d line s = s := by
  refine ⟨?_, ?_, ?_⟩
  · unfold asyncSamplePoint
    rw [h]
  · unfold characterJudged
    rw [h]
  · unfold breakTimeout
    dsimp only
    rw [h]

theorem Decoder.receiving_eq_none {x : Decoder} (h : (∀ p, x.params ≠ .async p) ∨ x.state ≠ .busy ∨ x.timer = none ∨ x.staging = none ∨
    (∃ st, x.staging = some st ∧ st.receiver = none)) : x.receiving = none := by
  unfold Decoder.receiving
  split
  · next p st t params busy staging timer =>
    rcases h with h | h | h | h | ⟨st', e, silent⟩
    · exact absurd params (h p)
    · exact absurd busy h
    · exact absurd (h.symm.trans timer) nofun
    · exact absurd (h.symm.trans staging) nofun
    · cases e.symm.trans staging
      rw [silent]
  · rfl

/-- Settles O28: the events of a character, and its judgment. -/
theorem characters : Obligations.Characters := by
  refine ⟨fun d line s p st rc t => ?_, fun d line s => ?_, fun d s p start st ok => ?_⟩
  · intro dec n edgeSeen taken seen after low params busy staging receiver timer ok
    have h : s.decoders[d].Receives p st rc t := ⟨params, busy, staging, receiver, timer⟩
    refine ⟨fun early => ?_, fun late => ?_, fun last => ⟨fun silent => ?_, fun edge => ?_⟩, fun other => ?_, fun late isLow => ⟨fun still => ?_, fun high => ?_⟩,
      fun not => ?_⟩
    · exact makes_of_eq (asyncSamplePoint d line) rfl (asyncSamplePoint_early h line early)
    · exact exec_of_unchanged (asyncSamplePoint d line) rfl (asyncSamplePoint_late h line late)
    · exact makes_of_eq (characterJudged d line) rfl ((characterJudged_last h line last).trans (if_neg (fun e => absurd (silent.symm.trans e) (by decide))))
    · exact makes_of_eq (characterJudged d line) rfl ((characterJudged_last h line last).trans (if_pos edge))
    · exact exec_of_unchanged (characterJudged d line) rfl (characterJudged_other h line other)
    · refine (makes_of_eq (breakTimeout d line) rfl (breakTimeout_break h line late isLow still)).some ?_
      obtain ⟨frozen, within, agree⟩ := State.abortTo_upTo (s := s.advance t) ok.derived (d := d) (reason := .break) rfl (fun dec => dec.enterSyncing t) staging
      refine ⟨frozen, ⟨within.before, within.after⟩, ?_⟩
      have level : dec.logical p = false := by
        show (dec.view[8] != p.inverted) = false
        rw [isLow, bne_self_eq_false]
      have enters : (dec.countAbort .break).enterSyncing t =
          { dec with state := .syncing, staging := none, timer := none, aborted := satInc dec.aborted, lastAbort := .break } := by
        rw [Decoder.enterSyncing_countAbort, Decoder.enterSyncing_async params, level]
        rfl
      rw [show (s.advance t).decoders[d].countAbort .break = dec.countAbort .break from rfl, enters] at agree
      exact agree
    · exact makes_of_eq (breakTimeout d line) rfl (breakTimeout_judged h line late isLow high)
    · refine exec_of_unchanged (breakTimeout d line) rfl ((breakTimeout_eq h line).trans (if_neg fun both => ?_))
      exact not.elim (Nat.not_lt.mpr both.1) fun notLow => notLow both.2
  · intro dec none
    obtain ⟨sample, judged, timeout⟩ := asyncEvents_of_notReceiving (Decoder.receiving_eq_none none) line
    exact ⟨exec_of_unchanged (asyncSamplePoint d line) rfl sample, exec_of_unchanged (characterJudged d line) rfl judged,
      exec_of_unchanged (breakTimeout d line) rfl timeout⟩
  · intro dec u n value parityOk stopsOk isAddress after gap waiting failed staged params busy staging
    have fails : ∀ reason : AbortReason, reason.fromBus = true → (reason == .unanswered) = false → u = s.abort d reason .idle none → failed reason :=
      fun reason bus notUnanswered ends => by
        obtain ⟨frozen, within, agree⟩ := State.abortTo_upTo ok.derived bus (fun dec => dec.afterEnd .idle none) staging
        rw [notUnanswered] at agree
        show ∃ frozen, FreezeWithin s u frozen ∧ _
        rw [ends]
        exact ⟨frozen, within, agree⟩
    have parity : p.parityOk st.bits = true ↔ parityOk := p.parityOk_iff st.bits
    have stops : p.stopsOk st.bits = true ↔ stopsOk := p.stopsOk_iff st.bits
    have address : p.isAddress st.bits = true ↔ isAddress := p.isAddress_iff st.bits
    refine ⟨fun bad => fails .parity rfl rfl (State.judge_parity fun k => bad (parity.mp k)),
      fun good bad => fails .framing rfl rfl (State.judge_framing (parity.mpr good) fun k => bad (stops.mp k)),
      fun even high named => ?_, fun even high data => ?_⟩
    · have judged : u = s.goodCharacter d p start st := State.judge_good (parity.mpr even) (stops.mpr high)
      refine ⟨fun fresh => ?_, fun a known => ?_⟩
      · exact judged.trans ((State.goodCharacter_address (address.mpr named) fresh).trans (State.setStaging_setGap s d p start _))
      · intro next ended
        exact judged.trans ((State.goodCharacter_next (address.mpr named) known).trans (State.setGap_eq ended d p start))
    · have judged : u = s.goodCharacter d p start st := State.judge_good (parity.mpr even) (stops.mpr high)
      refine ⟨fun unknown => ?_, fun a known => ?_⟩
      · rw [judged, State.goodCharacter_discard (fun k => data (address.mp k)) unknown]
        exact State.putDecoder_upTo d _ s
      · have continues := judged.trans ((State.goodCharacter_data (fun k => data (address.mp k)) known).trans (State.setStaging_setGap s d p start _))
        refine ⟨fun first => ?_, fun ptr later => ?_⟩
        · rw [Staging.asyncData_first (st := st.charDone) first] at continues
          exact continues
        · rw [Staging.asyncData_later (st := st.charDone) later] at continues
          exact continues

end Sys2Proof.Machine
end

section
/-! The clean end of a transaction (R61, R62, R102, R110): its application, its counts, and its clean-end event at every meter. -/

namespace Sys2Proof.Machine

/-! ### A clean-end event at one meter (R110) -/

theorem MeterConfig.startsOn_iff (c : MeterConfig) (d : Fin 6) (a : Byte) : c.startsOn d a = true ↔
    c.mode = .delay ∧ c.startSource = .decoder ∧ c.sourceDecoder = d ∧ (c.sourceAddress = none ∨ c.sourceAddress = some a) := by
  unfold MeterConfig.startsOn
  rw [Bool.and_eq_true, Bool.and_eq_true, Bool.and_eq_true, beq_iff_eq, beq_iff_eq, beq_iff_eq, and_assoc, and_assoc]
  cases c.sourceAddress <;> simp

theorem State.usedPodsLive_decoder {s : State} {c : MeterConfig} (delay : c.mode = .delay) (source : c.startSource = .decoder) :
    s.usedPodsLive c = s.podLive (podOf c.channelB) := by
  unfold State.usedPodsLive MeterConfig.usedChannels
  rw [delay, source]
  exact Bool.and_true _

/-- In ARMED a start begins a measurement, but not with the last stop's stamp or while a pod is not LIVE (R104, R110). -/
theorem State.takeStart_armed {s : State} {m : Fin 8} {held : Option Nat} (armed : s.meters[m].state = .armed held) (stamp : Nat) :
    (s.takeStart m stamp).meters[m] =
      if (∀ stop, held = some stop → stop < stamp) ∧ s.usedPodsLive s.meters[m].config = true then { s.meters[m] with state := .timing stamp }
      else s.meters[m] := by
  unfold State.takeStart
  rw [armed]
  dsimp only
  by_cases starts : (∀ stop, held = some stop → stop < stamp) ∧ s.usedPodsLive s.meters[m].config = true
  · rw [if_pos starts, if_pos (by rw [Bool.and_eq_true, afterStop_iff]; exact starts), State.setMeterState_own]
  · rw [if_neg starts, if_neg fun h => starts (by rw [Bool.and_eq_true, afterStop_iff] at h; exact h)]

/-- An event after the overrange of a measurement in TIMING (R111, log entry 30). -/
theorem State.meterCleanEnd_due {s : State} {m : Fin 8} {d : Fin 6} {a : Byte} {start stamp : Nat}
    (starts : s.meters[m].config.startsOn d a = true) (timing : s.meters[m].state = .timing start) (due : start + 4294967296 ≤ stamp) :
    (s.meterCleanEnd d a stamp m).meters[m] = s.meters[m].ended (s.meters[m].record.afterOverrange s.watch.freeze)
      (if s.usedPodsLive s.meters[m].config = true then .timing stamp else .armed none) := by
  have own := s.meterResult_own m .overrange (.armed none)
  have pods : (s.overrangeEnd m).usedPodsLive s.meters[m].config = s.usedPodsLive s.meters[m].config := by
    unfold State.usedPodsLive State.podLive
    rw [State.overrangeEnd_pods]
  unfold State.meterCleanEnd
  rw [if_pos starts, State.overrangeFirst_of_due timing due]
  rw [MeterRecord.result_overrange] at own
  by_cases single : s.meters[m].config.singleShot = true
  · have off : (s.overrangeEnd m).meters[m].state = .off := by
      rw [show (s.overrangeEnd m).meters[m] = _ from own, Meter.ended_state, if_pos single]
    rw [takeStart_of_notArmed (by rw [off]; nofun), show (s.overrangeEnd m).meters[m] = _ from own]
    unfold Meter.ended
    rw [if_pos single, if_pos single]
  · have armed : (s.overrangeEnd m).meters[m].state = .armed none := by
      rw [show (s.overrangeEnd m).meters[m] = _ from own, Meter.ended_state, if_neg single]
    have config : (s.overrangeEnd m).meters[m].config = s.meters[m].config := s.meterResult_config m .overrange (.armed none)
    rw [State.takeStart_armed armed, config, pods, show (s.overrangeEnd m).meters[m] = _ from own]
    unfold Meter.ended
    rw [if_neg single, if_neg single]
    by_cases live : s.usedPodsLive s.meters[m].config = true
    · rw [if_pos ⟨nofun, live⟩, if_pos live]
    · rw [if_neg fun h => live h.2, if_neg live]

/-! ### The event at every meter -/

/-- What the events of other meters leave of a meter, and of the freeze (R148). -/
structure MeterKept (m : Fin 8) (s t : State) : Prop where
  own     : t.meters[m] = s.meters[m]
  pods    : t.pods = s.pods
  derived : s.watch.Derived → t.watch.Derived
  freeze  : s.watch.Derived → s.watch.freeze = true → t.watch.freeze = true

theorem meterKept_closed {m j : Fin 8} (other : j ≠ m) : MeterClosed j (MeterKept m) where
  refl _ := ⟨rfl, rfl, id, fun _ => id⟩
  trans _ _ _ h k := ⟨k.own.trans h.own, k.pods.trans h.pods, fun d => k.derived (h.derived d), fun d f => k.freeze (h.derived d) (h.freeze d f)⟩
  put new s := ⟨by rw [State.putMeter_meters, vset_other _ _ other], State.putMeter_pods j new s, State.putMeter_derived j new s,
    State.putMeter_freeze j new s⟩

/-- What any meter's event leaves of the freeze. -/
structure FreezeKept (s t : State) : Prop where
  derived : s.watch.Derived → t.watch.Derived
  freeze  : s.watch.Derived → s.watch.freeze = true → t.watch.freeze = true

theorem freezeKept_closed (j : Fin 8) : MeterClosed j FreezeKept where
  refl _ := ⟨id, fun _ => id⟩
  trans _ _ _ h k := ⟨fun d => k.derived (h.derived d), fun d f => k.freeze (h.derived d) (h.freeze d f)⟩
  put new s := ⟨State.putMeter_derived j new s, State.putMeter_freeze j new s⟩

/-- An event that moves one meter by the writes of that meter (R105, R107, R110, R113). -/
def MeterEvent (g : State → Fin 8 → State) : Prop := ∀ (j : Fin 8) (R : State → State → Prop), MeterClosed j R → ∀ s, R s (g s j)

theorem foldl_meterKept {g : State → Fin 8 → State} (event : MeterEvent g) {m : Fin 8} (others : List (Fin 8)) (apart : m ∉ others) (s : State) :
    MeterKept m s (others.foldl g s) := by
  induction others generalizing s with
  | nil => exact ⟨rfl, rfl, id, fun _ => id⟩
  | cons j others ih =>
    have closed := meterKept_closed (m := m) (j := j) fun same => apart (same ▸ List.mem_cons_self)
    exact closed.trans _ _ _ (event j _ closed s) (ih (fun member => apart (List.mem_cons_of_mem j member)) _)

/-- An event at one meter, the other meters' events before and after it. -/
theorem foldl_meters_at {g : State → Fin 8 → State} (event : MeterEvent g) {order : List (Fin 8)} (each : order.Nodup) {m : Fin 8} (member : m ∈ order)
    (s : State) : ∃ v, MeterKept m s v ∧ (order.foldl g s).meters[m] = (g v m).meters[m] ∧
      (v.watch.Derived → v.watch.freeze = true → (order.foldl g s).watch.freeze = true) := by
  obtain ⟨before, after, split⟩ := List.append_of_mem member
  obtain ⟨_, tail, apart⟩ := List.nodup_append.mp (split ▸ each)
  have notAfter : m ∉ after := (List.nodup_cons.mp tail).1
  have notBefore : m ∉ before := fun member => apart m member m List.mem_cons_self rfl
  have kept := foldl_meterKept event before notBefore s
  have own := event m _ (freezeKept_closed m) (before.foldl g s)
  have later := foldl_meterKept event after notAfter (g (before.foldl g s) m)
  have folds : order.foldl g s = after.foldl g (g (before.foldl g s) m) := by
    rw [split, List.foldl_append, List.foldl_cons]
  rw [folds]
  exact ⟨_, kept, later.own, fun derived frozen => later.freeze (own.derived derived) (own.freeze derived frozen)⟩

theorem meterCleanEnd_event (d : Fin 6) (a : Byte) (stamp : Nat) : MeterEvent (State.meterCleanEnd d a stamp) :=
  fun _ _ closed => closed.meterCleanEnd d a stamp

theorem State.cleanEndEvent_at (d : Fin 6) (a : Byte) (stamp : Nat) (s : State) (m : Fin 8) :
    ∃ v, MeterKept m s v ∧ (s.cleanEndEvent d a stamp).meters[m] = (v.meterCleanEnd d a stamp m).meters[m] ∧
      (v.watch.Derived → v.watch.freeze = true → (s.cleanEndEvent d a stamp).watch.freeze = true) := by
  unfold State.cleanEndEvent
  exact foldl_meters_at (meterCleanEnd_event d a stamp) (List.nodup_finRange 8) (List.mem_finRange m) s

/-! ### The clean end (R61, R62) -/

theorem Decoder.application_eq (x : Decoder) (d : Fin 6) (st : Staging) (a : Byte) (dir : Direction) : x.application d st a dir =
    { decoder := d, address := a, direction := dir, pointerSet := st.pointerSet, values := st.values, observed := st.observed
      wrap := match x.params with | .clocked _ => 128 | .none | .twoWire | .async _ => 256
      learn := x.learn } := by
  have wrap : x.params.wrap = match x.params with | .clocked _ => 128 | .none | .twoWire | .async _ => 256 := by
    cases x.params <;> rfl
  unfold Decoder.application
  rw [wrap] <;> rfl

/-- Under the freeze an application is withheld, which no derived value follows (R31). -/
theorem State.apply_freeze (a : Application) (s : State) (frozen : s.watch.freeze = true) : (s.apply a).1.watch.freeze = true := by
  unfold State.apply
  rw [if_pos frozen]
  unfold State.withhold
  split
  · exact frozen
  · split
    · exact frozen
    · dsimp only
      split
      · exact frozen
      · exact frozen

/-- The decoder after its transaction's clean end, with the application's outcome (R62, R65). -/
def Decoder.cleanEnded (x : Decoder) (o : AppOutcome) (next : DecState) (staging : Option Staging) : Decoder := (x.count o).afterEnd next staging

section CleanEnd

variable {s : State} {d : Fin 6} {st : Staging} {a : Byte} {dir : Direction} (stamp : Nat) (next : DecState) (fresh : Option Staging)
  (staging : s.decoders[d].staging = some st) (address : st.address = some a) (direction : st.direction = some dir)
include staging address direction

theorem State.cleanEnd_eq : s.cleanEnd d stamp next fresh =
    ((s.apply (s.decoders[d].application d st a dir)).1.putDecoder d
      (s.decoders[d].cleanEnded (s.apply (s.decoders[d].application d st a dir)).2 next fresh)).cleanEndEvent d a stamp := by
  unfold State.cleanEnd
  dsimp only
  rw [staging]
  dsimp only
  rw [address, direction]
  dsimp only
  rw [State.apply_decoders]
  rfl

theorem State.cleanEnd_upTo :
    UpToReports { s with
      decoders := s.decoders.set d (s.decoders[d].cleanEnded (s.apply (s.decoders[d].application d st a dir)).2 next fresh)
      store := (s.apply (s.decoders[d].application d st a dir)).1.store
      meters := (s.cleanEnd d stamp next fresh).meters
      watch := { s.watch with
        storeFull := (s.apply (s.decoders[d].application d st a dir)).1.watch.storeFull
        cellsFull := (s.apply (s.decoders[d].application d st a dir)).1.watch.cellsFull } } (s.cleanEnd d stamp next fresh) := by
  rw [State.cleanEnd_eq stamp next fresh staging address direction]
  have applied := State.apply_upTo (s.decoders[d].application d st a dir) s
  have kept := State.apply_decoders (s.decoders[d].application d st a dir) s
  generalize s.apply (s.decoders[d].application d st a dir) = r at applied kept
  have put := State.putDecoder_upTo d (s.decoders[d].cleanEnded r.2 next fresh) r.1
  rw [kept] at put
  have ended := (applied.withDecoders (s.decoders.set d (s.decoders[d].cleanEnded r.2 next fresh))).trans put
  have event := State.cleanEndEvent_upTo d a stamp (r.1.putDecoder d (s.decoders[d].cleanEnded r.2 next fresh))
  exact (ended.withMeters _).trans event

/-- A clean end at one meter: its clean-end event, in a state whose freeze is read within the clean end. -/
theorem State.cleanEnd_at (m : Fin 8) : ∃ v : State, v.meters[m] = s.meters[m] ∧ v.pods = s.pods ∧
    (s.cleanEnd d stamp next fresh).meters[m] = (v.meterCleanEnd d a stamp m).meters[m] ∧
    (NoticesOk s → FreezeWithin s (s.cleanEnd d stamp next fresh) v.watch.freeze) := by
  rw [State.cleanEnd_eq stamp next fresh staging address direction]
  have frozen := State.apply_freeze (s.decoders[d].application d st a dir) s
  have meters := State.apply_meters (s.decoders[d].application d st a dir) s
  have pods := State.apply_pods (s.decoders[d].application d st a dir) s
  have notices : NoticesOk s → NoticesOk (s.apply (s.decoders[d].application d st a dir)).1 := fun ok => ok.apply _
  generalize s.apply (s.decoders[d].application d st a dir) = r at frozen meters pods notices
  obtain ⟨v, kept, own, later⟩ := State.cleanEndEvent_at d a stamp (r.1.putDecoder d (s.decoders[d].cleanEnded r.2 next fresh)) m
  refine ⟨v, ?_, ?_, own, fun ok => ?_⟩
  · rw [kept.own, State.putDecoder_meters, meters]
  · rw [kept.pods, State.putDecoder_pods, pods]
  · have derived := State.putDecoder_derived d (s.decoders[d].cleanEnded r.2 next fresh) r.1 (notices ok).derived
    exact ⟨fun h => kept.freeze derived (State.putDecoder_freeze d _ r.1 (notices ok).derived (frozen h)), later (kept.derived derived)⟩

end CleanEnd

theorem idleGapExpiry_of_not {s : State} {d : Fin 6} (h : (∀ q, s.decoders[d].params ≠ .async q) ∨ s.decoders[d].state ≠ .busy ∨ s.decoders[d].timer = none ∨
    (∃ st, s.decoders[d].staging = some st ∧ st.receiver.isSome = true)) : idleGapExpiry d s = s := by
  unfold idleGapExpiry
  dsimp only
  split
  · next p st t params busy staging timer =>
    rcases h with h | h | h | ⟨st', e, receives⟩
    · exact absurd params (h p)
    · exact absurd busy h
    · exact absurd (h.symm.trans timer) nofun
    · cases e.symm.trans staging
      refine if_neg fun waits => ?_
      obtain ⟨rc, receives⟩ := Option.isSome_iff_exists.mp receives
      rw [receives] at waits
      cases waits
  · rfl

/-- Settles O29: a clean end's application, its counts and its event; the idle gap is one. -/
theorem cleanEnd_meaning : Obligations.CleanEnd := by
  refine ⟨fun d stamp next fresh s st a dir => ?_, fun d s p => ⟨fun t st params busy staging timer waits => ?_, fun not =>
    exec_of_unchanged (idleGapExpiry d) rfl (idleGapExpiry_of_not not)⟩⟩
  · intro dec staging address direction wrap r u
    have app : dec.application d st a dir = _ := dec.application_eq d st a dir
    refine ⟨fun m => ?_, ?_⟩
    · intro mt c waits live
      obtain ⟨v, own, pods, ends, within⟩ := State.cleanEnd_at stamp next fresh staging address direction m
      have starts : v.meters[m].config.startsOn d a = true ↔ waits := by
        rw [own]
        exact c.startsOn_iff d a
      have isLive : waits → (v.usedPodsLive v.meters[m].config = true ↔ live) := fun waiting => by
        rw [own, State.usedPodsLive_decoder waiting.1 waiting.2.1]
        unfold State.podLive
        rw [pods]
        rfl
      have unheard : v.meters[m].config.startsOn d a = false → u.meters[m] = mt := fun other => by
        refine ends.trans ?_
        unfold State.meterCleanEnd
        rw [other]
        exact own
      refine ⟨fun not => unheard (Bool.not_eq_true _ ▸ fun h => not (starts.mp h)), fun waiting => ⟨fun held armed => ?_, fun start timing due ok => ?_,
        fun notArmed notDue => ?_⟩⟩
      · intro later
        have event : u.meters[m] = if (∀ stop, held = some stop → stop < stamp) ∧ v.usedPodsLive v.meters[m].config = true then
            { v.meters[m] with state := .timing stamp } else v.meters[m] := by
          refine ends.trans ?_
          unfold State.meterCleanEnd
          rw [if_pos (starts.mpr waiting), State.overrangeFirst_of_notTiming stamp fun start timing =>
            MeterState.noConfusion ((((congrArg Meter.state own).trans armed).symm).trans timing)]
          exact State.takeStart_armed ((congrArg Meter.state own).trans armed) stamp
        rw [own] at event
        refine ⟨fun isUp after => event.trans (if_pos ⟨after, own ▸ (isLive waiting).mpr isUp⟩), fun not => event.trans (if_neg fun both => ?_)⟩
        exact not.elim (fun down => down ((isLive waiting).mp (own ▸ both.2))) fun before => before both.1
      · refine ⟨v.watch.freeze, within ok, ?_⟩
        have event := State.meterCleanEnd_due (starts.mpr waiting) ((congrArg Meter.state own).trans timing) due
        refine ends.trans (event.trans ?_)
        rw [own]
        exact congrArg (fun next => mt.ended (mt.record.afterOverrange v.watch.freeze) next) (if_congr (own ▸ isLive waiting) rfl rfl)
      · refine ends.trans ?_
        unfold State.meterCleanEnd
        rw [if_pos (starts.mpr waiting), State.overrangeFirst_of_notDue fun start timing => notDue start ((congrArg Meter.state own).symm.trans timing),
          takeStart_of_notArmed fun held armed => notArmed held ((congrArg Meter.state own).symm.trans armed)]
        exact own
    · have ended := State.cleanEnd_upTo stamp next fresh staging address direction
      rw [show s.decoders[d].application d st a dir = _ from app] at ended
      exact ended
  · have ends : idleGapExpiry d s = State.cleanEnd d t .idle none (s.advance t) := by
      unfold idleGapExpiry
      dsimp only
      rw [params, busy, staging, timer]
      dsimp only
      rw [waits]
      rfl
    exact makes_of_eq (idleGapExpiry d) rfl ends

end Sys2Proof.Machine
end

section
/-! What the store makes of an application (R28 to R36): by the freeze, the key, the learning and the room. -/

namespace Sys2Proof.Machine

section
variable {s : State} {a : Application}

/-! ### Under the freeze (R28) -/

theorem State.apply_frozen (frozen : s.watch.freeze = true) : s.apply a = (s.withhold a, .withheld) := if_pos frozen

theorem State.withhold_found {i : Fin 64} {x : Record} (found : s.store.find a.decoder a.address = some i)
    (record : s.store.slots[i].record = some x) : UpToReports { s with
      store := s.store.setRecord i { x with withheldMark := true, withheldCount := satInc x.withheldCount } } (s.withhold a) := by
  unfold State.withhold
  rw [found]
  dsimp only
  rw [record]
  dsimp only
  split
  · exact UpToReports.refl _
  · exact State.markTarget_upTo _ _

theorem State.withhold_absent (absent : s.store.find a.decoder a.address = none) : s.withhold a = s := by
  unfold State.withhold
  rw [absent]

/-! ### With no freeze (R29 to R31) -/

variable (thawed : s.watch.freeze = false)

include thawed in
theorem State.apply_found {i : Fin 64} {x : Record} (found : s.store.find a.decoder a.address = some i)
    (record : s.store.slots[i].record = some x) : s.apply a = (s.applyTo a i x, .applied) := by
  unfold State.apply
  rw [thawed, found]
  dsimp only
  rw [record]
  rfl

variable (absent : s.store.find a.decoder a.address = none)

include thawed absent

theorem State.apply_fixed (learn : a.learn = .fixed) : s.apply a = (s, .unknown) := by
  unfold State.apply
  rw [thawed, absent]
  dsimp only
  rw [learn]
  rfl

variable (learn : a.learn = .auto)

include learn

theorem State.apply_free {i : Fin 64} (free : s.store.freeSlot = some i) : s.apply a = (s.applyNew a i, .applied) := by
  unfold State.apply
  rw [thawed, absent]
  dsimp only
  rw [learn, free]
  rfl

theorem State.apply_victim (full : s.store.freeSlot = none) {i : Fin 64} (victim : s.store.victim s.clock.ms = some i) :
    s.apply a = (State.applyNew a i { s with store := s.store.vacate i }, .applied) := by
  unfold State.apply
  rw [thawed, absent]
  dsimp only
  rw [learn, full]
  dsimp only
  rw [victim]
  rfl

theorem State.apply_lost (full : s.store.freeSlot = none) (none : s.store.victim s.clock.ms = none) :
    s.apply a = (s.raiseStoreFull, .unknown) := by
  unfold State.apply
  rw [thawed, absent]
  dsimp only
  rw [learn, full]
  dsimp only
  rw [none]
  rfl

end

/-- Settles O30: what the store makes of an application, with its outcome. -/
theorem applicationOutcome : Obligations.ApplicationOutcome := by
  intro a s ok
  dsimp only
  have find : ∀ {i : Fin 64} {x : Record}, s.store.slots[i].record = some x ∧ x.decoder = a.decoder ∧ x.address = a.address →
      s.store.find a.decoder a.address = some i := fun ⟨record, decoder, address⟩ =>
    decoder ▸ address ▸ Store.find_of_record ok.keys record
  have absent : (∀ (i : Fin 64) (x : Record), ¬ (s.store.slots[i].record = some x ∧ x.decoder = a.decoder ∧ x.address = a.address)) →
      s.store.find a.decoder a.address = none := fun nowhere =>
    Store.find_none.mpr fun i x record key => nowhere i x ⟨record, key⟩
  refine ⟨fun frozen => ?_, fun thawed => ⟨fun i x held => ?_, fun nowhere => ⟨fun learn => ?_, fun learn => ⟨fun i free lowest => ?_,
    fun full => ⟨fun i victim => ?_, fun none => ?_⟩⟩⟩⟩⟩
  · rw [State.apply_frozen frozen]
    exact ⟨rfl, fun i x held => State.withhold_found (find held) held.1, fun nowhere => State.withhold_absent (absent nowhere)⟩
  · rw [State.apply_found thawed (find held) held.1]
    exact ⟨rfl, _, _, rfl, rfl, State.applyTo_upTo a i x s⟩
  · rw [State.apply_fixed thawed (absent nowhere) learn]
    exact ⟨rfl, rfl⟩
  · rw [State.apply_free thawed (absent nowhere) learn (Store.freeSlot_of_lowest free lowest)]
    exact ⟨rfl, _, _, rfl, rfl, State.applyNew_upTo a i s⟩
  · rw [State.apply_victim thawed (absent nowhere) learn (Store.freeSlot_none full) victim]
    exact ⟨rfl, _, _, rfl, rfl, State.applyNew_upTo a i { s with store := s.store.vacate i }⟩
  · rw [State.apply_lost thawed (absent nowhere) learn (Store.freeSlot_none full) none]
    exact ⟨rfl, State.derive_derived _, s.raiseStoreFull_upTo⟩

end Sys2Proof.Machine
end

section
/-! The placing of an application's values (R33 to R35, R37) and the victim of an eviction (R30). -/

namespace Sys2Proof.Machine

/-! ### Placing one value -/

section
variable {o : CellOrigin} {p : Placing} {reg v : Byte}

theorem Placing.place_existing {c : TargetCell} (there : cellAt reg p.cells = some c) : p.place o reg v = { p with
    cells := updateCell reg (fun x => { x with value := some v, origin := o, changed := x.changed || decide (c.value ≠ some v) }) p.cells
    touched := if c.value = some v then p.touched else p.touched ++ [reg] } := by
  have differs : (c.value != some v) = decide (c.value ≠ some v) := by
    by_cases same : c.value = some v <;> simp [same]
  unfold Placing.place
  rw [there]
  dsimp only
  rw [differs]
  simp only [decide_eq_true_eq, ne_eq, ite_not]

theorem Placing.place_new (absent : cellAt reg p.cells = none) (few : p.cells.length < 32) (room : 0 < p.free) :
    p.place o reg v = { p with
      cells := insertCell { register := reg, value := some v, origin := o, changed := true, expected := none } p.cells
      free := p.free - 1, touched := p.touched ++ [reg] } := by
  unfold Placing.place
  rw [absent]
  exact if_pos (by simp [canCreate, Config.recordCells, few, room])

theorem Placing.place_unplaced (absent : cellAt reg p.cells = none) (none : 32 ≤ p.cells.length ∨ p.free = 0) :
    p.place o reg v = { p with unplaced := true, poolEmpty := p.poolEmpty || decide (p.cells.length < 32) } := by
  unfold Placing.place
  rw [absent]
  refine if_neg fun can => ?_
  obtain ⟨few, room⟩ := Bool.and_eq_true_iff.mp can
  exact none.elim (Nat.not_le.mpr (of_decide_eq_true few)) fun empty => (of_decide_eq_true room).ne' empty

theorem Placing.place_other {k : Byte} (other : k ≠ reg) : cellAt k (p.place o reg v).cells = cellAt k p.cells := by
  cases there : cellAt reg p.cells with
  | some c =>
    rw [Placing.place_existing there]
    dsimp only
    rw [cellAt_update, if_neg other]
    exact fun _ => rfl
  | none =>
    by_cases room : p.cells.length < 32 ∧ 0 < p.free
    · rw [Placing.place_new there room.1 room.2]
      exact (cellAt_insert _ k p.cells there).trans (if_neg other)
    · rw [Placing.place_unplaced there (by omega)]

end

/-! ### A choice among indices in ascending order -/

/-- What a fold over the indices in ascending order makes of those before it, it makes of all. -/
theorem foldl_ascending {n : Nat} {β : Type} {Best : List (Fin n) → β → Prop} {step : β → Fin n → β}
    (each : ∀ (before : List (Fin n)) (best : β) (i : Fin n), Best before best → (∀ j ∈ before, j < i) → Best (before ++ [i]) (step best i))
    {start : β} (none : Best [] start) : Best (List.finRange n) ((List.finRange n).foldl step start) := by
  have fold : ∀ (rest before : List (Fin n)) (best : β), Best before best → (before ++ rest).Pairwise (· < ·) →
      Best (before ++ rest) (rest.foldl step best) := fun rest => by
    induction rest with
    | nil => exact fun before best h _ => (List.append_nil before).symm ▸ h
    | cons i rest ih =>
      intro before best h sorted
      have whole : before ++ [i] ++ rest = before ++ i :: rest := List.append_assoc _ _ _
      rw [← whole] at sorted ⊢
      have later : ∀ j ∈ before, j < i := fun j within =>
        (List.pairwise_append.mp (List.pairwise_append.mp sorted).1).2.2 j within i (List.mem_singleton_self i)
      exact ih _ _ (each before best i h later) sorted
  exact fold (List.finRange n) [] start none (List.pairwise_lt_finRange n)

/-! ### The victim (R30) -/

theorem Store.evictableAge_eq_some {st : Store} {now : Word} {i : Fin 64} {age : Word} : st.evictableAge now i = some age ↔
    ∃ r, st.slots[i].record = some r ∧ r.declared = false ∧ r.pinned = false ∧ r.references = 0 ∧ age = now - r.lastSeen := by
  unfold Store.evictableAge
  cases record : st.slots[i].record with
  | none => simp
  | some r =>
    simp only [Option.some.injEq, exists_eq_left', Record.evictable, Record.age, Option.ite_none_right_eq_some, Bool.and_eq_true,
      Bool.not_eq_true', beq_iff_eq, and_assoc, eq_comm (a := age)]

/-- The best of some slots: none when no slot of them is evictable, else an evictable one of the greatest age, the first of them. -/
def Store.Best (st : Store) (now : Word) (among : List (Fin 64)) : Option (Fin 64 × Word) → Prop
  | none => ∀ j ∈ among, st.evictableAge now j = none
  | some (i, age) => i ∈ among ∧ st.evictableAge now i = some age ∧ ∀ j ∈ among, ∀ b, st.evictableAge now j = some b → b < age ∨ (b = age ∧ i ≤ j)

theorem Store.Best.olderVictim {st : Store} {now : Word} {among : List (Fin 64)} {best : Option (Fin 64 × Word)}
    (h : st.Best now among best) {i : Fin 64} (later : ∀ j ∈ among, j < i) : st.Best now (among ++ [i]) (st.olderVictim now best i) := by
  have step : ∀ {best' : Option (Fin 64 × Word)}, st.olderVictim now best i = best' → st.Best now (among ++ [i]) best' := by
    unfold Store.olderVictim
    cases age : st.evictableAge now i with
    | none =>
      rintro _ rfl
      cases best with
      | none => exact fun j among' => (List.mem_append.mp among').elim (h j) fun new => List.mem_singleton.mp new ▸ age
      | some top =>
        obtain ⟨within, own, best⟩ := h
        exact ⟨List.mem_append_left _ within, own, fun j among' b older => (List.mem_append.mp among').elim (fun old => best j old b older) fun new =>
          nomatch (List.mem_singleton.mp new ▸ older).symm.trans age⟩
    | some a =>
      cases best with
      | none =>
        rintro _ rfl
        refine ⟨List.mem_append_right _ (List.mem_singleton_self i), age, fun j among' b older => (List.mem_append.mp among').elim (fun old => ?_) fun new => ?_⟩
        · exact nomatch older.symm.trans (h j old)
        · obtain rfl := List.mem_singleton.mp new
          exact Or.inr ⟨Option.some.inj (older.symm.trans age), le_rfl⟩
      | some top =>
        obtain ⟨within, own, best⟩ := h
        dsimp only
        split
        · next better =>
          rintro _ rfl
          refine ⟨List.mem_append_right _ (List.mem_singleton_self i), age, fun j among' b older => (List.mem_append.mp among').elim (fun old => Or.inl ?_) fun new => ?_⟩
          · rcases best j old b older with less | ⟨rfl, _⟩
            · exact BitVec.lt_trans less better
            · exact better
          · obtain rfl := List.mem_singleton.mp new
            exact Or.inr ⟨Option.some.inj (older.symm.trans age), le_rfl⟩
        · next not =>
          rintro _ rfl
          refine ⟨List.mem_append_left _ within, own, fun j among' b older => (List.mem_append.mp among').elim (fun old => best j old b older) fun new => ?_⟩
          obtain rfl := List.mem_singleton.mp new
          obtain rfl := Option.some.inj (older.symm.trans age)
          exact (Nat.lt_or_eq_of_le (BitVec.not_lt.mp not)).imp BitVec.lt_def.mpr fun same => ⟨BitVec.eq_of_toNat_eq same, (later _ within).le⟩
  exact step rfl

theorem Store.victim_best (st : Store) (now : Word) :
    st.Best now (List.finRange 64) ((List.finRange 64).foldl (st.olderVictim now) none) :=
  foldl_ascending (fun _ _ _ best later => best.olderVictim later) nofun

theorem Store.victim_eq_none {st : Store} {now : Word} : st.victim now = none ↔ ∀ i, st.evictableAge now i = none := by
  have best := st.victim_best now
  unfold Store.victim
  rw [Option.map_eq_none_iff]
  cases top : (List.finRange 64).foldl (st.olderVictim now) none with
  | none =>
    rw [top] at best
    exact iff_of_true rfl fun i => best i (List.mem_finRange i)
  | some top' =>
    rw [top] at best
    exact iff_of_false nofun fun h => nomatch (h _).symm.trans best.2.1

theorem Store.victim_eq_some {st : Store} {now : Word} {i : Fin 64} (h : st.victim now = some i) : ∃ age,
    st.evictableAge now i = some age ∧ ∀ j b, st.evictableAge now j = some b → b < age ∨ (b = age ∧ i ≤ j) := by
  obtain ⟨⟨i', age⟩, top, rfl⟩ := Option.map_eq_some_iff.mp h
  have best := st.victim_best now
  rw [top] at best
  exact ⟨age, best.2.1, fun j => best.2.2 j (List.mem_finRange j)⟩

/-- Settles O31: how an application places its values, and the victim of an eviction. -/
theorem placingAndVictim : Obligations.PlacingAndVictim := by
  refine ⟨fun a r free => ?_, fun o p reg v => ?_, fun o base wrap k p v vs => ⟨rfl, rfl⟩, fun st now => ?_⟩
  · have placing : ∀ b, a.base r = b → a.placing r free = match b with
        | none => { cells := r.cells, free, touched := [], unplaced := false, poolEmpty := false }
        | some b => Placing.placeAll a.direction.origin b.toNat a.wrap 0
            { cells := r.cells, free, touched := [], unplaced := false, poolEmpty := false } a.values := by
      rintro _ rfl
      rfl
    have origin : a.direction.origin = if a.direction = .write then .written else .read := by cases a.direction <;> rfl
    refine ⟨fun b set => ?_, fun b unset pointer => ?_, fun unset unpointed => placing none ?_⟩
    · rw [← origin]
      exact placing (some b) (by rw [Application.base, set]; rfl)
    · rw [← origin]
      exact placing (some b) (by rw [Application.base, unset, pointer]; rfl)
    · rw [Application.base, unset, unpointed]
      rfl
  · intro q
    refine ⟨fun k other => ?_, fun c there => ?_, fun absent few room => ?_, fun absent none => Placing.place_unplaced absent none⟩
    · exact Placing.place_other other
    · have placed : q = _ := Placing.place_existing there
      rw [placed]
      refine ⟨rfl, List.length_map _, rfl, rfl, rfl, ?_⟩
      dsimp only
      rw [cellAt_update, if_pos rfl, there]
      · rfl
      · exact fun _ => rfl
    · have placed : q = _ := Placing.place_new absent few room
      rw [placed]
      refine ⟨rfl, insertCell_length _ _, rfl, rfl, rfl, ?_⟩
      dsimp only
      rw [cellAt_insert _ reg _ absent, if_pos rfl]
  · intro evictable
    have age : ∀ {i : Fin 64} {r : Record}, evictable i r → st.evictableAge now i = some (now - r.lastSeen) :=
      fun ⟨record, declared, pinned, references⟩ => Store.evictableAge_eq_some.mpr ⟨_, record, declared, pinned, references, rfl⟩
    refine ⟨Store.victim_eq_none.trans ⟨fun none i r is => ?_, fun none i => ?_⟩, fun i victim => ?_⟩
    · exact nomatch (none i).symm.trans (age is)
    · rw [Option.eq_none_iff_forall_ne_some]
      intro a old
      obtain ⟨r, record, declared, pinned, references, _⟩ := Store.evictableAge_eq_some.mp old
      exact none i r ⟨record, declared, pinned, references⟩
    · obtain ⟨a, old, oldest⟩ := Store.victim_eq_some victim
      obtain ⟨r, record, declared, pinned, references, rfl⟩ := Store.evictableAge_eq_some.mp old
      exact ⟨r, ⟨record, declared, pinned, references⟩, fun j x is => oldest j _ (age is)⟩

end Sys2Proof.Machine
end

section
/-! The requests that read, declare and pin a record (R43, R44, R48). -/

namespace Sys2Proof.Machine

/-! ### A request on a current record -/

theorem State.withRecord_reached {h : Handle} {paramsOk : Bool} (act : Fin 64 → Record → State → State) {s : State} {i : Fin 64}
    {r : Record} (params : paramsOk = true) (slot : h.slot = byte i) (record : s.store.slots[i].record = some r)
    (gen : s.store.slots[i].gen = h.gen) : s.withRecord h paramsOk act = act i r s := by
  have reach := Store.reach_of slot record gen
  have inRange : h.slot.toNat < 64 := (Store.reach_some.mp reach).1 ▸ i.isLt
  unfold State.withRecord
  rw [if_neg (fun bad => bad.elim (fun no => nomatch no.symm.trans params) (Nat.not_le.mpr inRange)), reach]

theorem yesNo?_ok {b : Byte} (h : b = 0 ∨ b = 1) : (yesNo? b).isSome = true := by
  rcases h with rfl | rfl <;> rfl

/-! ### TGT_READ (R43, R214) -/

theorem flags_five (a b c d e : Bool) :
    flags [a, b, c, d, e] = boolByte a + 2 * boolByte b + 4 * boolByte c + 8 * boolByte d + 16 * boolByte e := by
  cases a <;> cases b <;> cases c <;> cases d <;> cases e <;> rfl

theorem flags_origin (a c d : Bool) (o : CellOrigin) : flags [a, o.code.getLsbD 0, o.code.getLsbD 1, c, d] =
    boolByte a + 2 * o.code + 8 * boolByte c + 16 * boolByte d := by
  cases a <;> cases o <;> cases c <;> cases d <;> rfl

theorem TargetCell.entry_eq (c : TargetCell) : c.entry = [c.register, c.value.getD 0,
    boolByte c.value.isSome + 2 * c.origin.code + 8 * boolByte c.changed + 16 * boolByte c.expected.isSome,
    (c.expected.map (·.value)).getD 0, (c.expected.map (·.mask)).getD 0] := by
  unfold TargetCell.entry
  rw [flags_origin]
  cases c.expected <;> rfl

theorem Record.header_eq (h : Handle) (r : Record) (returned : Nat) : r.header h returned = [h.gen, h.slot, byte r.decoder, r.address,
      boolByte r.declared + 2 * boolByte r.pinned + 4 * boolByte r.pointer.isSome + 8 * boolByte r.withheldMark
        + 16 * boolByte r.truncated, r.pointer.getD 0]
    ++ be16 r.access ++ be16 r.unanswered ++ be16 r.errors ++ be32 r.lastSeen ++ be16 r.withheldCount
    ++ [byte r.references, byte r.cells.length, byte returned] := by
  unfold Record.header
  rw [flags_five]
  rfl

/-- Settles O33: TGT_READ's answer, and the marks it clears. -/
theorem tgtRead_meaning : Obligations.TgtRead := by
  intro h first max clear s i r slot record gen least most choice shown header entry read cleared
  have params : (decide (1 ≤ max.toNat) && decide (max.toNat ≤ 32) && (yesNo? clear).isSome) = true := by
    simp only [least, most, yesNo?_ok choice, decide_true, Bool.and_self]
  have answer : s.answered .ok (r.header h (returnedCells first max r).length ++ (returnedCells first max r).flatMap TargetCell.entry) =
      read := by
    rw [Record.header_eq, funext TargetCell.entry_eq]
    rfl
  have reads := State.withRecord_reached (fun i r s => 
    let shown := returnedCells first max r
    let s1 := s.answered .ok (r.header h shown.length ++ shown.flatMap TargetCell.entry)
    if clear = 1 then
      let s2 := { s1 with store := s1.store.setRecord i (r.clearMarks shown) }
      if r.withheldMark then s2.markTarget h else s2
    else s1) params slot record gen
  refine ⟨fun keeps => makes_of_eq (tgtRead h first max clear) rfl (reads.trans ?_), fun clears =>
    makesSome_of_take (tgtRead h first max clear) rfl ?_⟩
  · dsimp only
    rw [answer, if_neg (by rw [keeps]; decide)]
  · rw [show tgtRead h first max clear s = _ from reads]
    dsimp only
    rw [answer, if_pos clears]
    split
    · exact State.markTarget_upTo h _
    · exact UpToReports.refl _

/-! ### TGT_DECLARE (R44) -/

section
variable {decoder address pinned : Byte} {s : State}

theorem tgtDeclare_refused (bad : 6 ≤ decoder.toNat ∨ 1 < pinned.toNat) : tgtDeclare decoder address pinned s = s.refuse .badParam := by
  unfold tgtDeclare
  rcases bad with decoder | pinned
  · rw [index?_eq_none.mpr decoder]
  · rw [yesNo?_eq_none pinned]
    split
    · next known => cases known
    · rfl

theorem yesNo?_eq_some {b : Byte} (h : b.toNat ≤ 1) : yesNo? b = some (b == 1) := by
  revert h b; decide

variable {d : Fin 6} (named : decoder.toNat = d) (choice : pinned.toNat ≤ 1)

include named choice

theorem tgtDeclare_exists {i : Fin 64} (found : s.store.find d address = some i) :
    tgtDeclare decoder address pinned s = s.answered .exists [s.store.slots[i].gen, byte i] := by
  unfold tgtDeclare
  rw [index?_eq_some.mpr named, yesNo?_eq_some choice]
  dsimp only
  rw [found]
  rfl

theorem tgtDeclare_full (absent : s.store.find d address = none) (full : s.store.freeSlot = none) :
    tgtDeclare decoder address pinned s = s.refuse .storeFull := by
  unfold tgtDeclare
  rw [index?_eq_some.mpr named, yesNo?_eq_some choice]
  dsimp only
  rw [absent, full]

theorem tgtDeclare_declares (absent : s.store.find d address = none) {i : Fin 64} (free : s.store.freeSlot = some i) :
    tgtDeclare decoder address pinned s = State.answered .ok [s.store.slots[i].gen, byte i]
      { s with store := s.store.setRecord i (Record.fresh d address true (pinned == 1) s.clock.ms) } := by
  unfold tgtDeclare
  rw [index?_eq_some.mpr named, yesNo?_eq_some choice]
  dsimp only
  rw [absent, free]
  rfl

end

/-- Settles O34: TGT_DECLARE and TGT_PIN. -/
theorem tgtDeclarePin : Obligations.TgtDeclarePin := by
  refine ⟨fun decoder address pinned s ok => ⟨fun bad => makes_of_eq (tgtDeclare decoder address pinned) rfl (tgtDeclare_refused bad),
    fun d named choice => ⟨fun i r record own same => ?_, fun others => ?_⟩⟩, fun h on s i r slot record gen choice => ?_⟩
  · exact makes_of_eq (tgtDeclare decoder address pinned) rfl
      (tgtDeclare_exists named choice (own ▸ same ▸ Store.find_of_record ok.keys record))
  · have absent : s.store.find d address = none :=
      Store.find_none.mpr fun i r record ⟨own, same⟩ => others i r record own same
    refine ⟨fun full => ?_, fun i free lowest => ?_⟩
    · exact makes_of_eq (tgtDeclare decoder address pinned) rfl (tgtDeclare_full named choice absent (Store.freeSlot_none full))
    · exact makes_of_eq (tgtDeclare decoder address pinned) rfl
        (tgtDeclare_declares named choice absent (Store.freeSlot_of_lowest free lowest))
  · exact makes_of_eq (tgtPin h on) rfl (State.withRecord_reached _ (yesNo?_ok choice) slot record gen)

end Sys2Proof.Machine
end

section
/-! The requests on one cell of a current record (R45 to R47). -/

namespace Sys2Proof.Machine

/-! ### One cell of a record written -/

/-- `u` is the answer that the cell at a register of the record `r` in slot `i` now is `cell`, and the pool `free`, up to reports. -/
def CellWritten (s : State) (i : Fin 64) (r : Record) (reg : Byte) (cell : Option TargetCell) (free : Nat) (u : State) : Prop :=
  ∃ cells : List TargetCell, Record.CellsOk { r with cells } ∧ (∀ k, cellAt k cells = if k = reg then cell else cellAt k r.cells) ∧
    UpToReports (State.ok { s with store := { s.store.setRecord i { r with cells } with free } }) u

theorem State.targetReport_ok (t : State) (h : Handle) (regs : List Byte) (fields : List TargetField) :
    UpToReports t.ok (t.targetReport h regs fields).ok := (t.targetReport_upTo h regs fields).ok

section
variable {s u : State} {i : Fin 64} {r : Record} {reg : Byte} (ok : r.CellsOk)

include ok

theorem CellWritten.update {c : TargetCell} (there : cellAt reg r.cells = some c) {f : TargetCell → TargetCell}
    (keeps : ∀ c, (f c).register = c.register) {free : Nat} (agree : UpToReports (s.putCells i r (updateCell reg f r.cells) free).ok u) :
    CellWritten s i r reg (some (f c)) free u := by
  refine ⟨updateCell reg f r.cells, ⟨?_, updateCell_sorted reg f keeps ok.sorted⟩, fun k => ?_, agree⟩
  · exact (List.length_map _).trans_le ok.few
  · rw [cellAt_update reg k f keeps, there]
    rfl

theorem CellWritten.insert {c : TargetCell} (absent : cellAt c.register r.cells = none) (few : r.cells.length < 32) {free : Nat}
    (agree : UpToReports (s.putCells i r (insertCell c r.cells) free).ok u) : CellWritten s i r c.register (some c) free u :=
  ⟨_, ⟨(insertCell_length c r.cells).trans_le few, insertCell_sorted ok.sorted absent⟩, fun k => cellAt_insert c k r.cells absent, agree⟩

theorem CellWritten.remove {free : Nat} (agree : UpToReports (s.putCells i r (removeCell reg r.cells) free).ok u) :
    CellWritten s i r reg none free u :=
  ⟨_, ⟨(List.length_filter_le _ _).trans ok.few, removeCell_sorted reg ok.sorted⟩, fun k => cellAt_remove reg k r.cells, agree⟩

end

/-! ### The requests on a current record -/

section
variable {h : Handle} {reg value mask : Byte} {s : State} {i : Fin 64} {r : Record}
variable (slot : h.slot = byte i) (record : s.store.slots[i].record = some r) (gen : s.store.slots[i].gen = h.gen)

section
variable (ok : r.CellsOk) {c : TargetCell} (there : cellAt reg r.cells = some c)

include slot record gen ok there

theorem tgtSetCell_existing : CellWritten s i r reg (some { c with value := some value, origin := .host }) s.store.free
    (tgtSetCell h reg value s) := by
  rw [show tgtSetCell h reg value s = _ from State.withRecord_reached _ rfl slot record gen, there]
  refine CellWritten.update ok there (f := fun c => { c with value := some value, origin := .host }) (fun _ => rfl) ?_
  dsimp only
  split
  · exact UpToReports.refl _
  · exact State.targetReport_ok _ _ _ _

theorem tgtExpect_set_existing : CellWritten s i r reg (some { c with expected := some { value, mask } }) s.store.free
    (tgtExpect h reg 1 value mask s) := by
  rw [show tgtExpect h reg 1 value mask s = _ from State.withRecord_reached _ rfl slot record gen, if_pos rfl]
  unfold expectSet
  rw [there]
  exact CellWritten.update ok there (f := fun c => { c with expected := some { value, mask } }) (fun _ => rfl) (State.targetReport_ok _ _ _ _)

theorem tgtDropCell_existing : CellWritten s i r reg none (s.store.free + 1) (tgtDropCell h reg s) := by
  rw [show tgtDropCell h reg s = _ from State.withRecord_reached _ rfl slot record gen, there]
  exact CellWritten.remove ok (State.targetReport_ok _ _ _ _)

theorem tgtExpect_clear_keeps (expects : c.expected.isSome = true) (valued : c.value.isSome = true) :
    CellWritten s i r reg (some { c with expected := none }) s.store.free (tgtExpect h reg 0 value mask s) := by
  rw [show tgtExpect h reg 0 value mask s = _ from State.withRecord_reached _ rfl slot record gen, if_neg (by decide)]
  unfold expectClear
  rw [there]
  dsimp only
  rw [if_neg (by simp [Option.isSome_iff_ne_none.mp expects]), if_neg (by simp [Option.isSome_iff_ne_none.mp valued])]
  exact CellWritten.update ok there (f := fun c => { c with expected := none }) (fun _ => rfl) (State.targetReport_ok _ _ _ _)

theorem tgtExpect_clear_removes (expects : c.expected.isSome = true) (absent : c.value = none) :
    CellWritten s i r reg none (s.store.free + 1) (tgtExpect h reg 0 value mask s) := by
  rw [show tgtExpect h reg 0 value mask s = _ from State.withRecord_reached _ rfl slot record gen, if_neg (by decide)]
  unfold expectClear
  rw [there]
  dsimp only
  rw [if_neg (by simp [Option.isSome_iff_ne_none.mp expects]), if_pos (by rw [absent]; rfl)]
  exact CellWritten.remove ok (State.targetReport_ok _ _ _ _)

omit ok in
theorem tgtExpect_clear_nothing (none : c.expected = none) : tgtExpect h reg 0 value mask s = s.refuse .nothing := by
  rw [show tgtExpect h reg 0 value mask s = _ from State.withRecord_reached _ rfl slot record gen, if_neg (by decide)]
  unfold expectClear
  rw [there]
  exact if_pos (by rw [none]; rfl)

end

section
variable (absent : cellAt reg r.cells = none)

include slot record gen absent

theorem tgtSetCell_new (ok : r.CellsOk) (few : r.cells.length < 32) (room : 0 < s.store.free) : CellWritten s i r reg
    (some { register := reg, value := some value, origin := .host, changed := false, expected := none }) (s.store.free - 1)
    (tgtSetCell h reg value s) := by
  rw [show tgtSetCell h reg value s = _ from State.withRecord_reached _ rfl slot record gen, absent]
  dsimp only
  rw [if_pos (canCreate_iff.mpr ⟨few, room⟩)]
  exact CellWritten.insert (c := { register := reg, value := some value, origin := .host, changed := false, expected := none }) ok absent few
    (State.targetReport_ok _ _ _ _)

theorem tgtExpect_set_new (ok : r.CellsOk) (few : r.cells.length < 32) (room : 0 < s.store.free) : CellWritten s i r reg
    (some { register := reg, value := none, origin := .host, changed := false, expected := some { value, mask } }) (s.store.free - 1)
    (tgtExpect h reg 1 value mask s) := by
  rw [show tgtExpect h reg 1 value mask s = _ from State.withRecord_reached _ rfl slot record gen, if_pos rfl]
  unfold expectSet
  rw [absent]
  dsimp only
  rw [if_pos (canCreate_iff.mpr ⟨few, room⟩)]
  exact CellWritten.insert (c := { register := reg, value := none, origin := .host, changed := false, expected := some { value, mask } })
    ok absent few (State.targetReport_ok _ _ _ _)

theorem tgtSetCell_full (full : ¬ (r.cells.length < 32 ∧ 0 < s.store.free)) : tgtSetCell h reg value s = s.refuse .cellsFull := by
  rw [show tgtSetCell h reg value s = _ from State.withRecord_reached _ rfl slot record gen, absent]
  exact if_neg fun can => full (canCreate_iff.mp can)

theorem tgtExpect_set_full (full : ¬ (r.cells.length < 32 ∧ 0 < s.store.free)) :
    tgtExpect h reg 1 value mask s = s.refuse .cellsFull := by
  rw [show tgtExpect h reg 1 value mask s = _ from State.withRecord_reached _ rfl slot record gen, if_pos rfl]
  unfold expectSet
  rw [absent]
  exact if_neg fun can => full (canCreate_iff.mp can)

theorem tgtExpect_clear_absent : tgtExpect h reg 0 value mask s = s.refuse .nothing := by
  rw [show tgtExpect h reg 0 value mask s = _ from State.withRecord_reached _ rfl slot record gen, if_neg (by decide)]
  unfold expectClear
  rw [absent]

theorem tgtDropCell_absent : tgtDropCell h reg s = s.refuse .nothing := by
  rw [show tgtDropCell h reg s = _ from State.withRecord_reached _ rfl slot record gen, absent]

end

end

/-- Settles O35: what TGT_SETCELL, TGT_EXPECT and TGT_DROPCELL make of one cell. -/
theorem tgtCells : Obligations.TgtCells := by
  intro h reg value mask s i r store slot record gen completes room expected old
  have ok : r.CellsOk := store.cells i r record
  refine ⟨fun c there => ⟨?_, ?_, ?_, fun none => ?_, fun expects valued => ?_, fun expects absent => ?_⟩,
    fun absent => ⟨fun ⟨few, room⟩ => ⟨?_, ?_⟩, fun full => ⟨?_, ?_⟩, ?_, ?_⟩⟩
  · exact makesSome_of_take (tgtSetCell h reg value) rfl (tgtSetCell_existing slot record gen ok there)
  · exact makesSome_of_take (tgtExpect h reg 1 value mask) rfl (tgtExpect_set_existing slot record gen ok there)
  · exact makesSome_of_take (tgtDropCell h reg) rfl (tgtDropCell_existing slot record gen ok there)
  · exact makes_of_eq (tgtExpect h reg 0 value mask) rfl (tgtExpect_clear_nothing slot record gen there none)
  · exact makesSome_of_take (tgtExpect h reg 0 value mask) rfl (tgtExpect_clear_keeps slot record gen ok there expects valued)
  · exact makesSome_of_take (tgtExpect h reg 0 value mask) rfl (tgtExpect_clear_removes slot record gen ok there expects absent)
  · exact makesSome_of_take (tgtSetCell h reg value) rfl (tgtSetCell_new slot record gen absent ok few room)
  · exact makesSome_of_take (tgtExpect h reg 1 value mask) rfl (tgtExpect_set_new slot record gen absent ok few room)
  · exact makes_of_eq (tgtSetCell h reg value) rfl (tgtSetCell_full slot record gen absent full)
  · exact makes_of_eq (tgtExpect h reg 1 value mask) rfl (tgtExpect_set_full slot record gen absent full)
  · exact makes_of_eq (tgtExpect h reg 0 value mask) rfl (tgtExpect_clear_absent slot record gen absent)
  · exact makes_of_eq (tgtDropCell h reg) rfl (tgtDropCell_absent slot record gen absent)

end Sys2Proof.Machine
end

section
/-! The retirement of a record (R40, R49): its notice at the watches and the panes. -/

namespace Sys2Proof.Machine

section
variable (h : Handle) (s : State)

/-- The state in which every watch and every pane has taken the retirement notice, and nothing is reported yet. -/
def State.noticeTaken : State :=
  { s with
    display := { s.display with panes := tab fun i => s.display.panes[i].orphan h }
    watch := { s.watch with watches := tab fun i => s.watch.watches[i].retire h } }

theorem State.retireNotice_upTo : UpToReports (s.noticeTaken h) (s.retireNotice h) := by
  have told : UpToReports (s.noticeTaken h) ((s.withPanes (tab fun i => s.display.panes[i].orphan h)).setWatches
      (tab fun i => s.watch.watches[i].retire h)) := State.setWatches_upTo _ (s.withPanes (tab fun i => s.display.panes[i].orphan h))
  unfold State.retireNotice
  dsimp only
  split
  · exact told.trans (State.deriveHighlights_upTo _)
  · exact told

theorem State.retireNotice_watch : (s.retireNotice h).watch = (s.noticeTaken h).watch.derived := by
  have told := State.setWatches_watch (tab fun i => s.watch.watches[i].retire h) (s.withPanes (tab fun i => s.display.panes[i].orphan h))
  unfold State.retireNotice
  dsimp only
  split
  · exact told
  · exact told

end

theorem Subject.names_iff_target {h : Handle} {x : Subject} : x.names h = true ↔ (∃ reg, x = .targetCell h reg) ∨ ∃ f, x = .targetField h f := by
  cases x <;> simp [Subject.names]

theorem PaneSubject.shows_iff_target {h : Handle} {x : PaneSubject} : x.shows h = true ↔ ∃ first count, x = .target h first count := by
  cases x <;> simp [PaneSubject.shows]

theorem Store.vacate_of_record {st : Store} {i : Fin 64} {r : Record} (record : st.slots[i].record = some r) : st.vacate i =
    { slots := st.slots.set i { gen := st.slots[i].gen + 1, record := none }, free := st.free + r.cells.length } := by
  unfold Store.vacate
  rw [record]

/-- Settles O36: what TGT_RETIRE refuses, and the retirement with its notice. -/
theorem tgtRetire_meaning : Obligations.TgtRetire := by
  intro h force s i r slot record gen choice names bound
  have retires : tgtRetire h force s = if 0 < r.references ∧ force = 0 then s.refuse .inUse else (s.retire i).ok :=
    State.withRecord_reached _ (yesNo?_ok choice) slot record gen
  have own : s.store.handle i = h := by
    unfold Store.handle
    rw [gen, ← slot]
  refine ⟨fun held gentle => makes_of_eq (tgtRetire h force) rfl (retires.trans (if_pos ⟨held, gentle⟩)), fun free =>
    (makes_of_eq (tgtRetire h force) rfl (retires.trans (if_neg fun both => ?_))).some ?_⟩
  · exact free.elim both.1.ne' fun forced => absurd (forced.symm.trans both.2) (by decide)
  · have notice := s.retireNotice_upTo h
    have watch := s.retireNotice_watch h
    unfold State.retire
    rw [own]
    have watches : ∀ j : Fin 32, (s.retireNotice h).watch.watches[j] = s.watch.watches[j].retire h := fun j => by
      rw [watch]
      exact tab_get _ j
    have orphaned : ∀ j : Fin 16, (s.noticeTaken h).display.panes[j] = s.display.panes[j].orphan h := fun j => tab_get _ j
    refine ⟨watch ▸ WatchUnit.derived_derived _, fun j => ⟨fun active named => ?_, fun not => ?_⟩, fun j => ⟨fun is => ?_, fun not => ?_, fun quiet => ?_⟩,
      ?_⟩
    · exact (watches j).trans (if_pos (by rw [active, Subject.names_iff_target.mpr named]; rfl))
    · refine (watches j).trans (if_neg fun both => ?_)
      obtain ⟨active, named⟩ := Bool.and_eq_true_iff.mp both
      exact not.elim (fun no => nomatch no.symm.trans active) fun no => no (Subject.names_iff_target.mp named)
    · have gone : s.display.panes[j].orphan h = { s.display.panes[j] with state := .orphaned, highlight := false, stale := true } :=
        if_pos ⟨is.1, PaneSubject.shows_iff_target.mpr is.2⟩
      have kept := notice.quietPanes j (by rw [orphaned, gone]; exact nofun)
      rw [orphaned, gone] at kept
      exact kept
    · have same : s.display.panes[j].orphan h = s.display.panes[j] := if_neg fun is => not ⟨is.1, PaneSubject.shows_iff_target.mp is.2⟩
      have kept := notice.panes j
      rw [orphaned, same] at kept
      exact kept
    · have same : s.display.panes[j].orphan h = s.display.panes[j] := if_neg fun is => quiet is.1
      have kept := notice.quietPanes j (by rw [orphaned, same]; exact quiet)
      rw [orphaned, same] at kept
      exact kept
    · have answered : (s.retireNotice h).ok.port = s.ok.port := by
        unfold State.ok State.answered
        rw [notice.port]
        rfl
      refine ⟨answered, notice.clock, notice.pins, notice.pods, notice.channels, notice.decoders, notice.meters, notice.panel,
        notice.backlight, notice.pending, notice.grid, notice.nextTick, notice.interval, notice.podFault, notice.podChange, notice.panelLost,
        notice.storeFull, notice.cellsFull, notice.attention, notice.level, notice.hold, ?_⟩
      have store : (s.retireNotice h).store = s.store := notice.store
      rw [← Store.vacate_of_record record, ← store]
      rfl

end Sys2Proof.Machine
end

section
/-! The meter's configuration bytes and MTR_CONFIG (R103, R118, R217). -/

namespace Sys2Proof.Machine

/-! ### The table of the bytes (R217) -/

theorem index?_eq_byte {n : Nat} (small : n ≤ 256) {b : Byte} {i : Fin n} : index? n b = some i ↔ b = byte i := by
  rw [index?_eq_some, ← BitVec.toNat_inj, byte_toNat_of_lt (i.isLt.trans_le small)]

theorem meterMode?_eq_some {b : Byte} {x : MeterMode} : meterMode? b = some x ↔ (b = 0 ∧ x = .period) ∨ (b = 1 ∧ x = .high) ∨
    (b = 2 ∧ x = .low) ∨ (b = 3 ∧ x = .delay) ∨ (b = 4 ∧ x = .gate) ∨ (b = 5 ∧ x = .count) := by
  revert b
  cases x <;> decide

theorem edgeSelect?_eq_some {b : Byte} {x : EdgeSelect} : edgeSelect? b = some x ↔
    (b = 0 ∧ x = .rising) ∨ (b = 1 ∧ x = .falling) ∨ (b = 2 ∧ x = .either) := by
  revert b
  cases x <;> decide

theorem startSource?_eq_some {b : Byte} {x : StartSource} : startSource? b = some x ↔
    (b = 0 ∧ x = .channelA) ∨ (b = 1 ∧ x = .decoder) := by
  revert b
  cases x <;> decide

theorem yesNo?_eq_boolByte {b : Byte} {x : Bool} : yesNo? b = some x ↔ b = boolByte x := by
  revert b
  cases x <;> decide

theorem sourceAddress?_eq_some {h : Half} {x : Option Byte} : sourceAddress? h = some x ↔
    (h = 0xFFFF ∧ x = none) ∨ ∃ a : Byte, h = a.setWidth 16 ∧ x = some a := by
  have narrow : ∀ a : Byte, (a.setWidth 16 : Half) ≠ 0xFFFF := by decide
  unfold sourceAddress?
  split_ifs with any small
  · constructor
    · intro e
      exact Or.inl ⟨any, (Option.some.inj e).symm⟩
    · rintro (⟨_, rfl⟩ | ⟨a, rfl, _⟩)
      · rfl
      · exact absurd any (narrow a)
  · have own : h = (byte h.toNat).setWidth 16 := by
      apply BitVec.eq_of_toNat_eq
      rw [BitVec.toNat_setWidth, byte_toNat_of_lt small, Nat.mod_eq_of_lt h.isLt]
    constructor
    · intro e
      exact Or.inr ⟨_, own, (Option.some.inj e).symm⟩
    · rintro (⟨e, _⟩ | ⟨a, e, rfl⟩)
      · exact absurd e any
      · have back : byte h.toNat = a := by
          apply BitVec.eq_of_toNat_eq
          rw [byte_toNat_of_lt small, e, BitVec.toNat_setWidth]
          exact Nat.mod_eq_of_lt (by have := a.isLt; omega)
        rw [back]
  · refine iff_of_false nofun ?_
    rintro (⟨e, _⟩ | ⟨a, rfl, _⟩)
    · exact any e
    · exact small (by rw [BitVec.toNat_setWidth]; have := a.isLt; omega)

theorem meterConfig?_eq_some {b : MeterBytes} {c : MeterConfig} : meterConfig? b = some c ↔
    meterMode? b.mode = some c.mode ∧ index? 32 b.channelA = some c.channelA ∧ index? 32 b.channelB = some c.channelB ∧
      edgeSelect? b.startEdge = some c.startEdge ∧ edgeSelect? b.stopEdge = some c.stopEdge ∧ startSource? b.startSource = some c.startSource ∧
      index? 6 b.sourceDecoder = some c.sourceDecoder ∧ sourceAddress? b.sourceAddress = some c.sourceAddress ∧ index? 8 b.gate = some c.gate ∧
      b.window.toNat = c.window ∧ 1 ≤ c.window ∧ c.window ≤ 1000000 ∧ yesNo? b.singleShot = some c.singleShot := by
  refine ⟨fun h => ?_, fun ⟨mode, channelA, channelB, startEdge, stopEdge, source, decoder, address, gate, window, least, most, single⟩ => ?_⟩
  · unfold meterConfig? at h
    split at h
    · next mode channelA channelB startEdge stopEdge source decoder address gate single =>
      split at h
      · next range =>
        cases h
        exact ⟨mode, channelA, channelB, startEdge, stopEdge, source, decoder, address, gate, rfl, range.1, range.2, single⟩
      · cases h
    · cases h
  · unfold meterConfig?
    rw [mode, channelA, channelB, startEdge, stopEdge, source, decoder, address, gate, single]
    dsimp only
    rw [window, if_pos ⟨least, most⟩]

/-! ### MTR_CONFIG (R118) -/

theorem State.gatesFollower_iff {s : State} {m : Fin 8} : s.gatesFollower m = true ↔
    ∃ f : Fin 8, s.meters[f].config.mode = .count ∧ s.meters[f].config.gate = m ∧ s.meters[f].state ≠ .off := by
  unfold State.gatesFollower State.follows
  simp only [List.any_eq_true, List.mem_finRange, true_and, Bool.and_eq_true, beq_iff_eq, bne_iff_ne, and_assoc]

theorem mtrConfig_refused {meter : Byte} (b : MeterBytes) (s : State) (h : 8 ≤ meter.toNat) : mtrConfig meter b s = s.refuse .badParam := by
  rw [mtrConfig, index?_eq_none.mpr h]

section
variable {meter : Byte} {b : MeterBytes} {m : Fin 8} {s : State} (named : meter.toNat = m)
include named

theorem mtrConfig_running (running : s.meters[m].state ≠ .off) : mtrConfig meter b s = s.refuse .meterRunning := by
  rw [mtrConfig, index?_eq_some.mpr named]
  exact if_pos running

variable (off : s.meters[m].state = .off)
include off

theorem mtrConfig_badParam (bad : meterConfig? b = none) : mtrConfig meter b s = s.refuse .badParam := by
  rw [mtrConfig, index?_eq_some.mpr named]
  refine (if_neg (not_not.mpr off)).trans ?_
  rw [bad]

theorem mtrConfig_configures {c : MeterConfig} (config : meterConfig? b = some c) : mtrConfig meter b s =
    if c.mode = .count ∧ m ≤ c.gate then s.refuse .badGate
    else if c.mode ≠ .gate ∧ s.gatesFollower m = true then s.refuse .gateInUse
    else (s.putMeter m { config := c, state := .off, record := MeterRecord.cleared }).ok := by
  rw [mtrConfig, index?_eq_some.mpr named]
  refine (if_neg (not_not.mpr off)).trans ?_
  rw [config]

end

/-- Settles O37: the table of a meter's configuration bytes, and MTR_CONFIG's outcomes in the order of R118. -/
theorem mtrConfig_meaning : Obligations.MtrConfig := by
  refine ⟨fun b c => ?_, fun meter b s => ⟨fun h => ?_, fun m named => ⟨fun running => ?_, fun off bad => ?_,
    fun off c config => ⟨fun count late => ?_, fun gated other gates => ?_, fun gated free => ?_⟩⟩⟩⟩
  · rw [meterConfig?_eq_some]
    simp only [meterMode?_eq_some, index?_eq_byte (by decide : 32 ≤ 256), index?_eq_byte (by decide : 6 ≤ 256), index?_eq_byte (by decide : 8 ≤ 256),
      edgeSelect?_eq_some, startSource?_eq_some, yesNo?_eq_boolByte, sourceAddress?_eq_some]
  · exact makes_of_eq (mtrConfig meter b) rfl (mtrConfig_refused b s h)
  · exact makes_of_eq (mtrConfig meter b) rfl (mtrConfig_running named running)
  · exact makes_of_eq (mtrConfig meter b) rfl (mtrConfig_badParam named off bad)
  · exact makes_of_eq (mtrConfig meter b) rfl ((mtrConfig_configures named off config).trans (if_pos ⟨count, late⟩))
  · have notLate : ¬ (c.mode = .count ∧ m ≤ c.gate) := fun both => gated.elim (fun no => no both.1) both.2.not_gt
    have refuses := (mtrConfig_configures named off config).trans (if_neg notLate)
    exact makes_of_eq (mtrConfig meter b) rfl (refuses.trans (if_pos ⟨other, State.gatesFollower_iff.mpr gates⟩))
  · have notLate : ¬ (c.mode = .count ∧ m ≤ c.gate) := fun both => gated.elim (fun no => no both.1) both.2.not_gt
    have notUsed : ¬ (c.mode ≠ .gate ∧ s.gatesFollower m = true) := fun both =>
      free.elim both.1 fun none => none (State.gatesFollower_iff.mp both.2)
    have configures := ((mtrConfig_configures named off config).trans (if_neg notLate)).trans (if_neg notUsed)
    exact (makes_of_eq (mtrConfig meter b) rfl configures).some (State.putMeter_upTo m _ s).ok

end Sys2Proof.Machine
end

section
/-! The meters' own timers: the overrange and the end of a gate's window (R111 to R113). -/

namespace Sys2Proof.Machine

/-! ### A window end at one follower (R113) -/

theorem followerEnd_event (g : Fin 8) (stamp : Nat) (reopens : Bool) : MeterEvent (State.followerEnd g stamp reopens) :=
  fun _ _ closed => closed.followerEnd g stamp reopens

theorem State.followerEnd_upTo (g : Fin 8) (stamp : Nat) (reopens : Bool) (s : State) (f : Fin 8) :
    UpToReports { s with meters := (s.followerEnd g stamp reopens f).meters } (s.followerEnd g stamp reopens f) := by
  unfold State.followerEnd
  split
  · split
    · exact State.meterResult_upTo _ _ _ s
    · split
      · rw [State.followerOpen_eq]
        exact UpToReports.refl _
      · exact UpToReports.refl s
    · exact UpToReports.refl s
  · exact UpToReports.refl s

section
variable {s : State} {g f : Fin 8} (stamp : Nat) (reopens : Bool)

theorem State.followerEnd_other (other : s.follows g f = false) : s.followerEnd g stamp reopens f = s :=
  if_neg (by rw [other]; decide)

variable (follows : s.follows g f = true)
include follows

theorem State.followerEnd_counting {openAt edges : Nat} {held : Option Nat} (counts : s.meters[f].state = .counting openAt edges held) :
    (s.followerEnd g stamp reopens f).meters[f] =
      s.meters[f].ended (s.meters[f].record.afterValue s.watch.freeze (BitVec.ofNat 32 edges))
        (if reopens then counting stamp held else .armed held) := by
  unfold State.followerEnd
  rw [if_pos follows, counts]
  dsimp only
  rw [State.meterResult_own, MeterRecord.result_valid]
  rfl

theorem State.followerEnd_armed {held : Option Nat} (armed : s.meters[f].state = .armed held) :
    (s.followerEnd g stamp reopens f).meters[f] = if reopens then { s.meters[f] with
      state := if s.countReady f then counting stamp held else .armed none } else s.meters[f] := by
  unfold State.followerEnd
  rw [if_pos follows, armed]
  dsimp only
  cases reopens
  · rfl
  · rw [if_pos rfl, if_pos rfl, State.followerOpen_eq]
    dsimp only
    rw [vset_same]
    unfold Meter.afterOpen
    rw [if_pos (show (s.meters[f].config.mode == .count && s.meters[f].config.gate == g) = true from follows), armed]
    rfl

theorem State.followerEnd_idle (notArmed : ∀ held, s.meters[f].state ≠ .armed held)
    (notCounting : ∀ openAt edges held, s.meters[f].state ≠ .counting openAt edges held) : s.followerEnd g stamp reopens f = s := by
  unfold State.followerEnd
  rw [if_pos follows]
  split
  · next counts => exact absurd counts (notCounting _ _ _)
  · next armed => exact absurd armed (notArmed _)
  · rfl

end

/-! ### The window's end (R112) -/

theorem meterOrder_nodup {order : List (Fin 8)} (each : order.Nodup) : (meterOrder order).Nodup := by
  refine List.nodup_append.mpr ⟨each, (List.nodup_finRange 8).filter _, fun a named b other same => ?_⟩
  obtain ⟨_, apart⟩ := List.mem_filter.mp other
  exact absurd (same ▸ named) (by simpa using apart)

section
variable {s : State} {g : Fin 8} {openAt : Nat} {order : List (Fin 8)} (each : order.Nodup)

/-- The stamp of the end of a gate's window (R112). -/
def State.windowEnd (s : State) (g : Fin 8) (openAt : Nat) : Nat := openAt + s.meters[g].config.window * 250

include each in
/-- What the window end finds at a meter, after the gate's result and the other meters' events. -/
theorem State.expireWindow_at (f : Fin 8) : ∃ v : State,
    v.meters[f] = ((s.advance (s.windowEnd g openAt)).meterResult g (.valid (BitVec.ofNat 32 (s.meters[g].config.window * 250)))
      (.windowOpen (s.windowEnd g openAt))).meters[f] ∧ v.pods = s.pods ∧
    (s.expireWindow g openAt order).meters[f] =
      (v.followerEnd g (s.windowEnd g openAt) (!s.meters[g].config.singleShot) f).meters[f] ∧
    (NoticesOk s → FreezeWithin s (s.expireWindow g openAt order) v.watch.freeze) := by
  have own := freezeKept_closed g
  have kept := own.result (.valid (BitVec.ofNat 32 (s.meters[g].config.window * 250))) (.windowOpen (s.windowEnd g openAt))
    (s.advance (s.windowEnd g openAt))
  have pods := State.meterResult_pods g (.valid (BitVec.ofNat 32 (s.meters[g].config.window * 250))) (.windowOpen (s.windowEnd g openAt))
    (s.advance (s.windowEnd g openAt))
  have expires : s.expireWindow g openAt order = (meterOrder order).foldl
      (State.followerEnd g (s.windowEnd g openAt) (!s.meters[g].config.singleShot))
      ((s.advance (s.windowEnd g openAt)).meterResult g (.valid (BitVec.ofNat 32 (s.meters[g].config.window * 250)))
        (.windowOpen (s.windowEnd g openAt))) := rfl
  rw [expires]
  generalize (s.advance (s.windowEnd g openAt)).meterResult g _ _ = t at kept pods
  obtain ⟨v, others, event, after⟩ := foldl_meters_at (followerEnd_event g (s.windowEnd g openAt) (!s.meters[g].config.singleShot))
    (meterOrder_nodup each) (mem_meterOrder order f) t
  refine ⟨v, others.own, others.pods.trans pods, event, fun ok => ⟨fun frozen => ?_, after (others.derived (kept.derived ok.derived))⟩⟩
  exact others.freeze (kept.derived ok.derived) (kept.freeze ok.derived frozen)

theorem State.expireWindow_upTo : UpToReports { s.advance (s.windowEnd g openAt) with meters := (s.expireWindow g openAt order).meters }
    (s.expireWindow g openAt order) := by
  unfold State.expireWindow
  have result := State.meterResult_upTo g (.valid (BitVec.ofNat 32 s.meters[g].config.windowLength))
    (.windowOpen (openAt + s.meters[g].config.windowLength)) (s.advance (openAt + s.meters[g].config.windowLength))
  refine result.thenMeters (fold_closed (R := fun s t => UpToReports { s with meters := t.meters } t) (fun s => UpToReports.refl s)
    (fun _ _ _ h k => h.thenMeters k) _ (fun s m => State.followerEnd_upTo _ _ _ s m) _ _)

end

/-- The window end at the gate itself: its result, and the next window. -/
theorem State.expireWindow_own {s : State} {g : Fin 8} (openAt : Nat) {order : List (Fin 8)} (each : order.Nodup)
    (gate : s.meters[g].config.mode = .gate) : (s.expireWindow g openAt order).meters[g] =
      s.meters[g].ended (s.meters[g].record.afterValue s.watch.freeze (BitVec.ofNat 32 (s.meters[g].config.window * 250)))
        (.windowOpen (s.windowEnd g openAt)) := by
  obtain ⟨v, own, _, event, _⟩ := s.expireWindow_at (g := g) (openAt := openAt) each g
  rw [State.meterResult_own, MeterRecord.result_valid] at own
  have config : v.meters[g].config = s.meters[g].config := (congrArg Meter.config own).trans rfl
  have apart : v.follows g g = false := by
    unfold State.follows
    rw [config, gate]
    rfl
  rw [event, State.followerEnd_other _ _ apart]
  exact own

/-- The window end at another meter, which the gate's result leaves as it was. -/
theorem State.expireWindow_other {s : State} {g f : Fin 8} (openAt : Nat) {order : List (Fin 8)} (each : order.Nodup) (other : f ≠ g) :
    ∃ v : State, v.meters[f] = s.meters[f] ∧ v.follows g f = s.follows g f ∧ v.countReady f = s.countReady f ∧
      (s.expireWindow g openAt order).meters[f] = (v.followerEnd g (s.windowEnd g openAt) (!s.meters[g].config.singleShot) f).meters[f] ∧
      (NoticesOk s → FreezeWithin s (s.expireWindow g openAt order) v.watch.freeze) := by
  obtain ⟨v, own, pods, event, freeze⟩ := s.expireWindow_at (g := g) (openAt := openAt) each f
  rw [(State.meterResult_ended _ g _ _).meters, vset_other _ _ (Ne.symm other)] at own
  refine ⟨v, own, ?_, ?_, event, freeze⟩
  · unfold State.follows
    rw [own]
    rfl
  · unfold State.countReady State.podLive
    rw [own, pods]
    rfl

/-- Settles O39: OVERRANGE and WINDOW_EXPIRY. -/
theorem meterTimers : Obligations.MeterTimers := by
  intro m order s ok each mt
  refine ⟨fun start timing => ?_, fun not => ?_, fun openAt isOpen gate => ?_, fun not => ?_⟩
  · have ends : overrange m s = (s.advance (start + 4294967296)).overrangeEnd m := by
      unfold overrange
      rw [show s.meters[m].state = _ from timing]
      rfl
    have result := (s.advance (start + 4294967296)).meterResult_ended m .overrange (.armed none)
    rw [MeterRecord.result_overrange] at result
    exact (makes_of_eq (overrange m) rfl ends).some result
  · refine exec_of_unchanged (overrange m) rfl ?_
    unfold overrange
    split
    · next timing => exact absurd timing (not _)
    · rfl
  · intro length stamp reopens
    have expires : windowExpiry m order s = s.expireWindow m openAt order := by
      unfold windowExpiry
      rw [show s.meters[m].state = _ from isOpen]
    refine (makes_of_eq (windowExpiry m order) rfl expires).some ⟨State.expireWindow_own openAt each gate, fun f other => ?_,
      State.expireWindow_upTo⟩
    obtain ⟨v, own, follow, ready, event, freeze⟩ := State.expireWindow_other (s := s) openAt each other
    have state := congrArg Meter.state own
    refine ⟨fun follows => ⟨fun at' edges held counts => ⟨v.watch.freeze, freeze ok, ?_⟩, fun held armed => ?_, fun notArmed notCounting => ?_⟩,
      fun apart => ?_⟩
    · refine event.trans ((State.followerEnd_counting _ _ (follow.trans follows) (state.trans counts)).trans ?_)
      rw [own]
      refine congrArg (s.meters[f].ended _) ?_
      cases s.meters[m].config.singleShot <;> rfl
    · have after := event.trans (State.followerEnd_armed _ _ (follow.trans follows) (state.trans armed))
      rw [ready, own] at after
      refine ⟨fun again => after.trans (if_pos ?_), fun last => after.trans (if_neg ?_)⟩
      · rw [show s.meters[m].config.singleShot = false from again]
        rfl
      · rw [Bool.not_eq_true']
        exact last
    · exact event.trans ((congrArg (fun t : State => t.meters[f]) (State.followerEnd_idle _ _ (follow.trans follows)
        (fun held armed => notArmed held (state.symm.trans armed))
        (fun a e h counts => notCounting a e h (state.symm.trans counts)))).trans own)
    · exact event.trans ((congrArg (fun t : State => t.meters[f]) (State.followerEnd_other _ _ (follow.trans apart))).trans own)
  · refine exec_of_unchanged (windowExpiry m order) rfl ?_
    unfold windowExpiry
    split
    · next isOpen => exact absurd isOpen (not _)
    · rfl

end Sys2Proof.Machine
end

section
/-! What the writes of the owners report (R14, R66, R106), and what the store reports (R37, R38, R43, R45 to R47). -/

namespace Sys2Proof.Machine

/-! ### Pods, decoders and meters -/

theorem State.evaluate_congr {c k : Subject → Bool} (same : ∀ sub, c sub = k sub) (s : State) : s.evaluate c = s.evaluate k :=
  congrArg (fun c => State.evaluate c s) (funext same)

theorem State.markPanes_congr {c k : PaneSubject → Bool} (same : ∀ sub, c sub = k sub) (s : State) : s.markPanes c = s.markPanes k :=
  congrArg (fun c => State.markPanes c s) (funext same)

theorem State.markPanes_get (c : PaneSubject → Bool) (s : State) (i : Fin 16) : (s.markPanes c).display.panes[i] =
    if s.display.panes[i].state = .live ∧ c s.display.panes[i].subject = true then { s.display.panes[i] with stale := true }
    else s.display.panes[i] := tab_get _ i

section
variable (p : Fin 4) (new : Pod) (s : State)

theorem State.putPod_same (same : s.pods[p].state = new.state ∧ s.pods[p].code = new.code ∧ s.pods[p].faultMark = new.faultMark) :
    s.putPod p new = { s with pods := s.pods.set p new } := by
  obtain ⟨state, code, mark⟩ := same
  unfold State.putPod
  dsimp only
  rw [if_neg]
  rintro (h | h | h)
  · exact h state
  · exact h code
  · exact h mark

theorem State.putPod_told (changed : ¬ (s.pods[p].state = new.state ∧ s.pods[p].code = new.code ∧ s.pods[p].faultMark = new.faultMark)) :
    s.putPod p new = State.faultReport p new.faultMark ((State.evaluate (fun sub => decide (sub = .pod p)) { s with pods := s.pods.set p new }).markPanes
      fun sub => decide (sub = .pod p)) := by
  have told : State.podReport p { s with pods := s.pods.set p new } = State.faultReport p new.faultMark
      ((State.evaluate (fun sub => decide (sub = .pod p)) { s with pods := s.pods.set p new }).markPanes fun sub => decide (sub = .pod p)) := by
    unfold State.podReport
    dsimp only
    rw [vset_same]
    refine congrArg (State.faultReport p new.faultMark) ?_
    refine (State.markPanes_congr (fun sub => ?_) _).trans (congrArg (State.markPanes _) (State.evaluate_congr (fun sub => ?_) _))
    · cases sub <;> simp [Bool.beq_eq_decide_eq]
    · cases sub <;> simp [Bool.beq_eq_decide_eq]
  unfold State.putPod
  dsimp only
  rw [if_pos, told]
  by_contra none
  simp only [not_or, ne_eq, not_not] at none
  exact changed none

end

theorem State.putDecoder_told (d : Fin 6) (new : Decoder) (s : State) : s.putDecoder d new =
    if (s.decoders[d].aborted = new.aborted ∧ s.decoders[d].unknown = new.unknown) ∧ s.decoders[d].state = new.state ∧
        s.decoders[d].applied = new.applied then
      if s.decoders[d].aborted = new.aborted ∧ s.decoders[d].unknown = new.unknown then { s with decoders := s.decoders.set d new }
      else State.evaluate (fun sub => decide (sub = .decoder d .aborted ∨ sub = .decoder d .unknown)) { s with decoders := s.decoders.set d new }
    else (if s.decoders[d].aborted = new.aborted ∧ s.decoders[d].unknown = new.unknown then { s with decoders := s.decoders.set d new }
      else State.evaluate (fun sub => decide (sub = .decoder d .aborted ∨ sub = .decoder d .unknown))
        { s with decoders := s.decoders.set d new }).markPanes fun sub => decide (sub = .decoder d) := by
  have covers : ∀ sub : Subject, (match sub with | .decoder e _ => e == d | _ => false) =
      decide (sub = .decoder d .aborted ∨ sub = .decoder d .unknown) := fun sub => by
    cases sub with
    | decoder e f => cases f <;> simp [Bool.beq_eq_decide_eq]
    | _ => simp
  have shows : ∀ sub : PaneSubject, (match sub with | .decoder e => e == d | _ => false) = decide (sub = .decoder d) := fun sub => by
    cases sub <;> simp [Bool.beq_eq_decide_eq]
  unfold State.putDecoder
  dsimp only
  by_cases counts : s.decoders[d].aborted = new.aborted ∧ s.decoders[d].unknown = new.unknown
  · rw [if_neg (not_or.mpr ⟨not_not.mpr counts.1, not_not.mpr counts.2⟩), if_pos counts]
    by_cases rest : s.decoders[d].state = new.state ∧ s.decoders[d].applied = new.applied
    · refine (if_neg ?_).trans (if_pos ⟨counts, rest⟩).symm
      rintro (h | h | h | h)
      · exact h rest.1
      · exact h rest.2
      · exact h counts.1
      · exact h counts.2
    · refine (if_pos ?_).trans ((State.markPanes_congr shows _).trans (if_neg fun all => rest all.2).symm)
      by_contra none
      simp only [not_or, ne_eq, not_not] at none
      exact rest ⟨none.1, none.2.1⟩
  · have differ : s.decoders[d].aborted ≠ new.aborted ∨ s.decoders[d].unknown ≠ new.unknown := by
      rwa [not_and_or] at counts
    rw [if_pos differ, if_neg counts]
    refine (if_pos (Or.inr (Or.inr differ))).trans (Eq.trans ?_ (if_neg fun all => counts all.1).symm)
    exact (State.markPanes_congr shows _).trans (congrArg (State.markPanes _) (State.evaluate_congr covers _))

theorem MeterRecord.reportedSame_iff (a b : MeterRecord) : a.reportedSame b = true ↔ a = { b with withheld := a.withheld } := by
  obtain ⟨status, last, min, max, count, disturbed, withheld⟩ := a
  simp only [MeterRecord.reportedSame, Bool.and_eq_true, beq_iff_eq, MeterRecord.mk.injEq, and_true, and_assoc]

section
variable (m : Fin 8) (new : Meter) (s : State)

theorem State.putMeter_same (same : s.meters[m].record = { new.record with withheld := s.meters[m].record.withheld }) :
    s.putMeter m new = { s with meters := s.meters.set m new } := by
  unfold State.putMeter
  dsimp only
  rw [if_pos ((MeterRecord.reportedSame_iff _ _).mpr same)]

theorem State.putMeter_told {covers : Subject → Bool} {shows : PaneSubject → Bool}
    (isCovered : ∀ sub, covers sub = true ↔ ∃ f, sub = .meter m f) (isShown : ∀ sub, shows sub = true ↔ ∃ f, sub = .meter m f)
    (changed : ¬ s.meters[m].record = { new.record with withheld := s.meters[m].record.withheld }) :
    s.putMeter m new = (State.evaluate covers { s with meters := s.meters.set m new }).markPanes shows := by
  unfold State.putMeter
  dsimp only
  rw [if_neg fun same => changed ((MeterRecord.reportedSame_iff _ _).mp same)]
  refine (State.markPanes_congr (fun sub => ?_) _).trans (congrArg (State.markPanes _) (State.evaluate_congr (fun sub => ?_) _))
  · rw [Bool.eq_iff_iff, isShown]
    cases sub <;> simp
  · rw [Bool.eq_iff_iff, isCovered]
    cases sub <;> simp

end

/-! ### The store's reports (R37) -/

/-- The report of the store, by what it covers and what shows it. -/
theorem State.targetReport_eq {h : Handle} {regs : List Byte} {fields : List TargetField} {covers : Subject → Bool} {shows : PaneSubject → Bool}
    (isCovered : ∀ sub, covers sub = sub.amongChanged h regs fields) (isShown : ∀ sub, shows sub = sub.shows h) (s : State) :
    (s.evaluate covers).markPanes shows = s.targetReport h regs fields :=
  (State.markPanes_congr isShown _).trans (congrArg (State.markPanes _) (State.evaluate_congr isCovered _))

theorem satInc_eq_self {x : Half} : satInc x = x ↔ x = 0xFFFF := by
  unfold satInc
  constructor
  · intro same
    split at same
    · next top => exact top
    · exact absurd same (by bv_omega)
  · rintro rfl
    rfl

/-- An application at a record reports what it touched, after the record and the CELLS_FULL claim are written (R37). -/
theorem State.applyTo_reports (a : Application) (i : Fin 64) (r : Record) (s : State) : ∃ before : State,
    UpToReports { s with store := (s.applyTo a i r).store, watch := { s.watch with cellsFull := (s.applyTo a i r).watch.cellsFull } } before ∧
    before.watch.watches = s.watch.watches ∧
    s.applyTo a i r = before.targetReport { gen := (s.applyTo a i r).store.slots[i].gen, slot := byte i } (a.placing r s.store.free).touched
      (if r.access = 0xFFFF then [] else [.access]) := by
  have agree := State.applyTo_upTo a i r s
  have store : (s.applyTo a i r).store = s.store.applied a s.clock.ms i r := agree.store
  have gen : (s.store.applied a s.clock.ms i r).slots[i].gen = s.store.slots[i].gen := by
    unfold Store.applied Store.setRecord
    dsimp only
    rw [vset_same]
  have full : (s.applyTo a i r).watch.cellsFull = (s.watch.cellsFull || (a.placing r s.store.free).poolEmpty) := agree.cellsFull
  have fields : (if r.access = 0xFFFF then [] else [.access]) = accessChanged r := if_congr satInc_eq_self.symm rfl rfl
  rw [store, full, gen, fields]
  unfold State.applyTo
  dsimp only
  refine ⟨_, ?_, ?_, rfl⟩
  · cases empty : (a.placing r s.store.free).poolEmpty
    · rw [if_neg Bool.false_ne_true, Bool.or_false]
      exact UpToReports.refl _
    · rw [if_pos rfl, Bool.or_true]
      exact State.raiseCellsFull_upTo { s with store := s.store.applied a s.clock.ms i r }
  · split
    · exact State.derive_watches _
    · rfl

/-- The reports of an application at a record that it creates (R31, R37). -/
theorem State.applyNew_reports (a : Application) (i : Fin 64) (s : State) : ∃ before : State,
    UpToReports { s with store := (s.applyNew a i).store, watch := { s.watch with cellsFull := (s.applyNew a i).watch.cellsFull } } before ∧
    before.watch.watches = s.watch.watches ∧
    s.applyNew a i = before.targetReport { gen := (s.applyNew a i).store.slots[i].gen, slot := byte i }
      (a.placing (Record.fresh a.decoder a.address false false s.clock.ms) s.store.free).touched [.access] :=
  State.applyTo_reports a i (Record.fresh a.decoder a.address false false s.clock.ms)
    { s with store := s.store.setRecord i (Record.fresh a.decoder a.address false false s.clock.ms) }

theorem State.withhold_marked {s : State} {a : Application} {i : Fin 64} {x : Record} (found : s.store.find a.decoder a.address = some i)
    (record : s.store.slots[i].record = some x) (marked : x.withheldMark = true) : s.withhold a = { s with store := (s.withhold a).store } := by
  unfold State.withhold
  rw [found]
  dsimp only
  rw [record]
  dsimp only
  rw [if_pos marked]

theorem State.withhold_marks {s : State} {a : Application} {i : Fin 64} {x : Record} (found : s.store.find a.decoder a.address = some i)
    (record : s.store.slots[i].record = some x) (unmarked : x.withheldMark = false) :
    s.withhold a = State.markTarget (s.store.handle i) { s with store := (s.withhold a).store } := by
  unfold State.withhold
  rw [found]
  dsimp only
  rw [record]
  dsimp only
  rw [if_neg (by rw [unmarked]; decide)]
  rfl

/-! ### Error reports (R38) -/

theorem State.errorReport_lost {s : State} {d : Fin 6} {address : Byte} {reason : AbortReason}
    (lost : s.watch.freeze = true ∨ s.store.find d address = none) : s.errorReport d address reason = s := by
  unfold State.errorReport
  split
  · rfl
  · next thawed =>
    rw [lost.resolve_left thawed]

theorem Record.countError_eq (r : Record) (reason : AbortReason) : r.countError reason =
    if reason = .unanswered then ({ r with unanswered := satInc r.unanswered }, .unanswered) else ({ r with errors := satInc r.errors }, .error) := by
  cases reason <;> rfl

theorem Record.countError_fst_eq (r : Record) (reason : AbortReason) : (r.countError reason).1 = r ↔
    if reason = .unanswered then r.unanswered = 0xFFFF else r.errors = 0xFFFF := by
  obtain ⟨d, a, declared, pinned, pointer, cells, access, unanswered, errors, seen, mark, count, truncated, references⟩ := r
  rw [Record.countError_eq]
  split
  · simp only [Record.mk.injEq, satInc_eq_self, true_and, and_true]
  · simp only [Record.mk.injEq, satInc_eq_self, true_and, and_true]

section
variable {s : State} {d : Fin 6} {address : Byte} (reason : AbortReason) {i : Fin 64} {x : Record}
variable (thawed : s.watch.freeze = false) (found : s.store.find d address = some i) (record : s.store.slots[i].record = some x)
include thawed found record

theorem State.errorReport_found : s.errorReport d address reason =
    if (x.countError reason).1 = x then { s with store := s.store.setRecord i (x.countError reason).1 }
    else State.targetReport (s.store.handle i) [] [(x.countError reason).2] { s with store := s.store.setRecord i (x.countError reason).1 } := by
  unfold State.errorReport
  rw [thawed, found]
  dsimp only
  rw [record]
  rfl

theorem State.errorReport_full (full : if reason = .unanswered then x.unanswered = 0xFFFF else x.errors = 0xFFFF) :
    s.errorReport d address reason = { s with store := (s.errorReport d address reason).store } := by
  rw [State.errorReport_found reason thawed found record, if_pos ((Record.countError_fst_eq x reason).mpr full)]

theorem State.errorReport_told (room : ¬ if reason = .unanswered then x.unanswered = 0xFFFF else x.errors = 0xFFFF) :
    s.errorReport d address reason = State.targetReport (s.store.handle i) [] [if reason = .unanswered then .unanswered else .error]
      { s with store := (s.errorReport d address reason).store } := by
  have field : (x.countError reason).2 = if reason = .unanswered then .unanswered else .error := by
    rw [Record.countError_eq]
    split <;> rfl
  rw [State.errorReport_found reason thawed found record, if_neg fun same => room ((Record.countError_fst_eq x reason).mp same), field,
    State.targetReport_store]

end

/-! ### Requests on a cell (R45 to R47) and TGT_READ (R43) -/

/-- A request that is answered OK has reported the register, after writing the store. -/
def CellTold (h : Handle) (reg : Byte) (s u : State) : Prop :=
  u.port.answer = some { status := .ok, payload := [] } → u = (State.targetReport h [reg] [] { s with store := u.store }).ok

theorem CellTold.refused (h : Handle) (reg : Byte) (s : State) {st : Status} (bad : st ≠ .ok) : CellTold h reg s (s.refuse st) :=
  fun answer => absurd (congrArg Answer.status (Option.some.inj answer)) bad

theorem CellTold.put (h : Handle) (reg : Byte) (s : State) (i : Fin 64) (r : Record) (cells : List TargetCell) (free : Nat) :
    CellTold h reg s ((s.putCells i r cells free).targetReport h [reg] []).ok := by
  intro _
  have store : ((s.putCells i r cells free).targetReport h [reg] []).ok.store = (s.putCells i r cells free).store :=
    State.targetReport_store h [reg] [] (s.putCells i r cells free)
  rw [store]
  rfl

section
variable {h : Handle} {reg value mask op : Byte} {s : State} {i : Fin 64} {r : Record}
variable (slot : h.slot = byte i) (record : s.store.slots[i].record = some r) (gen : s.store.slots[i].gen = h.gen)
include slot record gen

theorem tgtSetCell_same {c : TargetCell} (there : cellAt reg r.cells = some c) (same : c.value = some value) :
    tgtSetCell h reg value s = State.ok { s with store := (tgtSetCell h reg value s).store } := by
  rw [show tgtSetCell h reg value s = _ from State.withRecord_reached _ rfl slot record gen, there]
  dsimp only
  rw [if_pos same]
  rfl

theorem tgtSetCell_told (changed : ¬ ∃ c, cellAt reg r.cells = some c ∧ c.value = some value) : CellTold h reg s (tgtSetCell h reg value s) := by
  rw [show tgtSetCell h reg value s = _ from State.withRecord_reached _ rfl slot record gen]
  cases there : cellAt reg r.cells with
  | some c =>
    dsimp only
    rw [if_neg fun same => changed ⟨c, there, same⟩]
    exact .put h reg s i r _ _
  | none =>
    dsimp only
    split
    · exact .put h reg s i r _ _
    · exact .refused h reg s (by decide)

theorem tgtExpect_told : CellTold h reg s (tgtExpect h reg op value mask s) := by
  by_cases choice : (yesNo? op).isSome = true
  · rw [show tgtExpect h reg op value mask s = _ from State.withRecord_reached _ choice slot record gen]
    split
    · unfold expectSet
      split
      · exact .put h reg s i r _ _
      · split
        · exact .put h reg s i r _ _
        · exact .refused h reg s (by decide)
    · unfold expectClear
      split
      · exact .refused h reg s (by decide)
      · split
        · exact .refused h reg s (by decide)
        · split
          · exact .put h reg s i r _ _
          · exact .put h reg s i r _ _
  · rw [show tgtExpect h reg op value mask s = s.refuse .badParam from
      State.withRecord_badParam _ s (Or.inr (Bool.not_eq_true _ ▸ choice))]
    exact .refused h reg s (by decide)

theorem tgtDropCell_told : CellTold h reg s (tgtDropCell h reg s) := by
  rw [show tgtDropCell h reg s = _ from State.withRecord_reached _ rfl slot record gen]
  split
  · exact .refused h reg s (by decide)
  · exact .put h reg s i r _ _

theorem tgtRead_told {first max : Byte} (least : 1 ≤ max.toNat) (most : max.toNat ≤ 32) : ∃ payload,
    (r.withheldMark = true → tgtRead h first max 1 s =
      State.answered .ok payload (State.markTarget h { s with store := (tgtRead h first max 1 s).store })) ∧
    (r.withheldMark = false → tgtRead h first max 1 s =
      State.answered .ok payload { s with store := (tgtRead h first max 1 s).store }) := by
  have params : (decide (1 ≤ max.toNat) && decide (max.toNat ≤ 32) && (yesNo? 1).isSome) = true := by
    simp only [least, most, decide_true, Bool.and_self]
    rfl
  refine ⟨r.header h (returnedCells first max r).length ++ (returnedCells first max r).flatMap TargetCell.entry, fun marked => ?_, fun unmarked => ?_⟩
  · rw [show tgtRead h first max 1 s = _ from State.withRecord_reached _ params slot record gen]
    dsimp only
    rw [if_pos rfl, if_pos marked]
    rfl
  · rw [show tgtRead h first max 1 s = _ from State.withRecord_reached _ params slot record gen]
    dsimp only
    rw [if_pos rfl, if_neg (by rw [unmarked]; decide)]
    rfl

end

end Sys2Proof.Machine
end

section
/-! A changed subject trips an IDLE watch with condition CHANGE by the end of the command (R130, R132): every move of a watch is an evaluation, unless a request sets or acknowledges it or a retirement takes it. -/

namespace Sys2Proof.Machine

/-! ### Commands of the screen leave the watches -/

theorem paneSet_watch (pane row col width height kind : Byte) (names : NameBytes) (format : Byte) (label : List Byte) (lbusy : Bool) (s : State) :
    (paneSet pane row col width height kind names format label lbusy s).watch = s.watch := by
  simp only [paneSet]
  repeat' split
  all_goals first
    | rfl
    | simp

theorem paneClear_watch (pane : Byte) (lbusy : Bool) (s : State) : (paneClear pane lbusy s).watch = s.watch := by
  simp only [paneClear]
  split
  · rfl
  · simp

theorem refreshTick_watch (lbusy : Bool) (s : State) : (refreshTick lbusy s).watch = s.watch := by
  unfold refreshTick
  split
  · simp
  · rfl

/-! ### Moves of a watch -/

/-- What evaluations make of a watch: its setting stays, and in IDLE with condition CHANGE it trips unless its sample keeps its value or loses it. -/
structure Watch.Evaluated (a b : Watch) : Prop where
  setting : a.SameSetting b
  tripped : a.state = .tripped → b.state = .tripped
  change  : a.state = .idle → a.condition = .change →
              b.state = .tripped ∨ (b.state = .idle ∧ (b.sample.value = a.sample.value ∨ b.sample.value = none))

theorem Watch.Evaluated.refl (w : Watch) : w.Evaluated w := ⟨.refl w, id, fun idle _ => Or.inr ⟨idle, Or.inl rfl⟩⟩

theorem Watch.Evaluated.trans {a b c : Watch} (h : a.Evaluated b) (k : b.Evaluated c) : a.Evaluated c where
  setting := h.setting.trans k.setting
  tripped t := k.tripped (h.tripped t)
  change idle change := by
    rcases h.change idle change with t | ⟨still, value⟩
    · exact Or.inl (k.tripped t)
    · refine (k.change still (h.setting.condition.trans change)).imp_right fun ⟨again, later⟩ => ⟨again, ?_⟩
      rcases later with same | gone
      · exact value.imp (same.trans ·) (same.trans ·)
      · exact Or.inr gone

theorem isChange_iff {old new : Sample} : isChange old new = true ↔ new.value ≠ none ∧ new.value ≠ old.value := by
  unfold isChange
  rw [Bool.and_eq_true, bne_iff_ne, Option.isSome_iff_ne_none]

theorem Watch.evaluate_evaluated (ms : Word) (now : Sample) (w : Watch) : w.Evaluated (w.evaluate ms now) where
  setting := w.evaluate_same ms now
  tripped := w.evaluate_tripped ms now
  change idle change := by
    unfold Watch.evaluate Watch.moveChange
    rw [if_pos (Condition.isChange_iff.mpr change), idle]
    dsimp only
    by_cases changed : isChange w.sample now = true
    · rw [if_pos changed]
      exact Or.inl rfl
    · rw [if_neg changed]
      refine Or.inr ⟨idle, ?_⟩
      rw [isChange_iff, not_and_or, not_not, not_not] at changed
      exact changed.symm

/-- Every watch is evaluated or left. -/
def WatchesEvaluated (s t : State) : Prop := ∀ i : Fin 32, s.watch.watches[i].Evaluated t.watch.watches[i]

theorem WatchesEvaluated.of_same {s t : State} (same : t.watch.watches = s.watch.watches) : WatchesEvaluated s t := fun i => by
  rw [same]
  exact .refl _

theorem watchesEvaluated_blind : Blind WatchesEvaluated where
  refl _ := .of_same rfl
  trans _ _ _ h k i := (h i).trans (k i)
  write _ _ watches _ _ := .of_same watches
  evaluate c s i := by
    rw [State.evaluate_get]
    split
    · exact Watch.evaluate_evaluated _ _ _
    · exact .refl _
  mark _ _ := .of_same rfl
  derive s := .of_same (State.derive_watches s)

/-- The commands of the statement: no request that sets or acknowledges a watch, no retirement and no reset. -/
theorem effect_watchesEvaluated {c : Instr} (s : State) (notSet : ∀ watch sub cond level actions, c ≠ .wchSet watch sub cond level actions)
    (notClear : ∀ watch, c ≠ .wchClear watch) (notAck : ∀ watch, c ≠ .ntcAckWatch watch) (notRestart : c ≠ .devRestart)
    (notReset : ∀ sense, c ≠ .fullReset sense) (notRetire : ∀ h force, c ≠ .tgtRetire h force) : WatchesEvaluated s (effect c s) := by
  have blind := watchesEvaluated_blind
  by_cases plain : isPlain c = true
  · exact blind.parts.plain plain s
  cases c
  case fullReset sense => exact absurd rfl (notReset sense)
  case devRestart => exact absurd rfl notRestart
  case tgtRead x first max clear => exact blind.tgtRead x first max clear s
  case tgtDeclare decoder address pinned => exact blind.tgtDeclare decoder address pinned s
  case tgtSetCell x register value => exact blind.tgtSetCell x register value s
  case tgtExpect x register operation value mask => exact blind.tgtExpect x register operation value mask s
  case tgtDropCell x register => exact blind.tgtDropCell x register s
  case tgtPin x on => exact blind.tgtPin x on s
  case tgtRetire x force => exact absurd rfl (notRetire x force)
  case wchSet watch sub cond level actions => exact absurd rfl (notSet watch sub cond level actions)
  case wchClear watch => exact absurd rfl (notClear watch)
  case ntcAckWatch watch => exact absurd rfl (notAck watch)
  case paneSet pane row column width height kind names format label lbusy =>
    exact .of_same (congrArg WatchUnit.watches (paneSet_watch pane row column width height kind names format label lbusy s))
  case paneClear pane lbusy => exact .of_same (congrArg WatchUnit.watches (paneClear_watch pane lbusy s))
  case refreshTick lbusy => exact .of_same (congrArg WatchUnit.watches (refreshTick_watch lbusy s))
  all_goals exact absurd rfl plain

/-! ### Retirement -/

/-- A retired record's handle reads nothing (R40, R126). -/
theorem State.subjectSample_retired {s t : State} {i : Fin 64} (store : t.store = s.store.vacate i) {sub : Subject}
    (names : sub.names (s.store.handle i) = true) : t.subjectSample sub = Sample.absent := by
  have stale : t.store.reach (s.store.handle i) = none := by
    refine Store.reach_eq_none fun j r slot record => ?_
    have same : i = j := by
      have number := congrArg BitVec.toNat slot
      rw [show (s.store.handle i).slot = byte i from rfl, byte_toNat_slot, byte_toNat_slot] at number
      exact Fin.ext number
    rw [store, ← same, Store.vacate_get] at record
    cases record
  rcases Subject.names_iff_target.mp names with ⟨reg, rfl⟩ | ⟨f, rfl⟩
  · unfold State.subjectSample
    dsimp only
    rw [stale]
  · unfold State.subjectSample
    dsimp only
    rw [stale]

/-- A retirement takes a watch that names the record to DORMANT, its subject gone, and leaves every other. -/
theorem tgtRetire_watch (h : Handle) (force : Byte) (s : State) (i : Fin 32) :
    (tgtRetire h force s).watch.watches[i] = s.watch.watches[i] ∨
      (tgtRetire h force s).subjectSample s.watch.watches[i].subject = Sample.absent := by
  unfold tgtRetire
  rcases s.withRecord_cases h (yesNo? force).isSome _ with ⟨st, refused⟩ | ⟨j, r, reach, _, acts⟩
  · rw [refused]
    exact Or.inl rfl
  · rw [acts]
    split
    · exact Or.inl rfl
    · have watches : (s.retire j).watch.watches[i] = s.watch.watches[i].retire (s.store.handle j) := by
        show (s.retireNotice (s.store.handle j)).watch.watches[i] = _
        rw [State.retireNotice_watch]
        exact tab_get _ i
      by_cases named : s.watch.watches[i].subject.names (s.store.handle j) = true
      · refine Or.inr (State.subjectSample_retired (s := s) (i := j) ?_ named)
        show (s.retireNotice (s.store.handle j)).store.vacate j = _
        rw [State.retireNotice_store]
      · exact Or.inl (watches.trans (if_neg fun both => named (Bool.and_eq_true_iff.mp both).2))

/-- The watches' part of the statement, for one watch of a state that a command makes. -/
theorem trips_of_changed {s t : State} {i : Fin 32} (ok : Watch.Ok t t.watch.watches[i])
    (moved : s.watch.watches[i].Evaluated t.watch.watches[i] ∨ t.subjectSample s.watch.watches[i].subject = Sample.absent)
    (idle : s.watch.watches[i].state = .idle) (change : s.watch.watches[i].condition = .change)
    (present : (t.subjectSample s.watch.watches[i].subject).value ≠ none)
    (changed : (t.subjectSample s.watch.watches[i].subject).value ≠ s.watch.watches[i].sample.value) :
    t.watch.watches[i].state = .tripped := by
  rcases moved with evaluated | absent
  · refine (evaluated.change idle change).resolve_right fun ⟨still, value⟩ => ?_
    have fresh := ok.fresh (by rw [still]; rfl)
    rw [evaluated.setting.subject] at fresh
    rw [fresh] at value
    exact value.elim changed present
  · exact absurd (congrArg Sample.value absent) present

end Sys2Proof.Machine
end

section
/-! The statement of the reports (R14, R37, R38, R66, R106, R130). -/

namespace Sys2Proof.Machine

/-- The part of the statement about applications: the record of the key is `i`, or the application creates it there. -/
theorem State.apply_reports_found {s : State} {a : Application} {i : Fin 64} {x : Record} (thawed : s.watch.freeze = false)
    (found : s.store.find a.decoder a.address = some i) (record : s.store.slots[i].record = some x) : ∃ before : State,
    UpToReports { s with store := (s.apply a).1.store, watch := { s.watch with cellsFull := (s.apply a).1.watch.cellsFull } } before ∧
    before.watch.watches = s.watch.watches ∧
    (s.apply a).1 = before.targetReport { gen := (s.apply a).1.store.slots[i].gen, slot := byte i } (a.placing x s.store.free).touched
      (if x.access = 0xFFFF then [] else [.access]) := by
  rw [State.apply_found thawed found record]
  exact State.applyTo_reports a i x s

/-- Settles O40: what is reported, to which watches and which panes. -/
theorem eventReports : Obligations.EventReports := by
  refine ⟨fun covers s i => State.markPanes_get covers s i, fun p new s => ⟨fun same => State.putPod_same p new s same, fun changed =>
    State.putPod_told p new s changed⟩, fun d new s => State.putDecoder_told d new s, fun m new s => ⟨fun same => State.putMeter_same m new s same,
    fun changed => State.putMeter_told m new s (fun sub => ?_) (fun sub => ?_) changed⟩, fun s => ?_, fun c s all _ =>
    makesSome_of_take (effect c) (exec_eq c s) fun i => ?_⟩
  · cases sub <;> simp
  · cases sub <;> simp
  · intro shows reported held
    have told : ∀ h regs fields x, reported h regs fields x = x.targetReport h regs fields := fun h regs fields x =>
      State.targetReport_eq (fun sub => by cases sub <;> simp [Subject.amongChanged]) (fun sub => by cases sub <;> rfl) x
    have marks : ∀ h x, State.markPanes (shows h) x = x.markTarget h := fun h x => State.markPanes_congr (fun sub => by cases sub <;> rfl) x
    simp only [told, marks]
    have find : StoreOk s → ∀ {d address i x}, held d address i x → s.store.find d address = some i := fun ok {d address i x} ⟨record, own, same⟩ =>
      own ▸ same ▸ Store.find_of_record ok.keys record
    have absent : ∀ {d address}, (∀ i x, ¬ held d address i x) → s.store.find d address = none := fun nowhere =>
      Store.find_none.mpr fun i x record key => nowhere i x ⟨record, key⟩
    refine ⟨fun a ok => ⟨fun thawed => ⟨fun i x at' => ?_, fun nowhere learn => ⟨fun i free lowest => ?_, fun full i y victim record => ?_⟩⟩,
      fun frozen i x at' => ?_⟩, fun d address reason ok => ⟨fun lost => ?_, fun thawed i x at' => ⟨?_, fun full => ?_, fun room => ?_⟩⟩,
      fun h reg value op mask first max i x slot record gen => ⟨?_, ?_, ?_, fun least most => ?_⟩⟩
    · exact State.apply_reports_found thawed (find ok at') at'.1
    · rw [State.apply_free thawed (absent nowhere) learn (Store.freeSlot_of_lowest free lowest)]
      exact State.applyNew_reports a i s
    · rw [State.apply_victim thawed (absent nowhere) learn (Store.freeSlot_none full) victim]
      have free : (s.store.vacate i).free = s.store.free + y.cells.length := by rw [Store.vacate_of_record record]
      rw [← free]
      exact State.applyNew_reports a i { s with store := s.store.vacate i }
    · rw [State.apply_frozen frozen]
      exact ⟨State.withhold_marked (find ok at') at'.1, State.withhold_marks (find ok at') at'.1⟩
    · exact State.errorReport_lost (lost.imp_right absent)
    · rw [State.errorReport_store, thawed]
    · exact State.errorReport_full reason thawed (find ok at') at'.1 full
    · exact State.errorReport_told reason thawed (find ok at') at'.1 room
    · exact makesSome_of_take (tgtSetCell h reg value) rfl ⟨fun ⟨k, there, same⟩ => tgtSetCell_same slot record gen there same,
        tgtSetCell_told slot record gen⟩
    · exact makesSome_of_take (tgtExpect h reg op value mask) rfl (tgtExpect_told slot record gen)
    · exact makesSome_of_take (tgtDropCell h reg) rfl (tgtDropCell_told slot record gen)
    · exact makesSome_of_take (tgtRead h first max 1) rfl (tgtRead_told slot record gen least most)
  · intro w now notSet notClear notAck notRestart notReset idle change present changed
    have ok := effect_watchesOk c all.refs all.watches i
    by_cases retires : ∃ h force, c = .tgtRetire h force
    · obtain ⟨h, force, rfl⟩ := retires
      refine trips_of_changed ok ?_ idle change present changed
      refine (tgtRetire_watch h force s i).imp_left fun same => ?_
      rw [show (effect (.tgtRetire h force) s).watch.watches[i] = _ from same]
      exact .refl _
    · have evaluated := effect_watchesEvaluated s notSet notClear notAck notRestart notReset (fun h force e => retires ⟨h, force, e⟩) i
      exact trips_of_changed ok (Or.inl evaluated) idle change present changed

end Sys2Proof.Machine
end

section
/-! What subjects read, when conditions hold, what an evaluation makes of a watch, and the highlights that every command leaves (R126 to R134, R167). -/

namespace Sys2Proof.Machine

/-! ### The highlights after a command (R134, R167) -/

/-- Where a watch was reported or a pane orphaned, the highlights are those of the watch table, and what changed is stale. -/
def HighlightsDerived (s t : State) : Prop :=
  ((∃ i : Fin 32, t.watch.watches[i].state ≠ s.watch.watches[i].state ∨ t.watch.watches[i].hits ≠ s.watch.watches[i].hits) ∨
    ∃ j : Fin 16, s.display.panes[j].state = .live ∧ t.display.panes[j].state = .orphaned) →
  ∀ j : Fin 16, t.display.panes[j].state = .live →
    t.display.panes[j].highlight = t.watch.highlighted t.display.panes[j].subject ∧
    (t.display.panes[j].highlight ≠ s.display.panes[j].highlight → t.display.panes[j].stale = true) ∧
    ∀ i : Fin 32, t.display.panes[j].subject = .watch i →
      t.watch.watches[i].state ≠ s.watch.watches[i].state ∨ t.watch.watches[i].hits ≠ s.watch.watches[i].hits →
      t.display.panes[j].stale = true

/-- No pane is orphaned on the way. -/
def NoOrphans (s t : State) : Prop := ∀ j : Fin 16, t.display.panes[j].state = .orphaned → s.display.panes[j].state = .orphaned

namespace HighlightsDerived

theorem of_follow {s t : State} (h : HighlightsFollow s t) : HighlightsDerived s t := fun reported j live => h.derived reported j live

/-- No watch changed and no pane is orphaned. -/
theorem of_silent {s t : State} (watches : t.watch.watches = s.watch.watches)
    (orphans : NoOrphans s t) : HighlightsDerived s t := by
  rintro (⟨i, changed⟩ | ⟨j, live, orphaned⟩)
  · rw [watches] at changed
    exact absurd changed (by simp)
  · exact absurd (live.symm.trans (orphans j orphaned)) (by decide)

/-- No pane is LIVE. -/
theorem of_none {s t : State} (free : ∀ j : Fin 16, t.display.panes[j].state = .free) : HighlightsDerived s t := fun _ j live =>
  absurd (live.symm.trans (free j)) (by decide)

theorem of_same {s s' t t' : State} (h : HighlightsDerived s t) (watch : s'.watch = s.watch) (panes : s'.display.panes = s.display.panes)
    (watch' : t'.watch = t.watch) (panes' : t'.display.panes = t.display.panes) : HighlightsDerived s' t' := by
  unfold HighlightsDerived
  rw [watch, panes, watch', panes']
  exact h

end HighlightsDerived

theorem State.setWatches_highlights (ws : Vector Watch 32) (s : State) : HighlightsDerived s (s.setWatches ws) := by
  have reports : ∀ i : Fin 32, (s.setWatches ws).watch.watches[i].state ≠ s.watch.watches[i].state ∨
      (s.setWatches ws).watch.watches[i].hits ≠ s.watch.watches[i].hits → (s.watch.watches[i]).reported ws[i] = true := fun i changed => by
    rw [State.setWatches_watches] at changed
    exact (Watch.reported_iff _ _).mpr changed
  rintro (⟨i, changed⟩ | ⟨j, live, orphaned⟩) j' shown
  · exact ⟨s.setWatches_fresh ws ⟨i, reports i changed⟩ j' shown, (s.setWatches_panes ws j' shown).changed,
      fun k subject again => s.setWatches_told ws k j' shown subject (reports k again)⟩
  · have state := ((s.setWatches_upTo ws).panes j).state
    exact absurd ((state.trans live).symm.trans orphaned) (by decide)

/-! ### Commands that leave or free the panes -/

theorem NoOrphans.refused (s : State) (st : Status) : NoOrphans s (s.refuse st) := fun _ => id

theorem NoOrphans.setPane {s t : State} {i : Fin 16} {new : Pane} (panes : t.display.panes = s.display.panes.set i new)
    (fresh : new.state ≠ .orphaned) : NoOrphans s t := fun j orphaned => by
  rw [panes, vset_get] at orphaned
  split at orphaned
  · exact absurd orphaned fresh
  · exact orphaned

/-- A pane set in its place, its rectangle vacated, and the test for a burst made. -/
theorem State.setVacated_panes {s u : State} (same : u.display = s.display) (old : Pane) (i : Fin 16) (new : Pane) (lbusy : Bool) :
    ((((u.vacateRect old).setPane i new).panelTest lbusy).ok).display.panes = s.display.panes.set i new := by
  rw [show ∀ t : State, t.ok.display = t.display from fun _ => rfl, State.panelTest_display]
  show (u.vacateRect old).display.panes.set i new = _
  rw [State.vacateRect_panes, same]

theorem paneSet_orphans (pane row col width height kind : Byte) (names : NameBytes) (format : Byte) (label : List Byte) (lbusy : Bool) (s : State) :
    NoOrphans s (paneSet pane row col width height kind names format label lbusy s) := by
  simp only [paneSet]
  split
  · exact .refused s _
  · next i _ =>
    split
    · exact .refused s _
    · next sub f _ =>
      split
      · exact .refused s _
      · split
        · exact .refused s _
        · split
          · exact .refused s _
          · exact .setPane (State.setVacated_panes ((State.unbindOpt_display _ _).trans (State.bindOpt_display _ _)) _ i _ lbusy) nofun

theorem paneClear_orphans (pane : Byte) (lbusy : Bool) (s : State) : NoOrphans s (paneClear pane lbusy s) := by
  simp only [paneClear]
  split
  · exact .refused s _
  · next i _ => exact .setPane (State.setVacated_panes (State.unbindOpt_display _ _) _ i _ lbusy) (by decide)

theorem State.renderPane_state (s : State) (i j : Fin 16) : (s.renderPane i).display.panes[j].state = s.display.panes[j].state := by
  unfold State.renderPane
  dsimp only
  split
  · show (s.display.panes.set i _)[j].state = _
    rw [vset_get]
    split
    · next same => rw [← same]
    · rfl
  · rfl

theorem State.render_state (s : State) (j : Fin 16) : s.render.display.panes[j].state = s.display.panes[j].state := by
  have fold : ∀ (l : List (Fin 16)) (u : State), (l.foldl State.renderPane u).display.panes[j].state = u.display.panes[j].state := fun l => by
    induction l with
    | nil => exact fun _ => rfl
    | cons i l ih => exact fun u => (ih _).trans (u.renderPane_state i j)
  unfold State.render
  rw [fold]
  exact (s.deriveHighlights_upTo.panes j).state

theorem State.nextInterval_panes (s : State) : s.nextInterval.display.panes = s.display.panes := rfl

theorem refreshTick_state (lbusy : Bool) (s : State) (j : Fin 16) :
    (refreshTick lbusy s).display.panes[j].state = s.display.panes[j].state := by
  unfold refreshTick
  split
  · have after := congrArg Display.panes (State.panelTest_display lbusy s.render.nextInterval)
    exact (congrArg (fun panes : Vector Pane 16 => panes[j].state) (after.trans s.render.nextInterval_panes)).trans (s.render_state j)
  · rfl

theorem highlightsFollow_blind : Blind HighlightsFollow where
  refl := HighlightsFollow.refl
  trans := HighlightsFollow.trans
  write _ _ watches panes _ := .of_same watches panes
  evaluate := State.evaluate_follows
  mark := State.markPanes_follows
  derive := State.derive_follows

theorem effect_highlights (c : Instr) (s : State) : HighlightsDerived s (effect c s) := by
  have blind := highlightsFollow_blind
  have refused : ∀ st, HighlightsDerived s (s.refuse st) := fun _ => .of_silent rfl fun _ => id
  by_cases plain : isPlain c = true
  · exact .of_follow (blind.parts.plain plain s)
  cases c
  case fullReset sense => exact .of_none fun j => congrArg Pane.state (replicate_get 16 _ j)
  case devRestart => exact .of_none fun j => congrArg Pane.state (replicate_get 16 _ j)
  case tgtRead x first max clear => exact .of_follow (blind.tgtRead x first max clear s)
  case tgtDeclare decoder address pinned => exact .of_follow (blind.tgtDeclare decoder address pinned s)
  case tgtSetCell x register value => exact .of_follow (blind.tgtSetCell x register value s)
  case tgtExpect x register operation value mask => exact .of_follow (blind.tgtExpect x register operation value mask s)
  case tgtDropCell x register => exact .of_follow (blind.tgtDropCell x register s)
  case tgtPin x on => exact .of_follow (blind.tgtPin x on s)
  case tgtRetire x force =>
    simp only [effect, tgtRetire]
    refine .of_follow (blind.withRecord fun i r => ?_)
    split
    · exact .of_same rfl rfl
    · exact HighlightsFollow.trans _ _ _ (s.retireNotice_follows _) (.of_same rfl rfl)
  case wchSet watch sub cond level actions =>
    simp only [effect, wchSet]
    repeat' split
    · exact refused _
    · exact refused _
    · exact refused _
    · exact (State.setWatches_highlights _ _).of_same (by simp) (by simp) rfl rfl
  case wchClear watch =>
    simp only [effect, wchClear]
    repeat' split
    · exact refused _
    · exact refused .ok
    · exact (State.setWatches_highlights _ _).of_same (by simp) (by simp) rfl rfl
  case ntcAckWatch watch =>
    simp only [effect, ntcAckWatch]
    repeat' split
    · exact refused _
    · exact refused _
    · exact (State.setWatches_highlights _ _).of_same rfl rfl rfl rfl
  case paneSet pane row column width height kind names format label lbusy =>
    exact .of_silent (congrArg WatchUnit.watches (paneSet_watch pane row column width height kind names format label lbusy s))
      (paneSet_orphans pane row column width height kind names format label lbusy s)
  case paneClear pane lbusy => exact .of_silent (congrArg WatchUnit.watches (paneClear_watch pane lbusy s)) (paneClear_orphans pane lbusy s)
  case refreshTick lbusy =>
    exact .of_silent (congrArg WatchUnit.watches (refreshTick_watch lbusy s)) fun j orphaned => (refreshTick_state lbusy s j).symm.trans orphaned
  all_goals exact absurd rfl plain

end Sys2Proof.Machine
end

section
/-! What subjects read, when conditions hold, and what an evaluation makes of a watch (R126 to R132). -/

namespace Sys2Proof.Machine

/-! ### Subjects (R126) -/

theorem Sample.present_setWidth {n : Nat} (x : BitVec n) :
    Sample.present (x.setWidth 32) = { value := some (BitVec.ofNat 32 x.toNat), expected := none } := by
  rw [BitVec.ofNat_toNat]
  rfl

theorem Sample.present_word (x : Word) : Sample.present x = { value := some (BitVec.ofNat 32 x.toNat), expected := none } := by
  rw [BitVec.ofNat_toNat, BitVec.setWidth_eq]
  rfl

theorem cellSample_some (c : TargetCell) :
    cellSample (some c) = { value := c.value.map fun v => BitVec.ofNat 32 v.toNat, expected := c.expected } := by
  have widened : (fun v : Byte => BitVec.ofNat 32 v.toNat) = fun v => v.setWidth 32 := funext fun v => BitVec.ofNat_toNat 32 v
  rw [widened]
  rfl

theorem State.subjectSample_cell {s : State} {h : Handle} {i : Fin 64} {r : Record} (reach : s.store.reach h = some (i, r)) (reg : Byte) :
    s.subjectSample (.targetCell h reg) = cellSample (cellAt reg r.cells) := by
  unfold State.subjectSample
  dsimp only
  rw [reach]

theorem State.subjectSample_field {s : State} {h : Handle} {i : Fin 64} {r : Record} (reach : s.store.reach h = some (i, r)) (f : TargetField) :
    s.subjectSample (.targetField h f) = Sample.present ((r.field f).setWidth 32) := by
  unfold State.subjectSample
  dsimp only
  rw [reach]

theorem State.subjectSample_stale {s : State} {h : Handle} (stale : s.store.reach h = none) (reg : Byte) (f : TargetField) :
    s.subjectSample (.targetCell h reg) = Sample.absent ∧ s.subjectSample (.targetField h f) = Sample.absent := by
  unfold State.subjectSample
  dsimp only
  rw [stale]
  exact ⟨rfl, rfl⟩

/-! ### Conditions (R127, R128) -/

theorem Condition.holds_absent (c : Condition) {smp : Sample} (absent : smp.value = Option.none) : c.holds smp = false := by
  unfold Condition.holds
  rw [absent]

/-- The table of R127 and R128: when a condition holds of a present value with its cell's expected part. -/
def Condition.Met (v : Word) (expected : Option Expected) : Condition → Prop
  | .none => False
  | .equal x m => v &&& m = x &&& m
  | .differ x m => v &&& m ≠ x &&& m
  | .above x => x < v
  | .below x => v < x
  | .outside lo hi => v < lo ∨ hi < v
  | .mismatch => ∃ e, expected = some e ∧ (v ^^^ e.value.setWidth 32) &&& e.mask.setWidth 32 ≠ 0
  | .change => False

theorem Condition.holds_iff (c : Condition) {smp : Sample} {v : Word} (value : smp.value = some v) : c.holds smp = true ↔ c.Met v smp.expected := by
  unfold Condition.holds Condition.Met
  rw [value]
  cases c with
  | mismatch =>
    dsimp only
    cases smp.expected with
    | none => simp
    | some e => simp [mismatches]
  | _ => simp

/-! ### Evaluation (R130 to R132) -/

section
variable {w : Watch} (ms : Word) {now : Sample}

section
variable (level : w.condition ≠ .change)
include level

theorem Watch.evaluate_level : w.evaluate ms now = { w.moveLevel ms now with sample := now } := by
  unfold Watch.evaluate
  rw [if_neg fun change => level (Condition.isChange_iff.mp change)]

theorem Watch.evaluate_level_trips (idle : w.state = .idle) (holds : w.condition.holds now = true) :
    w.evaluate ms now = { w with state := .tripped, hits := satInc w.hits, lastTrip := some ms, sample := now } := by
  rw [Watch.evaluate_level ms level]
  unfold Watch.moveLevel
  rw [idle, holds]
  rfl

theorem Watch.evaluate_level_frees (held : w.state = .held) (fails : w.condition.holds now = false) :
    w.evaluate ms now = { w with state := .idle, sample := now } := by
  rw [Watch.evaluate_level ms level]
  unfold Watch.moveLevel
  rw [held, fails]

omit level in
theorem Watch.moveLevel_stays (stays : w.state = .tripped ∨ (w.state = .idle ∧ w.condition.holds now = false) ∨
    (w.state = .held ∧ w.condition.holds now = true)) : w.moveLevel ms now = w := by
  unfold Watch.moveLevel
  rcases stays with tripped | ⟨idle, fails⟩ | ⟨held, holds⟩
  · rw [tripped]
  · rw [idle, fails]
  · rw [held, holds]

theorem Watch.evaluate_level_stays (stays : w.state = .tripped ∨ (w.state = .idle ∧ w.condition.holds now = false) ∨
    (w.state = .held ∧ w.condition.holds now = true)) : w.evaluate ms now = { w with sample := now } := by
  rw [Watch.evaluate_level ms level, Watch.moveLevel_stays ms stays]

end

section
variable (change : w.condition = .change)
include change

theorem Watch.evaluate_change : w.evaluate ms now = { w.moveChange ms now with sample := now } := by
  unfold Watch.evaluate
  rw [if_pos (Condition.isChange_iff.mpr change)]

theorem Watch.evaluate_change_trips (idle : w.state = .idle) (changes : isChange w.sample now = true) :
    w.evaluate ms now = { w with state := .tripped, hits := satInc w.hits, lastTrip := some ms, sample := now } := by
  rw [Watch.evaluate_change ms change]
  unfold Watch.moveChange
  rw [if_pos changes, idle]
  rfl

theorem Watch.evaluate_change_counts (tripped : w.state = .tripped) (changes : isChange w.sample now = true) :
    w.evaluate ms now = { w with hits := satInc w.hits, sample := now } := by
  have counts : w.moveChange ms now = { w with hits := satInc w.hits } := by
    unfold Watch.moveChange
    rw [if_pos changes, tripped]
  rw [Watch.evaluate_change ms change, counts]

omit change in
theorem Watch.moveChange_stays (stays : w.state = .held ∨ ¬ isChange w.sample now = true) : w.moveChange ms now = w := by
  unfold Watch.moveChange
  rcases stays with held | same
  · rw [held]
    split <;> rfl
  · rw [if_neg same]

theorem Watch.evaluate_change_stays (stays : w.state = .held ∨ ¬ isChange w.sample now = true) :
    w.evaluate ms now = { w with sample := now } := by
  rw [Watch.evaluate_change ms change, Watch.moveChange_stays ms stays]

end

end

/-- Settles O41: subjects, conditions, evaluations, and the highlights after every command. -/
theorem reportEvaluates : Obligations.ReportEvaluates := by
  refine ⟨fun s => ?_, fun smp => ⟨fun c absent => c.holds_absent absent, fun v value => ?_⟩, fun covers s => ?_, fun c s =>
    makesSome_of_take (effect c) (exec_eq c s) (effect_highlights c s)⟩
  · intro present absent
    have word : ∀ x : Word, Sample.present x = present x.toNat := Sample.present_word
    have half : ∀ x : Half, Sample.present (x.setWidth 32) = present x.toNat := Sample.present_setWidth
    refine ⟨rfl, fun h reg f => ⟨fun stale => State.subjectSample_stale stale reg f, fun i r slot record gen => ?_⟩, fun m => ?_,
      fun p => Sample.present_setWidth _, fun d => ⟨half _, half _⟩⟩
    · have reach := Store.reach_of slot record gen
      refine ⟨fun none => ?_, fun c there => ?_, (State.subjectSample_field reach _).trans (half _), (State.subjectSample_field reach _).trans (half _),
        (State.subjectSample_field reach _).trans (half _)⟩
      · rw [State.subjectSample_cell reach, none]
        rfl
      · rw [State.subjectSample_cell reach, there, cellSample_some]
    · exact ⟨if_congr Iff.rfl rfl (word _), if_congr Iff.rfl rfl (word _), if_congr Iff.rfl rfl (word _), word _, half _⟩
  · have holds := fun c : Condition => c.holds_iff value
    exact ⟨Bool.not_eq_true _ ▸ (holds .none).mp, Bool.not_eq_true _ ▸ (holds .change).mp, fun x m => holds (.equal x m), fun x m => holds (.differ x m),
      fun x => holds (.above x), fun x => holds (.below x), fun lo hi => holds (.outside lo hi), holds .mismatch⟩
  · intro u
    refine ⟨State.evaluate_derived covers s, fun i => ?_⟩
    intro w now changes tripped
    have evaluated : w.state.active = true → covers w.subject = true → u.watch.watches[i] = w.evaluate s.clock.ms now := fun active covered =>
      (State.evaluate_get covers s i).trans (if_pos (Bool.and_eq_true_iff.mpr ⟨active, covered⟩))
    have active : ∀ {st : WatchState}, w.state = st → st = .idle ∨ st = .tripped ∨ st = .held → w.state.active = true := by
      rintro _ rfl (e | e | e) <;> rw [e] <;> rfl
    have isChange : changes ↔ isChange w.sample now = true := by
      rw [isChange_iff, ← Option.isSome_iff_ne_none]
    refine ⟨fun quiet => (State.evaluate_get covers s i).trans (if_neg fun both => ?_), fun covered level => ⟨fun idle holds => ?_, fun held fails => ?_,
      fun stays => ?_⟩, fun covered change => ⟨fun idle differs => ?_, fun trip differs => ?_, fun stays => ?_⟩⟩
    · obtain ⟨on, covered⟩ := Bool.and_eq_true_iff.mp both
      exact quiet.elim (fun no => nomatch no.symm.trans on) fun no => nomatch no.symm.trans covered
    · exact (evaluated (active idle (by decide)) covered).trans (Watch.evaluate_level_trips _ level idle holds)
    · exact (evaluated (active held (by decide)) covered).trans (Watch.evaluate_level_frees _ level held fails)
    · have on : w.state.active = true := by
        rcases stays with trip | ⟨idle, _⟩ | ⟨held, _⟩
        · exact active trip (by decide)
        · exact active idle (by decide)
        · exact active held (by decide)
      exact (evaluated on covered).trans (Watch.evaluate_level_stays _ level stays)
    · exact (evaluated (active idle (by decide)) covered).trans (Watch.evaluate_change_trips _ change idle (isChange.mp differs))
    · exact (evaluated (active trip (by decide)) covered).trans (Watch.evaluate_change_counts _ change trip (isChange.mp differs))
    · have on : w.state.active = true := stays.elim (fun held => active held (by decide)) And.left
      exact (evaluated on covered).trans (Watch.evaluate_change_stays _ change (stays.imp_right fun same differs => same.2 (isChange.mpr differs)))

end Sys2Proof.Machine
end

section
/-! The current notice, ATTN and the freeze (R140, R148, R149). -/

namespace Sys2Proof.Machine

section
variable (u : WatchUnit)

theorem Watch.isNotice_iff (w : Watch) : w.isNotice = true ↔ w.state = .tripped ∧ 1 ≤ w.level.toNat ∧ w.level.toNat ≤ 14 := by
  simp only [Watch.isNotice, Bool.and_eq_true, beq_iff_eq, decide_eq_true_eq, and_assoc]

/-- Watch `i` comes before watch `j` as a notice, or is it: by its level, and by its index on ties (R140). -/
def WatchUnit.Before (i j : Fin 32) : Prop := u.watches[i].level < u.watches[j].level ∨ (u.watches[i].level = u.watches[j].level ∧ i ≤ j)

theorem WatchUnit.Before.antisymm {u : WatchUnit} {i j : Fin 32} (h : u.Before i j) (k : u.Before j i) : i = j := by
  rcases h with less | ⟨same, le⟩
  · rcases k with more | ⟨same, _⟩
    · exact absurd more (BitVec.not_lt.mpr (BitVec.le_of_lt less))
    · exact absurd less (same ▸ BitVec.lt_irrefl _)
  · rcases k with more | ⟨_, ge⟩
    · exact absurd more (same ▸ BitVec.lt_irrefl _)
    · exact le_antisymm le ge

/-- The first notice among some watches, or that none of them is one. -/
def WatchUnit.First (among : List (Fin 32)) : Option (Fin 32) → Prop
  | none => ∀ j ∈ among, ¬ u.watches[j].isNotice = true
  | some i => u.watches[i].isNotice = true ∧ i ∈ among ∧ ∀ j ∈ among, u.watches[j].isNotice = true → u.Before i j

theorem WatchUnit.First.lowerNotice {u : WatchUnit} {before : List (Fin 32)} {best : Option (Fin 32)} {i : Fin 32} (h : u.First before best)
    (later : ∀ j ∈ before, j < i) : u.First (before ++ [i]) (u.lowerNotice best i) := by
  have last : i ∈ before ++ [i] := List.mem_append_right _ (List.mem_singleton_self i)
  have own : u.Before i i := Or.inr ⟨rfl, le_rfl⟩
  unfold WatchUnit.lowerNotice
  split
  · next notice =>
    cases best with
    | none =>
      refine ⟨notice, last, fun j among isNotice => (List.mem_append.mp among).elim (fun old => absurd isNotice (h j old)) fun new => ?_⟩
      exact List.mem_singleton.mp new ▸ own
    | some k =>
      obtain ⟨isNotice, within, first⟩ := h
      dsimp only
      split
      · next lower =>
        refine ⟨notice, last, fun j among isNotice => (List.mem_append.mp among).elim (fun old => ?_) fun new => List.mem_singleton.mp new ▸ own⟩
        rcases first j old isNotice with less | ⟨same, _⟩
        · exact Or.inl (BitVec.lt_trans lower less)
        · exact Or.inl (same ▸ lower)
      · next not =>
        refine ⟨isNotice, List.mem_append_left _ within, fun j among isNotice => (List.mem_append.mp among).elim (fun old => first j old isNotice)
          fun new => ?_⟩
        obtain rfl := List.mem_singleton.mp new
        exact (Nat.lt_or_eq_of_le (BitVec.not_lt.mp not)).imp BitVec.lt_def.mpr fun same => ⟨BitVec.eq_of_toNat_eq same, (later k within).le⟩
  · next not =>
    cases best with
    | none => exact fun j among => (List.mem_append.mp among).elim (h j) fun new => List.mem_singleton.mp new ▸ not
    | some k =>
      obtain ⟨isNotice, within, first⟩ := h
      exact ⟨isNotice, List.mem_append_left _ within, fun j among isNotice => (List.mem_append.mp among).elim (fun old => first j old isNotice)
        fun new => absurd isNotice (List.mem_singleton.mp new ▸ not)⟩

theorem WatchUnit.noticeWatch_first : u.First (List.finRange 32) u.noticeWatch :=
  foldl_ascending (fun _ _ _ first later => first.lowerNotice later) nofun

theorem WatchUnit.noticeWatch_eq_none : u.noticeWatch = none ↔ ∀ i : Fin 32, ¬ u.watches[i].isNotice = true := by
  have first := u.noticeWatch_first
  cases watch : u.noticeWatch with
  | none =>
    rw [watch] at first
    exact iff_of_true rfl fun i => first i (List.mem_finRange i)
  | some i =>
    rw [watch] at first
    exact iff_of_false nofun fun none => none i first.1

theorem WatchUnit.noticeWatch_eq_some {i : Fin 32} : u.noticeWatch = some i ↔
    u.watches[i].isNotice = true ∧ ∀ j : Fin 32, u.watches[j].isNotice = true → u.Before i j := by
  have first := u.noticeWatch_first
  cases watch : u.noticeWatch with
  | none =>
    rw [watch] at first
    exact iff_of_false nofun fun ⟨notice, _⟩ => first i (List.mem_finRange i) notice
  | some k =>
    rw [watch] at first
    obtain ⟨notice, _, before⟩ := first
    constructor
    · intro same
      obtain rfl := Option.some.inj same
      exact ⟨notice, fun j => before j (List.mem_finRange j)⟩
    · rintro ⟨own, least⟩
      exact congrArg some (WatchUnit.Before.antisymm (before i (List.mem_finRange i) own) (least k notice))

/-- No device notice is pending (R139). -/
def WatchUnit.Quiet : Prop := u.podFault = 0 ∧ u.podChange = 0 ∧ u.panelLost = false ∧ u.storeFull = false ∧ u.cellsFull = false

theorem WatchUnit.currentOf_quiet {u : WatchUnit} (quiet : u.Quiet) : u.currentOf = u.noticeWatch.elim .none .watch := by
  obtain ⟨fault, change, lost, store, cells⟩ := quiet
  unfold WatchUnit.currentOf
  rw [if_neg (not_not.mpr fault), if_neg (not_not.mpr change), lost, store, cells]
  cases u.noticeWatch <;> rfl

theorem WatchUnit.currentOf_device {u : WatchUnit} (loud : ¬ u.Quiet) : u.noticeLevel u.currentOf = some 0 := by
  unfold WatchUnit.currentOf
  split_ifs with fault change lost store cells
  · rfl
  · rfl
  · rfl
  · rfl
  · rfl
  · exact absurd ⟨not_not.mp fault, not_not.mp change, Bool.not_eq_true _ ▸ lost, Bool.not_eq_true _ ▸ store, Bool.not_eq_true _ ▸ cells⟩ loud

theorem WatchUnit.attnOf_iff : u.attnOf = true ↔ ∃ level, u.noticeLevel u.currentOf = some level ∧ level < u.attention := by
  unfold WatchUnit.attnOf
  cases u.noticeLevel u.currentOf <;> simp

end

/-- Settles O42: the current notice, ATTN, the watch cause and the freeze. -/
theorem currentNotice : Obligations.CurrentNotice := by
  intro u quiet notice
  have isNotice : ∀ i : Fin 32, u.watches[i].isNotice = true ↔ notice i := fun i => Watch.isNotice_iff _
  have current : quiet → ∀ i, u.currentOf = .watch i ↔ notice i ∧ ∀ j, notice j → u.Before i j := fun still i => by
    simp only [← isNotice, ← u.noticeWatch_eq_some, WatchUnit.currentOf_quiet still]
    cases u.noticeWatch <;> simp
  have causes : ∀ i : Fin 32, u.watches[i].isCause u.freezeLevel = true ↔
      u.watches[i].state = .tripped ∧ u.watches[i].freezes = true ∧ u.watches[i].level < u.freezeLevel := fun i => by
    simp only [Watch.isCause, Bool.and_eq_true, beq_iff_eq, decide_eq_true_eq, and_assoc]
  refine ⟨fun fault => if_pos fault, fun fault change => ?_, fun fault change lost => ?_, fun fault change lost store => ?_,
    fun fault change lost store cells => ?_, current, ?_, ?_, fun i => ?_, ?_⟩
  · exact (if_neg (not_not.mpr fault)).trans (if_pos change)
  · exact (if_neg (not_not.mpr fault)).trans ((if_neg (not_not.mpr change)).trans (if_pos lost))
  · unfold WatchUnit.currentOf
    rw [if_neg (not_not.mpr fault), if_neg (not_not.mpr change), lost, store]
    rfl
  · unfold WatchUnit.currentOf
    rw [if_neg (not_not.mpr fault), if_neg (not_not.mpr change), lost, store, cells]
    rfl
  · by_cases still : quiet
    · rw [and_iff_right still, WatchUnit.currentOf_quiet still]
      simp only [← isNotice, ← u.noticeWatch_eq_none]
      cases u.noticeWatch <;> simp
    · refine iff_of_false (fun none => ?_) fun h => still h.1
      have level := WatchUnit.currentOf_device still
      rw [none] at level
      cases level
  · rw [WatchUnit.attnOf_iff]
    constructor
    · rintro ⟨level, own, less⟩
      by_cases still : quiet
      · rw [WatchUnit.currentOf_quiet still] at own ⊢
        cases watch : u.noticeWatch with
        | none =>
          rw [watch] at own
          cases own
        | some i =>
          rw [watch] at own
          exact Or.inr ⟨i, rfl, Option.some.inj own ▸ less⟩
      · rw [WatchUnit.currentOf_device still] at own
        exact Or.inl ⟨still, BitVec.lt_def.mp ((Option.some.inj own).symm ▸ less : (0 : Byte) < u.attention)⟩
    · rintro (⟨loud, some⟩ | ⟨i, current, less⟩)
      · exact ⟨0, WatchUnit.currentOf_device loud, BitVec.lt_def.mpr some⟩
      · exact ⟨_, congrArg u.noticeLevel current, less⟩
  · rw [WatchUnit.causeOf, maskOf_getLsbD, causes]
  · rw [WatchUnit.freezeOf_iff]
    simp only [causes]

end Sys2Proof.Machine
end

section
/-! The tables of WCH_SET's bytes, and the requests of a watch (R127, R135 to R137, R217). -/

namespace Sys2Proof.Machine

/-! ### The subject bytes (R217) -/

/-- The two bytes of a number (R211). -/
theorem append_eq_iff {number : Half} {high low : Byte} : number = high ++ low ↔ number.extractLsb' 8 8 = high ∧ number.extractLsb' 0 8 = low := by
  have whole : (high ++ low).toNat = high.toNat * 256 + low.toNat := ofBe16_toNat high low
  have small := number.isLt
  have lowSmall := low.isLt
  have highSmall := high.isLt
  rw [← BitVec.toNat_inj, ← BitVec.toNat_inj, ← BitVec.toNat_inj, whole, BitVec.extractLsb'_toNat, BitVec.extractLsb'_toNat,
    Nat.shiftRight_eq_div_pow, Nat.shiftRight_eq_div_pow]
  omega

theorem handle?_eq_some {number : Half} {h : Handle} : handle? number = some h ↔ h.slot.toNat < 64 ∧ number = h.gen ++ h.slot := by
  obtain ⟨gen, slot⟩ := h
  unfold handle?
  simp only [Option.ite_none_right_eq_some, Option.some.injEq, Handle.mk.injEq, append_eq_iff]
  constructor
  · rintro ⟨small, rfl, rfl⟩
    exact ⟨small, rfl, rfl⟩
  · rintro ⟨small, rfl, rfl⟩
    exact ⟨small, rfl, rfl⟩

theorem index16?_eq_some {n : Nat} {h : Half} {i : Fin n} : index16? n h = some i ↔ h.toNat = i.val := by
  unfold index16?
  split
  · rw [Option.some.injEq, Fin.ext_iff]
  · next out => exact iff_of_false nofun fun same => out (same ▸ i.isLt)

theorem targetField?_eq_some {b : Byte} {f : TargetField} : targetField? b = some f ↔
    (b = 0 ∧ f = .access) ∨ (b = 1 ∧ f = .error) ∨ (b = 2 ∧ f = .unanswered) := by
  revert b
  cases f <;> decide

theorem meterField?_eq_some {b : Byte} {f : MeterField} : meterField? b = some f ↔
    (b = 0 ∧ f = .last) ∨ (b = 1 ∧ f = .min) ∨ (b = 2 ∧ f = .max) ∨ (b = 3 ∧ f = .count) ∨ (b = 4 ∧ f = .disturbed) := by
  revert b
  cases f <;> decide

theorem decoderField?_eq_some {b : Byte} {f : DecoderField} : decoderField? b = some f ↔ (b = 0 ∧ f = .aborted) ∨ (b = 1 ∧ f = .unknown) := by
  revert b
  cases f <;> decide

theorem subject?_eq_some {b : SubjectBytes} {sub : Subject} : subject? b = some sub ↔
    (∃ h, b.kind = 1 ∧ handle? b.number = some h ∧ sub = .targetCell h b.field) ∨
    (∃ h f, b.kind = 2 ∧ handle? b.number = some h ∧ sub = .targetField h f ∧ targetField? b.field = some f) ∨
    (∃ m f, b.kind = 3 ∧ index16? 8 b.number = some m ∧ sub = .meter m f ∧ meterField? b.field = some f) ∨
    (∃ p, b.kind = 4 ∧ index16? 4 b.number = some p ∧ sub = .pod p) ∨
    (∃ d f, b.kind = 5 ∧ index16? 6 b.number = some d ∧ sub = .decoder d f ∧ decoderField? b.field = some f) := by
  unfold subject?
  split_ifs with one two three four five
  · simp [one, eq_comm]
  · rw [two]
    cases handle? b.number <;> cases targetField? b.field <;> simp [eq_comm]
  · rw [three]
    cases index16? 8 b.number <;> cases meterField? b.field <;> simp [eq_comm]
  · simp [four, eq_comm]
  · rw [five]
    cases index16? 6 b.number <;> cases decoderField? b.field <;> simp [eq_comm]
  · simp only [one, two, three, four, five, false_and, exists_false, or_self]

/-! ### The condition bytes (R127) -/

theorem condition?_eq_some {b : ConditionBytes} {c : Condition} : condition? b = some c ↔
    (b.code = 1 ∧ c = .equal b.first b.second) ∨ (b.code = 2 ∧ c = .differ b.first b.second) ∨
    (b.code = 3 ∧ c = .above b.first) ∨ (b.code = 4 ∧ c = .below b.first) ∨
    (b.code = 5 ∧ b.first ≤ b.second ∧ c = .outside b.first b.second) ∨ (b.code = 6 ∧ c = .mismatch) ∨
    (b.code = 7 ∧ c = .change) := by
  unfold condition?
  split_ifs with one two three four five crossed six seven
  · simp [one, eq_comm]
  · simp [two, eq_comm]
  · simp [three, eq_comm]
  · simp [four, eq_comm]
  · simp [five, BitVec.not_le.mpr crossed]
  · simp [five, BitVec.not_lt.mp crossed, eq_comm]
  · simp [six, eq_comm]
  · simp [seven, eq_comm]
  · simp only [one, two, three, four, five, six, seven, false_and, or_self]

/-! ### The setting (R128, R135) -/

theorem Condition.fits_iff (c : Condition) (sub : Subject) : c.fits sub = true ↔ (c = .mismatch → ∃ h reg, sub = .targetCell h reg) := by
  cases c with
  | mismatch => cases sub <;> simp [Condition.fits, Subject.isCell]
  | _ => exact iff_of_true rfl nofun

theorem watchSetting?_eq_some {sub : SubjectBytes} {cond : ConditionBytes} {level actions : Byte} {w : WatchSetting} :
    watchSetting? sub cond level actions = some w ↔ subject? sub = some w.subject ∧ condition? cond = some w.condition ∧
      (w.condition = .mismatch → ∃ h reg, w.subject = .targetCell h reg) ∧ 1 ≤ level.toNat ∧ level.toNat ≤ 15 ∧
      actions.toNat < 4 ∧ w.level = level ∧ w.freezes = actions.getLsbD 0 ∧ w.marks = actions.getLsbD 1 := by
  rw [← Condition.fits_iff]
  obtain ⟨su, co, l, f, m⟩ := w
  refine ⟨fun h => ?_, fun ⟨subject, condition, fits, least, most, few, hl, hf, hm⟩ => ?_⟩
  · unfold watchSetting? at h
    split at h
    · next subject condition =>
      split at h
      · next range =>
        cases h
        exact ⟨subject, condition, range.1, range.2.1, range.2.2.1, range.2.2.2, rfl, rfl, rfl⟩
      · cases h
    · cases h
  · dsimp only at subject condition fits hl hf hm
    subst hl hf hm
    unfold watchSetting?
    rw [subject, condition]
    exact if_pos ⟨fits, least, most, few⟩

/-! ### WCH_SET, WCH_CLEAR and WCH_READ (R135 to R137) -/

theorem State.bindable_iff {s : State} {o : Option Handle} : s.bindable o = false ↔ ∃ h, o = some h ∧ s.store.reach h = none := by
  cases o with
  | none => exact iff_of_false nofun fun ⟨_, e, _⟩ => nomatch e
  | some h =>
    unfold State.bindable
    simp

theorem State.bind_eq (o : Option Handle) (s : State) : s.bind? o = { s with store := (s.bind? o).store } := by
  cases o with
  | none => rfl
  | some h =>
    unfold State.bind? State.bind
    dsimp only
    split <;> rfl

theorem State.unbind_eq (o : Option Handle) (s : State) : s.unbind? o = { s with store := (s.unbind? o).store } := by
  cases o with
  | none => rfl
  | some h =>
    unfold State.unbind? State.unbind
    dsimp only
    split <;> rfl

theorem State.rebind_eq (new old : Option Handle) (s : State) :
    (s.bind? new).unbind? old = { s with store := ((s.bind? new).unbind? old).store } :=
  (State.unbind_eq old (s.bind? new)).trans (congrArg (fun t : State => { t with store := ((s.bind? new).unbind? old).store }) (State.bind_eq new s))

/-- A watch is replaced in a state that differs in its store alone (R134). -/
theorem State.putWatch_upTo (i : Fin 32) (w : Watch) (s : State) :
    UpToReports { s with watch := { s.watch with watches := s.watch.watches.set i w } } (s.putWatch i w) := State.setWatches_upTo _ s

theorem WatchSetting.start_eq (w : WatchSetting) (now : Sample) :
    w.start now = if w.condition ≠ .change ∧ w.condition.holds now = true then .held else .idle := by
  unfold WatchSetting.start
  by_cases change : w.condition = .change
  · rw [if_pos (Condition.isChange_iff.mpr change), if_neg fun both => both.1 change]
  · rw [if_neg fun is => change (Condition.isChange_iff.mp is)]
    exact if_congr (and_iff_right change).symm rfl rfl

section
variable {watch : Byte} {sub : SubjectBytes} {cond : ConditionBytes} {level actions : Byte} {s : State}

theorem watchRequests_refused (h : 32 ≤ watch.toNat) : wchSet watch sub cond level actions s = s.refuse .badParam ∧
    wchClear watch s = s.refuse .badParam ∧ wchRead watch s = s.refuse .badParam := by
  rw [wchSet, wchClear, wchRead, index?_eq_none.mpr h]
  exact ⟨rfl, rfl, rfl⟩

variable {i : Fin 32} (named : watch.toNat = i)
include named

theorem wchSet_badParam (bad : watchSetting? sub cond level actions = none) : wchSet watch sub cond level actions s = s.refuse .badParam := by
  rw [wchSet, index?_eq_some.mpr named]
  dsimp only
  rw [bad]

theorem wchSet_sets {w : WatchSetting} (setting : watchSetting? sub cond level actions = some w) : wchSet watch sub cond level actions s =
    if s.bindable w.subject.handle? = false then s.refuse .staleHandle
    else (((s.bind? w.subject.handle?).unbind? s.watch.watches[i].holds).putWatch i (w.watch (s.subjectSample w.subject))).ok := by
  rw [wchSet, index?_eq_some.mpr named]
  dsimp only
  rw [setting]
  dsimp only
  rw [State.subjectSample_unbind, State.subjectSample_bind]

theorem wchClear_eq : wchClear watch s = if s.watch.watches[i].state = .off then s.ok
    else ((s.unbind? s.watch.watches[i].holds).putWatch i Watch.reset).ok := by
  rw [wchClear, index?_eq_some.mpr named]

theorem wchRead_bytes : wchRead watch s = s.answered .ok s.watch.watches[i].bytes := by
  rw [wchRead, index?_eq_some.mpr named]

end

theorem Watch.bytes_eq (w : Watch) : w.bytes = [w.state.code] ++ w.subject.bytes ++ w.condition.bytes
    ++ [w.level, boolByte w.freezes + 2 * boolByte w.marks] ++ be16 w.hits
    ++ [boolByte w.lastTrip.isSome + 2 * boolByte w.sample.value.isSome + 4 * boolByte w.sample.expected.isSome]
    ++ be32 (w.lastTrip.getD 0) ++ be32 (w.sample.value.getD 0)
    ++ [(w.sample.expected.map (·.value)).getD 0, (w.sample.expected.map (·.mask)).getD 0] := by
  unfold Watch.bytes
  rw [flags_pair, flags_triple]
  cases w.sample.expected <;> rfl

/-- A watch replaced in `t`, which is `s` but for its store, and answered. -/
theorem State.putWatch_becomes {s t : State} {i : Fin 32} (same : t = { s with store := t.store }) (w : Watch) :
    UpToReports (State.ok { s with store := t.store, watch := { s.watch with watches := s.watch.watches.set i w } }) (t.putWatch i w).ok ∧
      (t.putWatch i w).ok.watch.watches = s.watch.watches.set i w ∧ (t.putWatch i w).ok.watch.Derived := by
  have watch : t.watch = s.watch := (congrArg State.watch same).trans rfl
  have whole : { t with watch := { t.watch with watches := t.watch.watches.set i w } } =
      ({ s with store := t.store, watch := { s.watch with watches := s.watch.watches.set i w } } : State) := by
    rw [same]
  refine ⟨?_, ?_, State.setWatches_derived _ t⟩
  · rw [← whole]
    exact (State.putWatch_upTo i w t).ok
  · rw [← watch]
    exact State.setWatches_watches _ t

/-- Settles O43: the tables of the watch bytes, and WCH_SET, WCH_CLEAR and WCH_READ. -/
theorem watchRequests : Obligations.WatchRequests := by
  refine ⟨fun b sub => ?_, fun b c => condition?_eq_some, fun h reg m p d v w => ⟨rfl, rfl, rfl, rfl, rfl, rfl, rfl, rfl, rfl, rfl, rfl, rfl, rfl, rfl⟩,
    fun sub cond level actions w => watchSetting?_eq_some, fun watch sub cond level actions s => ?_⟩
  · rw [subject?_eq_some]
    simp only [handle?_eq_some, index16?_eq_some, targetField?_eq_some, meterField?_eq_some, decoderField?_eq_some]
  · intro set
    refine ⟨fun out => ⟨?_, ?_, ?_⟩, fun i named => ?_⟩
    · exact makes_of_eq (wchSet watch sub cond level actions) rfl (watchRequests_refused out).1
    · exact makes_of_eq (wchClear watch) rfl (watchRequests_refused (sub := sub) (cond := cond) (level := level) (actions := actions) out).2.1
    · exact makes_of_eq (wchRead watch) rfl (watchRequests_refused (sub := sub) (cond := cond) (level := level) (actions := actions) out).2.2
    intro old becomes cleared
    refine ⟨fun bad => ?_, fun w setting => ⟨fun h names stale => ?_, fun current => ?_⟩, fun off => ?_, fun running => ?_, ?_⟩
    · exact makes_of_eq (wchSet watch sub cond level actions) rfl (wchSet_badParam named bad)
    · exact makes_of_eq (wchSet watch sub cond level actions) rfl ((wchSet_sets named setting).trans (if_pos (State.bindable_iff.mpr ⟨h, names, stale⟩)))
    · intro now new e
      have bound : ¬ s.bindable w.subject.handle? = false := fun unbound => by
        obtain ⟨h, names, stale⟩ := State.bindable_iff.mp unbound
        exact current h names stale
      have starts : w.watch (s.subjectSample w.subject) = new := by
        unfold WatchSetting.watch
        rw [WatchSetting.start_eq]
      have sets := (wchSet_sets named setting).trans (if_neg bound)
      rw [starts] at sets
      exact (makes_of_eq (wchSet watch sub cond level actions) rfl sets).some (State.putWatch_becomes (State.rebind_eq _ _ s) new)
    · exact makes_of_eq (wchClear watch) rfl ((wchClear_eq named).trans (if_pos off))
    · intro e
      have clears := (wchClear_eq named).trans (if_neg running)
      exact (makes_of_eq (wchClear watch) rfl clears).some (State.putWatch_becomes (State.rebind_eq none _ s) cleared)
    · have reads := wchRead_bytes (s := s) named
      rw [Watch.bytes_eq] at reads
      exact makes_of_eq (wchRead watch) rfl reads

end Sys2Proof.Machine
end

section
/-! The tables of PANE_SET's bytes, and the requests of a pane (R160 to R164, R168, R217). -/

namespace Sys2Proof.Machine

/-! ### The setting (R160, R161) -/

theorem format?_eq_some {b : Byte} {f : Format} : format? b = some f ↔
    (b = 0 ∧ f = .hex) ∨ (b = 1 ∧ f = .dec) ∨ (b = 2 ∧ f = .bin) ∨ (b = 3 ∧ f = .time) := by
  revert b
  cases f <;> decide

/-- A METER pane shows no DISTURBED field (R160). -/
theorem paneField?_eq_some {b : Byte} {f : MeterField} : meterField? b = some f ∧ f ≠ .disturbed ↔
    (b = 0 ∧ f = .last) ∨ (b = 1 ∧ f = .min) ∨ (b = 2 ∧ f = .max) ∨ (b = 3 ∧ f = .count) := by
  revert b
  cases f <;> decide

theorem paneSubject?_eq_some {kind : Byte} {n : NameBytes} {sub : PaneSubject} : paneSubject? kind n = some sub ↔
    (kind = 0 ∧ sub = .none) ∨
    (kind = 1 ∧ n.n1.toNat < 64 ∧ 1 ≤ n.n3.toNat ∧ n.n3.toNat ≤ 16 ∧ n.n2.toNat + n.n3.toNat ≤ 256 ∧
      sub = .target { gen := n.n0, slot := n.n1 } n.n2 n.n3) ∨
    (∃ m fl, kind = 2 ∧ index? 8 n.n0 = some m ∧ sub = .meter m fl ∧ meterField? n.n1 = some fl ∧ fl ≠ .disturbed) ∨
    (∃ p, kind = 3 ∧ index? 4 n.n0 = some p ∧ sub = .pod p) ∨ (∃ w, kind = 4 ∧ index? 32 n.n0 = some w ∧ sub = .watch w) ∨
    (∃ d, kind = 5 ∧ index? 6 n.n0 = some d ∧ sub = .decoder d) ∨ (kind = 6 ∧ sub = .device) := by
  unfold paneSubject?
  split_ifs with zero one range two three four five six
  · simp [zero, eq_comm]
  · simp [one, range, eq_comm]
  · have other : ∀ k : Byte, k ≠ 1 → kind ≠ k := fun k different same => different (same.symm.trans one)
    simp only [other _ (by decide : (0 : Byte) ≠ 1), other _ (by decide : (2 : Byte) ≠ 1), other _ (by decide : (3 : Byte) ≠ 1),
      other _ (by decide : (4 : Byte) ≠ 1), other _ (by decide : (5 : Byte) ≠ 1), other _ (by decide : (6 : Byte) ≠ 1), false_and, exists_false,
      or_false, false_or]
    exact iff_of_false nofun fun ⟨_, slot, least, most, fits, _⟩ => range ⟨slot, least, most, fits⟩
  · rw [two]
    cases index? 8 n.n0 <;> cases meterField? n.n1 <;> simp [eq_comm, and_comm]
  · simp [three, eq_comm]
  · simp [four, eq_comm]
  · simp [five, eq_comm]
  · simp [six, eq_comm]
  · simp only [zero, one, two, three, four, five, six, false_and, exists_false, or_self]

theorem PaneSubject.takes_iff (sub : PaneSubject) (f : Format) : sub.takes f = true ↔
    (∀ h first count, sub = .target h first count → f ≠ .time) ∧ ∀ m fl, sub = .meter m fl → f ≠ .bin := by
  cases sub <;> simp [PaneSubject.takes]

theorem labelOk_iff (label : List Byte) : labelOk label = true ↔ label.length ≤ 40 ∧ ∀ x ∈ label, 0x20 ≤ x.toNat ∧ x.toNat ≤ 0x7E := by
  simp only [labelOk, Bool.and_eq_true, decide_eq_true_eq, List.all_eq_true]

theorem paneSetting?_eq_some {kind : Byte} {n : NameBytes} {format : Byte} {label : List Byte} {sub : PaneSubject} {f : Format} :
    paneSetting? kind n format label = some (sub, f) ↔
      paneSubject? kind n = some sub ∧ format? format = some f ∧ sub.takes f = true ∧ labelOk label = true := by
  refine ⟨fun h => ?_, fun ⟨subject, format, takes, label⟩ => ?_⟩
  · unfold paneSetting? at h
    split at h
    · next subject format =>
      split at h
      · next both =>
        obtain ⟨takes, label⟩ := Bool.and_eq_true_iff.mp both
        cases h
        exact ⟨subject, format, takes, label⟩
      · cases h
    · cases h
  · unfold paneSetting?
    rw [subject, format]
    exact if_pos (Bool.and_eq_true_iff.mpr ⟨takes, label⟩)

/-! ### Rectangles (R161) -/

theorem Rect.covers_iff (r : Rect) (row col : Nat) : r.covers row col = true ↔
    r.row ≤ row ∧ row < r.row + r.height ∧ r.col ≤ col ∧ col < r.col + r.width := by
  simp only [Rect.covers, Bool.and_eq_true, decide_eq_true_eq, and_assoc]

/-- Two rectangles in the grid meet in a cell of the grid. -/
theorem Rect.meets_iff {a b : Rect} (ha : a.InGrid) (hb : b.InGrid) : a.meets b = true ↔
    ∃ (r : Fin 16) (c : Fin 40), b.covers r c = true ∧ a.covers r c = true := by
  constructor
  · intro meets
    simp only [Rect.meets, Bool.and_eq_true, decide_eq_true_eq, and_assoc] at meets
    obtain ⟨aRows, bRows, aCols, bCols⟩ := meets
    have := ha.width
    have := ha.height
    have := ha.right
    have := ha.bottom
    have := hb.width
    have := hb.height
    have := hb.right
    have := hb.bottom
    refine ⟨⟨max a.row b.row, by omega⟩, ⟨max a.col b.col, by omega⟩, ?_, ?_⟩
    · rw [Rect.covers_iff]
      dsimp only
      omega
    · rw [Rect.covers_iff]
      dsimp only
      omega
  · rintro ⟨r, c, inB, inA⟩
    exact Rect.meets_of_covers inA inB

theorem State.overlaps_iff {s : State} (ok : DisplayOk s) (i : Fin 16) {r : Rect} (inGrid : r.InGrid) : s.overlaps i r = true ↔
    ∃ j : Fin 16, j ≠ i ∧ s.display.panes[j].state ≠ .free ∧ ∃ (row : Fin 16) (col : Fin 40),
      r.covers row col = true ∧ s.display.panes[j].rect.covers row col = true := by
  unfold State.overlaps
  simp only [List.any_eq_true, List.mem_finRange, true_and, Bool.and_eq_true, bne_iff_ne, and_assoc, Rect.meets_iff (ok.inGrid _) inGrid]

/-! ### A pane in another's place (R162, R163) -/

theorem State.write_eq (r : Rect) (cells : Nat → Nat → GridCell) (s : State) : s.write r cells = { s with
    display := { s.display with grid := writeRect r cells s.display.grid }
    panel := { s.panel with dirty := s.panel.dirty ||| maskOf fun i => decide ((writeRect r cells s.display.grid)[i] ≠ s.display.grid[i]) } } := by
  have rows : changedRows s.display.grid (writeRect r cells s.display.grid) =
      maskOf fun i => decide ((writeRect r cells s.display.grid)[i] ≠ s.display.grid[i]) := mask_ext fun i => by
    rw [changedRows, maskOf_getLsbD, maskOf_getLsbD, Bool.eq_iff_iff, bne_iff_ne, decide_eq_true_iff, ne_comm]
  unfold State.write
  dsimp only
  rw [rows]
  rfl

/-- The grid with the rectangle of a pane that is not FREE blanked. -/
def Pane.vacated (p : Pane) (grid : Vector GridRow 16) : Vector GridRow 16 := tab fun r => tab fun c =>
  if p.state ≠ .free ∧ p.rect.covers r c = true then { code := 0x20, attr := .normal } else grid[r][c]

theorem State.vacateRect_eq (p : Pane) (s : State) : s.vacateRect p = { s with
    display := { s.display with grid := p.vacated s.display.grid }
    panel := { s.panel with dirty := s.panel.dirty ||| maskOf fun r => decide ((p.vacated s.display.grid)[r] ≠ s.display.grid[r]) } } := by
  unfold State.vacateRect
  split
  · next free =>
    have same : p.vacated s.display.grid = s.display.grid := vec_ext fun r => vec_ext fun c => by
      rw [Pane.vacated, tab_get, tab_get, if_neg fun used => used.1 free]
    have clean : (maskOf fun r : Fin 16 => decide (s.display.grid[r] ≠ s.display.grid[r])) = 0 := mask_ext fun r => by
      rw [maskOf_getLsbD]
      simp
    have kept : s.panel.dirty ||| 0 = s.panel.dirty := BitVec.or_zero
    rw [same, clean, kept]
  · next used =>
    have blanked : p.vacated s.display.grid = writeRect p.rect (fun _ _ => GridCell.blank) s.display.grid := vec_ext fun r => vec_ext fun c => by
      rw [Pane.vacated, tab_get, tab_get, writeRect_get]
      exact if_congr (and_iff_right used) rfl rfl
    rw [blanked]
    exact State.write_eq _ _ s

/-- A pane set where the rectangle of the old one is vacated, in `t`, which is `s` but for its store. -/
theorem State.setVacated_eq {s t : State} (same : t = { s with store := t.store }) (old : Pane) (i : Fin 16) (p : Pane) :
    (t.vacateRect old).setPane i p = { s with
      store := t.store
      display := { s.display with panes := s.display.panes.set i p, grid := old.vacated s.display.grid }
      panel := { s.panel with dirty := s.panel.dirty ||| maskOf fun r => decide ((old.vacated s.display.grid)[r] ≠ s.display.grid[r]) } } := by
  rw [State.vacateRect_eq]
  generalize t.store = store at same
  subst same
  rfl

section
variable {pane row col width height kind : Byte} {names : NameBytes} {format : Byte} {label : List Byte} {lbusy : Bool} {s : State}

theorem paneRequests_refused (out : 16 ≤ pane.toNat) :
    paneSet pane row col width height kind names format label lbusy s = s.refuse .badParam ∧ paneClear pane lbusy s = s.refuse .badParam := by
  rw [paneSet, paneClear, index?_eq_none.mpr out]
  exact ⟨rfl, rfl⟩

variable {i : Fin 16} (named : pane.toNat = i)
include named

theorem paneSet_badParam (bad : paneSetting? kind names format label = none) :
    paneSet pane row col width height kind names format label lbusy s = s.refuse .badParam := by
  rw [paneSet, index?_eq_some.mpr named]
  dsimp only
  rw [bad]

theorem paneClear_clears : paneClear pane lbusy s =
    ((((s.unbind? s.display.panes[i].holds).vacateRect s.display.panes[i]).setPane i Pane.reset).panelTest lbusy).ok := by
  rw [paneClear, index?_eq_some.mpr named]

variable {sub : PaneSubject} {f : Format} (setting : paneSetting? kind names format label = some (sub, f))
include setting

theorem paneSet_badRect (bad : rect? row col width height = none) :
    paneSet pane row col width height kind names format label lbusy s = s.refuse .badRect := by
  rw [paneSet, index?_eq_some.mpr named]
  dsimp only
  rw [setting]
  dsimp only
  rw [bad]

theorem paneSet_placed {r : Rect} (placed : rect? row col width height = some r) :
    paneSet pane row col width height kind names format label lbusy s = if s.overlaps i r = true then s.refuse .overlap
      else if s.bindable sub.handle? = false then s.refuse .staleHandle
      else (((((s.bind? sub.handle?).unbind? s.display.panes[i].holds).vacateRect s.display.panes[i]).setPane i
        (Pane.of r sub f label (s.watch.highlighted sub))).panelTest lbusy).ok := by
  rw [paneSet, index?_eq_some.mpr named]
  dsimp only
  rw [setting]
  dsimp only
  rw [placed]
  dsimp only
  rw [State.vacateRect_watch, State.unbindOpt_watch, State.bindOpt_watch]

end

/-- Settles O45: the tables of the pane bytes, PANE_SET's outcomes in the order of R161, and PANE_CLEAR. -/
theorem paneRequests : Obligations.PaneRequests := by
  refine ⟨fun kind n format label sub f => ?_, fun pane row col width height kind names format label lbusy s => ?_⟩
  · rw [paneSetting?_eq_some, paneSubject?_eq_some, format?_eq_some, PaneSubject.takes_iff, labelOk_iff, and_assoc]
    simp only [paneField?_eq_some, index?_eq_some]
  · intro set
    refine ⟨fun out => ⟨?_, ?_⟩, fun i named => ?_⟩
    · exact makes_of_eq (paneSet pane row col width height kind names format label lbusy) rfl (paneRequests_refused out).1
    · exact makes_of_eq (paneClear pane lbusy) rfl (paneRequests_refused (row := row) (col := col) (width := width) (height := height) (kind := kind)
        (names := names) (format := format) (label := label) out).2
    intro old grid becomes
    have becomes_eq : ∀ {t : State} (p : Pane), t = { s with store := t.store } →
        (((t.vacateRect old).setPane i p).panelTest lbusy).ok = becomes t p := fun p same =>
      congrArg (fun u : State => (u.panelTest lbusy).ok) (State.setVacated_eq same old i p)
    refine ⟨fun bad => ?_, fun sub f setting => ?_, ?_⟩
    · exact makes_of_eq (paneSet pane row col width height kind names format label lbusy) rfl (paneSet_badParam named bad)
    · intro rect inside overlaps stale
      have make : ∀ {t : State}, paneSet pane row col width height kind names format label lbusy s = t → Makes set s t :=
        makes_of_eq (paneSet pane row col width height kind names format label lbusy) rfl
      have placed : inside → rect? row col width height = some rect := fun within => if_pos within
      have inGrid : inside → rect.InGrid := fun within => rect?_inGrid (placed within)
      refine ⟨fun out => make (paneSet_badRect named setting (if_neg out)), fun ok within shared => ?_, fun ok within apart unbound => ?_,
        fun ok within apart bound => ?_⟩
      · exact make ((paneSet_placed named setting (placed within)).trans (if_pos ((State.overlaps_iff ok i (inGrid within)).mpr shared)))
      · have clear : ¬ s.overlaps i rect = true := fun shared => apart ((State.overlaps_iff ok i (inGrid within)).mp shared)
        exact make ((paneSet_placed named setting (placed within)).trans ((if_neg clear).trans (if_pos (State.bindable_iff.mpr unbound))))
      · have clear : ¬ s.overlaps i rect = true := fun shared => apart ((State.overlaps_iff ok i (inGrid within)).mp shared)
        have binds : ¬ s.bindable sub.handle? = false := fun unbound => bound (State.bindable_iff.mp unbound)
        refine make (((paneSet_placed named setting (placed within)).trans ((if_neg clear).trans (if_neg binds))).trans ?_)
        exact becomes_eq _ (State.rebind_eq _ _ s)
    · exact makes_of_eq (paneClear pane lbusy) rfl ((paneClear_clears named).trans (becomes_eq _ (State.rebind_eq none _ s)))

/-! ### PANE_READ and DISP_INTERVAL (R164, R168) -/

theorem paneRead_answer {pane : Byte} {i : Fin 16} {s : State} (named : pane.toNat = i) : paneRead pane s = s.answered .ok s.display.panes[i].bytes := by
  rw [paneRead, index?_eq_some.mpr named]

theorem Pane.bytes_eq (p : Pane) : p.bytes =
    [p.state.code, byte p.rect.row, byte p.rect.col, byte p.rect.width, byte p.rect.height] ++ p.subject.bytes
      ++ [p.format.code, boolByte p.highlight + 2 * boolByte p.stale, byte p.label.length] ++ p.label := by
  unfold Pane.bytes
  rw [flags_pair]

/-- Settles O46: PANE_READ's layout, and DISP_INTERVAL. -/
theorem paneReadInterval : Obligations.PaneReadInterval := by
  refine ⟨fun h first count m p w d => ⟨rfl, rfl, rfl, rfl, rfl, rfl, rfl⟩, fun pane s => ⟨fun out => ?_, fun i named => ?_⟩,
    fun interval s => ⟨fun bad => ?_, fun least most tens => ?_⟩⟩
  · exact makes_of_eq (paneRead pane) rfl (by rw [paneRead, index?_eq_none.mpr out])
  · have reads := paneRead_answer (s := s) named
    rw [Pane.bytes_eq] at reads
    exact makes_of_eq (paneRead pane) rfl reads
  · exact makes_of_eq (dispInterval interval) rfl (if_pos bad)
  · refine makes_of_eq (dispInterval interval) rfl ((if_neg ?_).trans ?_)
    · omega
    · rw [BitVec.ofNat_toNat]

end Sys2Proof.Machine
end

section
/-! The table of the highlights and the refresh tick (R167 to R169). -/

namespace Sys2Proof.Machine

/-! ### The table of R167 -/

theorem Subject.matchesPane_iff (sub : Subject) (q : PaneSubject) : sub.matchesPane q = true ↔
    (∃ h reg first count, sub = .targetCell h reg ∧ q = .target h first count ∧
        first.toNat ≤ reg.toNat ∧ reg.toNat < first.toNat + count.toNat) ∨
      (∃ h field first count, sub = .targetField h field ∧ q = .target h first count) ∨
      (∃ m field shown, sub = .meter m field ∧ q = .meter m shown) ∨
      (∃ p, sub = .pod p ∧ q = .pod p) ∨
      (∃ d field, sub = .decoder d field ∧ q = .decoder d) := by
  refine ⟨fun h => ?_, ?_⟩
  · cases sub with
    | none => cases h
    | targetCell x reg => cases q with
      | target y first count =>
        simp only [Subject.matchesPane, Bool.and_eq_true, beq_iff_eq, decide_eq_true_eq] at h
        obtain ⟨⟨rfl, least⟩, most⟩ := h
        exact .inl ⟨_, _, _, _, rfl, rfl, least, most⟩
      | _ => cases h
    | targetField x field => cases q with
      | target y first count =>
        obtain rfl := beq_iff_eq.mp h
        exact .inr (.inl ⟨_, _, _, _, rfl, rfl⟩)
      | _ => cases h
    | meter m field => cases q with
      | meter m' shown =>
        obtain rfl := beq_iff_eq.mp h
        exact .inr (.inr (.inl ⟨_, _, _, rfl, rfl⟩))
      | _ => cases h
    | pod p => cases q with
      | pod p' =>
        obtain rfl := beq_iff_eq.mp h
        exact .inr (.inr (.inr (.inl ⟨_, rfl, rfl⟩)))
      | _ => cases h
    | decoder d field => cases q with
      | decoder d' =>
        obtain rfl := beq_iff_eq.mp h
        exact .inr (.inr (.inr (.inr ⟨_, _, rfl, rfl⟩)))
      | _ => cases h
  · rintro (⟨x, reg, first, count, rfl, rfl, least, most⟩ | ⟨x, field, first, count, rfl, rfl⟩ | ⟨m, field, shown, rfl, rfl⟩ | ⟨p, rfl, rfl⟩ |
      ⟨d, field, rfl, rfl⟩) <;> simp [Subject.matchesPane, *]

theorem Watch.highlights_iff (w : Watch) (q : PaneSubject) : w.highlights q = true ↔
    w.marks = true ∧ (w.state = .tripped ∨ w.state = .held) ∧ w.subject.matchesPane q = true := by
  simp only [Watch.highlights, Bool.and_eq_true, Bool.or_eq_true, beq_iff_eq, and_assoc]

/-- A pane of no resource is highlighted by no watch. -/
theorem WatchUnit.highlighted_none (u : WatchUnit) {q : PaneSubject} (none : ∀ sub : Subject, sub.matchesPane q = false) : u.highlighted q = false := by
  rw [← Bool.not_eq_true, WatchUnit.highlighted_iff]
  rintro ⟨i, highlights⟩
  obtain ⟨_, _, shown⟩ := (Watch.highlights_iff _ _).mp highlights
  rw [none] at shown
  cases shown

/-! ### The panes that a tick renders (R169) -/

section
variable (s : State)

/-- A pane with its highlight derived. -/
def State.lit (i : Fin 16) : Pane := s.watch.rehighlight s.display.panes[i]

/-- A tick renders the pane. -/
def State.Renders (i : Fin 16) : Prop := (s.lit i).stale = true ∧ (s.lit i).state ≠ .free

/-- What a tick writes of the pane in a grid cell. -/
def State.shownCell (i : Fin 16) (r : Fin 16) (c : Fin 40) : GridCell :=
  (s.lit i).cellAt (s.content (s.lit i)) (r - (s.lit i).rect.row) (c - (s.lit i).rect.col)

/-- A pane after its turn in a tick. -/
def State.turned (i : Fin 16) : Pane := if (s.lit i).state = .free then s.lit i else { s.lit i with stale := false }

/-- A grid in which some panes had their turn. -/
structure State.Drawn (done : List (Fin 16)) (grid : Vector GridRow 16) : Prop where
  drawn : ∀ i ∈ done, s.Renders i → ∀ (r : Fin 16) (c : Fin 40), (s.lit i).rect.covers r c = true → grid[r][c] = s.shownCell i r c
  other : ∀ (r : Fin 16) (c : Fin 40), (∀ i ∈ done, s.Renders i → (s.lit i).rect.covers r c = false) → grid[r][c] = s.display.grid[r][c]

/-- The rows in which the grid differs from the one before the tick. -/
def State.rowsFrom (grid : Vector GridRow 16) : BitVec 16 := maskOf fun r => decide (grid[r] ≠ s.display.grid[r])

/-- The state in which some panes had their turn. -/
def State.partly (done : List (Fin 16)) (grid : Vector GridRow 16) : State := { s with
  display := { s.display with panes := tab fun i => if i ∈ done then s.turned i else s.lit i, grid }
  panel := { s.panel with dirty := s.panel.dirty ||| s.rowsFrom grid } }

theorem State.rowsFrom_same : s.rowsFrom s.display.grid = 0 := mask_ext fun r => by
  rw [State.rowsFrom, maskOf_getLsbD]
  simp

theorem State.partly_nil : s.deriveHighlights = s.partly [] s.display.grid := by
  have kept : s.panel.dirty ||| 0 = s.panel.dirty := BitVec.or_zero
  unfold State.partly
  rw [State.rowsFrom_same, kept]
  rfl

theorem State.waits_lit (i : Fin 16) : (s.lit i).waits = true ↔ s.Renders i := by
  simp only [Pane.waits, Bool.and_eq_true, bne_iff_ne, State.Renders]

/-- A pane that does not wait is already as its turn leaves it. -/
theorem State.turned_of_not {i : Fin 16} (not : ¬ s.Renders i) : s.turned i = s.lit i := by
  unfold State.turned
  split
  · rfl
  · next used =>
    have fresh : (s.lit i).stale = false := Bool.not_eq_true _ ▸ fun stale => not ⟨stale, used⟩
    rw [← fresh]

theorem State.turned_of_renders {i : Fin 16} (renders : s.Renders i) : s.turned i = { s.lit i with stale := false } := if_neg renders.2

theorem State.partly_get (done : List (Fin 16)) (grid : Vector GridRow 16) (i : Fin 16) :
    (s.partly done grid).display.panes[i] = if i ∈ done then s.turned i else s.lit i := tab_get _ i

/-- One more pane has had its turn. -/
theorem State.partly_panes {done : List (Fin 16)} {i : Fin 16} (grid : Vector GridRow 16) :
    (s.partly done grid).display.panes.set i (s.turned i) = tab fun j => if j ∈ done ++ [i] then s.turned j else s.lit j := vec_ext fun j => by
  rw [vset_get, State.partly_get, tab_get]
  by_cases same : i = j
  · subst same
    rw [if_pos rfl, if_pos (List.mem_append_right _ (List.mem_singleton_self i))]
  · rw [if_neg same]
    exact if_congr (by simp [Ne.symm same]) rfl rfl

theorem State.lit_same (i : Fin 16) : s.display.panes[i].SameSetting (s.lit i) := s.watch.rehighlight_same _

variable {s} (ok : DisplayOk s)
include ok

/-- No cell is in two panes that a tick renders. -/
theorem State.Renders.apart {i j : Fin 16} (hi : s.Renders i) (hj : s.Renders j) (different : i ≠ j) {r c : Nat}
    (inI : (s.lit i).rect.covers r c = true) : (s.lit j).rect.covers r c = false := by
  rw [← Bool.not_eq_true]
  intro inJ
  have usedI := hi.2
  have usedJ := hj.2
  rw [(s.lit_same _).state] at usedI usedJ
  rw [(s.lit_same _).rect] at inI inJ
  exact absurd (Rect.meets_of_covers inI inJ) (by rw [ok.apart i j different usedI usedJ]; decide)

omit ok in
theorem State.Drawn.skip {done : List (Fin 16)} {grid : Vector GridRow 16} (h : s.Drawn done grid) {i : Fin 16} (not : ¬ s.Renders i) :
    s.Drawn (done ++ [i]) grid where
  drawn j within renders := by
    rcases List.mem_append.mp within with earlier | last
    · exact h.drawn j earlier renders
    · exact absurd (List.mem_singleton.mp last ▸ renders) not
  other r c outside := h.other r c fun j earlier => outside j (List.mem_append_left _ earlier)

/-- The grid with one more pane written. -/
def State.drawOne (s : State) (i : Fin 16) (grid : Vector GridRow 16) : Vector GridRow 16 :=
  writeRect (s.lit i).rect ((s.lit i).cellAt (s.content (s.lit i))) grid

omit ok in
theorem State.drawOne_inside {i : Fin 16} {r : Fin 16} {c : Fin 40} (grid : Vector GridRow 16) (inside : (s.lit i).rect.covers r c = true) :
    (s.drawOne i grid)[r][c] = s.shownCell i r c := (writeRect_get _ _ _ _ _).trans (if_pos inside)

omit ok in
theorem State.drawOne_outside {i : Fin 16} {r : Fin 16} {c : Fin 40} (grid : Vector GridRow 16) (outside : (s.lit i).rect.covers r c = false) :
    (s.drawOne i grid)[r][c] = grid[r][c] := (writeRect_get _ _ _ _ _).trans (if_neg (Bool.eq_false_iff.mp outside))

section
variable {done : List (Fin 16)} {grid : Vector GridRow 16} (h : s.Drawn done grid) {i : Fin 16} (renders : s.Renders i) (fresh : i ∉ done)
include h renders fresh

theorem State.Drawn.write : s.Drawn (done ++ [i]) (s.drawOne i grid) where
  drawn j within also r c inside := by
    rcases List.mem_append.mp within with earlier | last
    · have outside := also.apart ok renders (fun same => fresh (same ▸ earlier)) inside
      exact (State.drawOne_outside grid outside).trans (h.drawn j earlier also r c inside)
    · obtain rfl := List.mem_singleton.mp last
      exact State.drawOne_inside grid inside
  other r c outside :=
    (State.drawOne_outside grid (outside i (List.mem_append_right _ (List.mem_singleton_self i)) renders)).trans
      (h.other r c fun j earlier => outside j (List.mem_append_left _ earlier))

/-- A row that is as before the tick was as before it a pane earlier: no cell is written twice. -/
theorem State.Drawn.row_same {r : Fin 16} (same : (s.drawOne i grid)[r] = s.display.grid[r]) : grid[r] = s.display.grid[r] := vec_ext fun c => by
  cases inside : (s.lit i).rect.covers r c with
  | true => exact h.other r c fun j earlier also => renders.apart ok also (fun same => fresh (same ▸ earlier)) inside
  | false => rw [← State.drawOne_outside grid inside, same]

/-- The rows that one more pane changes are added to those changed before. -/
theorem State.Drawn.rows : s.rowsFrom grid ||| maskOf (fun r => decide ((s.drawOne i grid)[r] ≠ grid[r])) = s.rowsFrom (s.drawOne i grid) :=
  mask_ext fun r => by
    rw [BitVec.getLsbD_or, State.rowsFrom, State.rowsFrom, maskOf_getLsbD, maskOf_getLsbD, maskOf_getLsbD, Bool.eq_iff_iff, Bool.or_eq_true,
      decide_eq_true_iff, decide_eq_true_iff, decide_eq_true_iff]
    refine ⟨fun changed same => ?_, fun changed => ?_⟩
    · have before := h.row_same ok renders fresh same
      exact changed.elim (· before) (· (same.trans before.symm))
    · by_cases before : grid[r] = s.display.grid[r]
      · exact .inr (before ▸ changed)
      · exact .inl before

end

/-- What a tick has made when some panes had their turn. -/
def State.HadTurn (s : State) (done : List (Fin 16)) (t : State) : Prop := ∃ grid, s.Drawn done grid ∧ t = s.partly done grid

theorem State.HadTurn.renderPane {done : List (Fin 16)} {t : State} (h : s.HadTurn done t) {i : Fin 16} (fresh : i ∉ done) :
    s.HadTurn (done ++ [i]) (t.renderPane i) := by
  obtain ⟨grid, drawn, rfl⟩ := h
  have pane : (s.partly done grid).display.panes[i] = s.lit i := (s.partly_get done grid i).trans (if_neg fresh)
  have after := s.partly_panes (done := done) (i := i) grid
  unfold State.renderPane
  dsimp only
  rw [pane]
  split
  · next waits =>
    have renders := (s.waits_lit i).mp waits
    refine ⟨s.drawOne i grid, drawn.write ok renders fresh, ?_⟩
    have content : (s.partly done grid).content (s.lit i) = s.content (s.lit i) := State.content_same rfl (.of_same rfl rfl rfl rfl) _
    rw [content, State.write_eq, ← s.turned_of_renders renders]
    have rows := drawn.rows ok renders fresh
    have dirty : s.panel.dirty ||| s.rowsFrom grid ||| _ = s.panel.dirty ||| s.rowsFrom (s.drawOne i grid) := (BitVec.or_assoc _ _ _).trans (congrArg _ rows)
    exact congrArg₂ (fun (panes : Vector Pane 16) (dirty : BitVec 16) => ({ s with
      display := { s.display with panes, grid := s.drawOne i grid }
      panel := { s.panel with dirty } } : State)) after dirty
  · next waits =>
    have idle : ¬ s.Renders i := fun renders => waits ((s.waits_lit i).mpr renders)
    refine ⟨grid, drawn.skip idle, ?_⟩
    have kept : (s.partly done grid).display.panes.set i (s.turned i) = (s.partly done grid).display.panes := by
      rw [s.turned_of_not idle, ← pane, vset_self]
    calc s.partly done grid = (s.partly done grid).withPanes ((s.partly done grid).display.panes.set i (s.turned i)) := by
          rw [kept]
          rfl
      _ = s.partly (done ++ [i]) grid := by
        rw [after]
        rfl

theorem State.render_hadTurn : s.HadTurn (List.finRange 16) s.render := by
  unfold State.render
  exact foldl_ascending (fun _ _ _ h earlier => h.renderPane ok fun within => absurd (earlier _ within) (lt_irrefl _))
    ⟨s.display.grid, ⟨nofun, fun _ _ _ => rfl⟩, s.partly_nil⟩

end

theorem State.tick_iff (s : State) : (s.tickDue && !s.restarting) = true ↔
    (s.clock.ms - s.display.nextTick).toNat < 2147483648 ∧ ¬ (s.port.state = .executing ∧ s.port.request = some .devRestart) := by
  simp only [State.tickDue, State.restarting, Bool.and_eq_true, decide_eq_true_eq, Bool.not_eq_true', beq_iff_eq, ← Bool.not_eq_true]
  rfl

theorem refreshTick_due {s : State} (lbusy : Bool) (due : (s.tickDue && !s.restarting) = true) :
    refreshTick lbusy s = s.render.nextInterval.panelTest lbusy := if_pos due

theorem refreshTick_early {s : State} (lbusy : Bool) (early : ¬ (s.tickDue && !s.restarting) = true) : refreshTick lbusy s = s := if_neg early

/-- The state that a tick tests for a panel frame, by the grid that it drew. -/
theorem State.partly_nextInterval (s : State) (grid : Vector GridRow 16) : (s.partly (List.finRange 16) grid).nextInterval = { s with
    display :=
      { panes := tab s.turned, grid, interval := s.display.interval
        nextTick := s.display.nextTick + BitVec.ofNat 32 s.display.interval.toNat }
    panel := { s.panel with dirty := s.panel.dirty ||| s.rowsFrom grid } } := by
  have all : (tab fun i => if i ∈ List.finRange 16 then s.turned i else s.lit i) = tab s.turned := vec_ext fun i => by
    rw [tab_get, tab_get, if_pos (List.mem_finRange i)]
  unfold State.partly
  rw [all, BitVec.ofNat_toNat]
  rfl

/-- Settles O47: the table of the highlights, and the tick as one drawing of the panes that wait. -/
theorem refreshTick_meaning : Obligations.RefreshTick := by
  refine ⟨fun u q => ?_, fun u w => ⟨?_, ?_, ?_⟩, fun lbusy s ok => ?_⟩
  · simp only [WatchUnit.highlighted_iff, Watch.highlights_iff, Subject.matchesPane_iff]
  · exact u.highlighted_none fun sub => by cases sub <;> rfl
  · exact u.highlighted_none fun sub => by cases sub <;> rfl
  · exact u.highlighted_none fun sub => by cases sub <;> rfl
  · intro due lit renders
    refine ⟨fun now => ?_, fun early => ?_⟩
    · obtain ⟨grid, drawn, rendered⟩ := State.render_hadTurn ok
      refine ⟨grid, fun i r c due => drawn.drawn i (List.mem_finRange i) due r c, fun r c outside => drawn.other r c fun i _ => outside i, ?_⟩
      refine makes_of_eq (refreshTick lbusy) rfl ((refreshTick_due lbusy (s.tick_iff.mpr now)).trans ?_)
      rw [rendered, State.partly_nextInterval]
      rfl
    · exact exec_of_unchanged (refreshTick lbusy) rfl (refreshTick_early lbusy fun now => early (s.tick_iff.mp now))

end Sys2Proof.Machine
end

section
/-! The characters and attributes of a pane (R170 to R175). -/

namespace Sys2Proof.Machine

/-! ### Digits -/

theorem digitCode_eq (d : Nat) : digitCode d = byte (if d < 10 then 48 + d else 55 + d) := (apply_ite byte _ _ _).symm

theorem fixedDigits_one (base n : Nat) : fixedDigits base 1 n = [digitCode (n % base)] := by
  have whole : n / base ^ 0 = n := Nat.div_one n
  exact congrArg (fun m => [digitCode (m % base)]) whole

theorem fixedDigits_succ (base k n : Nat) : fixedDigits base (k + 1) n = digitCode (n / base ^ k % base) :: fixedDigits base k n := by
  unfold fixedDigits
  rw [List.range_succ, List.reverse_append]
  rfl

theorem fixedDigits_two (base n : Nat) : fixedDigits base 2 n = [digitCode (n / base % base), digitCode (n % base)] := by
  rw [fixedDigits_succ, fixedDigits_one, Nat.pow_one]

theorem fixedDigits_three (base n : Nat) :
    fixedDigits base 3 n = [digitCode (n / base ^ 2 % base), digitCode (n / base % base), digitCode (n % base)] := by
  rw [fixedDigits_succ, fixedDigits_two]

theorem fixedDigits_bits (b : Byte) : fixedDigits 2 8 b.toNat = (List.range 8).map fun k => digitCode (b.getLsbD (7 - k)).toNat := by
  simp only [BitVec.getLsbD, Nat.toNat_testBit]
  rfl

theorem valueText_digits (b : Byte) :
    valueText .hex (some b) = [digitCode (b.toNat / 16), digitCode (b.toNat % 16)] ∧
    valueText .dec (some b) = [digitCode (b.toNat / 100), digitCode (b.toNat / 10 % 10), digitCode (b.toNat % 10)] ∧
    valueText .bin (some b) = (List.range 8).map fun k => digitCode (b.getLsbD (7 - k)).toNat := by
  have small := b.isLt
  have sixteens : b.toNat / 16 % 16 = b.toNat / 16 := Nat.mod_eq_of_lt (by omega)
  have hundreds : b.toNat / 10 ^ 2 % 10 = b.toNat / 100 := Nat.mod_eq_of_lt (by omega)
  refine ⟨?_, ?_, fixedDigits_bits b⟩
  · exact (fixedDigits_two 16 _).trans (by rw [sixteens])
  · exact (fixedDigits_three 10 _).trans (by rw [hundreds])

/-! ### Times (R173) -/

/-- A unit of time, by the range of the time. -/
def TimeUnit (t unit : Nat) (name : List Char) : Prop :=
  t < 1000 ∧ unit = 1 ∧ name = ['n', 's'] ∨ 1000 ≤ t ∧ t < 1000000 ∧ unit = 1000 ∧ name = ['u', 's'] ∨
    1000000 ≤ t ∧ t < 1000000000 ∧ unit = 1000000 ∧ name = ['m', 's'] ∨ 1000000000 ≤ t ∧ unit = 1000000000 ∧ name = ['s']

theorem timeText_unit {t unit : Nat} {name : List Char} (h : TimeUnit t unit name) : timeText t = fourDigits t unit ++ codes name := by
  unfold timeText
  rcases h with ⟨most, rfl, rfl⟩ | ⟨least, most, rfl, rfl⟩ | ⟨least, most, rfl, rfl⟩ | ⟨least, rfl, rfl⟩
  · rw [if_pos most]
  · rw [if_neg (by omega), if_pos most]
  · rw [if_neg (by omega), if_neg (by omega), if_pos most]
  · rw [if_neg (by omega), if_neg (by omega), if_neg (by omega)]

theorem tenth_div (t unit : Nat) : t * 100 / unit / 10 = t * 10 / unit ∧ t * 1000 / unit / 10 = t * 100 / unit := by
  constructor
  · rw [Nat.div_div_eq_div_mul, show t * 100 = t * 10 * 10 by omega, Nat.mul_div_mul_right _ _ (by decide)]
  · rw [Nat.div_div_eq_div_mul, show t * 1000 = t * 100 * 10 by omega, Nat.mul_div_mul_right _ _ (by decide)]

section
variable {t unit : Nat}

theorem fourDigits_ones (h : t / unit < 10) : fourDigits t unit =
    [digitCode (t / unit % 10), 0x2E, digitCode (t * 10 / unit % 10), digitCode (t * 100 / unit % 10), digitCode (t * 1000 / unit % 10)] := by
  obtain ⟨tens, hundreds⟩ := tenth_div t unit
  have first : t * 1000 / unit % 1000 / 10 ^ 2 % 10 = t * 10 / unit % 10 := by omega
  have second : t * 1000 / unit % 1000 / 10 % 10 = t * 100 / unit % 10 := by omega
  have third : t * 1000 / unit % 1000 % 10 = t * 1000 / unit % 10 := by omega
  unfold fourDigits
  rw [if_neg (by omega), if_neg (by omega), fixedDigits_one, fixedDigits_three, first, second, third]
  rfl

theorem fourDigits_tens (least : 10 ≤ t / unit) (most : t / unit < 100) : fourDigits t unit =
    [digitCode (t / unit / 10 % 10), digitCode (t / unit % 10), 0x2E, digitCode (t * 10 / unit % 10), digitCode (t * 100 / unit % 10)] := by
  obtain ⟨tens, -⟩ := tenth_div t unit
  have first : t * 100 / unit % 100 / 10 % 10 = t * 10 / unit % 10 := by omega
  have second : t * 100 / unit % 100 % 10 = t * 100 / unit % 10 := by omega
  unfold fourDigits
  rw [if_neg (by omega), if_pos least, fixedDigits_two, fixedDigits_two, first, second]
  rfl

theorem fourDigits_hundreds (least : 100 ≤ t / unit) : fourDigits t unit =
    [digitCode (t / unit / 100 % 10), digitCode (t / unit / 10 % 10), digitCode (t / unit % 10), 0x2E, digitCode (t * 10 / unit % 10)] := by
  have first : t * 10 / unit % 10 % 10 = t * 10 / unit % 10 := by omega
  unfold fourDigits
  rw [if_pos least, fixedDigits_three, fixedDigits_one, first]
  rfl

end

/-! ### Numbers without leading zeros (R173) -/

theorem digitsUp_zero (base fuel : Nat) (some : 0 < base) : digitsUp base (fuel + 1) 0 = [digitCode 0] := if_pos some

theorem digitsUp_digits {base : Nat} (two : 1 < base) (fuel n : Nat) (pos : 0 < n) (fits : n < base ^ fuel) :
    digitsUp base fuel n = (Nat.digits base n).map digitCode := by
  induction fuel generalizing n with
  | zero => exact absurd fits (by rw [Nat.pow_zero]; omega)
  | succ fuel ih =>
    unfold digitsUp
    split
    · next small => rw [Nat.digits_of_lt base n pos.ne' small, List.map_singleton]
    · next large =>
      have more : 0 < n / base := Nat.div_pos (Nat.le_of_not_lt large) (Nat.zero_lt_of_lt two)
      have less : n / base < base ^ fuel := Nat.div_lt_of_lt_mul (by rwa [← Nat.pow_succ'])
      rw [ih _ more less, Nat.digits_def' two pos, List.map_cons]

/-- The digits of a number: below the base, worth the number, the first not zero. -/
theorem digitsUp_reverse {base : Nat} (two : 1 < base) (fuel n : Nat) (fits : n < base ^ (fuel + 1)) : ∃ ds : List Nat,
    (digitsUp base (fuel + 1) n).reverse = ds.map digitCode ∧ (∀ d ∈ ds, d < base) ∧ ds.foldl (fun x d => base * x + d) 0 = n ∧
      (0 < n → ds.head? ≠ some 0) ∧ (n = 0 → ds = [0]) := by
  rcases Nat.eq_zero_or_pos n with rfl | pos
  · refine ⟨[0], ?_, ?_, rfl, nofun, fun _ => rfl⟩
    · rw [digitsUp_zero _ _ (by omega)]
      rfl
    · intro d within
      rw [List.mem_singleton.mp within]
      omega
  · refine ⟨(Nat.digits base n).reverse, ?_, ?_, ?_, fun _ => ?_, fun zero => absurd zero pos.ne'⟩
    · rw [digitsUp_digits two _ _ pos fits, List.map_reverse]
    · exact fun d within => Nat.digits_lt_base two (List.mem_reverse.mp within)
    · rw [List.foldl_reverse]
      have value := Nat.ofDigits_digits base n
      rw [Nat.ofDigits_eq_foldr] at value
      simpa only [Nat.add_comm, Nat.cast_id] using value
    · rw [List.head?_reverse, List.getLast?_eq_getLast_of_ne_nil (Nat.digits_ne_nil_iff_ne_zero.mpr pos.ne')]
      exact fun zero => Nat.getLast_digit_ne_zero base pos.ne' (Option.some.inj zero)

/-! ### The place of a character (R170, R172, R175) -/

theorem plain_getD (cs : List Byte) (col : Nat) : (plain cs).getD col Glyph.blank = { code := cs.getD col 0x20, mismatch := false } :=
  List.getD_map (l := cs) 0x20 fun c => Glyph.mk c false

theorem Pane.labelRows_eq (p : Pane) : p.labelRows = if p.label = [] then 0 else 1 := by
  unfold Pane.labelRows
  exact if_congr List.isEmpty_iff rfl rfl

theorem Pane.overflows_iff {p : Pane} {c : Content} (fits : p.labelRows ≤ p.rect.height) :
    p.overflows c = true ↔ c.cut = true ∨ p.rect.height < p.labelRows + c.lines.length := by
  unfold Pane.overflows
  rw [Bool.or_eq_true, decide_eq_true_iff]
  exact or_congr_right (by omega)

section
variable (p : Pane) (c : Content) (row col : Nat)

/-- '*' stands at the place. -/
def Pane.Corner : Prop := c.withheld = true ∧ row = 0 ∧ col + 1 = p.rect.width

/-- The place is that of '>'. -/
def Pane.Overflow : Prop := (c.cut = true ∨ p.rect.height < p.labelRows + c.lines.length) ∧ row + 1 = p.rect.height ∧ col + 1 = p.rect.width

/-- The character of the lines at the place. -/
def Pane.lineGlyph : Glyph := (c.lines.getD (row - p.labelRows) []).getD col Glyph.blank

/-- The character at the place is one of a mismatch entry. -/
def Pane.Marked : Prop := ¬ p.Corner c row col ∧ ¬ p.Overflow c row col ∧ p.labelRows ≤ row ∧ (p.lineGlyph c row col).mismatch = true

theorem Pane.textAt_eq : p.textAt c row col =
    if row < p.labelRows then { code := p.label.getD col 0x20, mismatch := false } else p.lineGlyph c row col := by
  unfold Pane.textAt
  rw [plain_getD]
  rfl

variable {p c row col}

theorem Pane.glyphAt_corner (corner : p.Corner c row col) : p.glyphAt c row col = { code := 0x2A, mismatch := false } := if_pos corner

variable (fits : p.labelRows ≤ p.rect.height)
include fits

theorem Pane.glyphAt_overflow (corner : ¬ p.Corner c row col) (overflow : p.Overflow c row col) :
    p.glyphAt c row col = { code := 0x3E, mismatch := false } :=
  (if_neg corner).trans (if_pos ⟨(Pane.overflows_iff fits).mpr overflow.1, overflow.2⟩)

theorem Pane.glyphAt_text (corner : ¬ p.Corner c row col) (overflow : ¬ p.Overflow c row col) : p.glyphAt c row col = p.textAt c row col :=
  (if_neg corner).trans (if_neg fun h => overflow ⟨(Pane.overflows_iff fits).mp h.1, h.2⟩)

theorem Pane.glyphAt_mismatch : (p.glyphAt c row col).mismatch = true ↔ p.Marked c row col := by
  by_cases corner : p.Corner c row col
  · rw [Pane.glyphAt_corner corner]
    exact iff_of_false nofun fun marked => marked.1 corner
  · by_cases overflow : p.Overflow c row col
    · rw [Pane.glyphAt_overflow fits corner overflow]
      exact iff_of_false nofun fun marked => marked.2.1 overflow
    · rw [Pane.glyphAt_text fits corner overflow, Pane.textAt_eq]
      split
      · next label => exact iff_of_false nofun fun marked => absurd marked.2.2.1 (by omega)
      · next line => exact ⟨fun marked => ⟨corner, overflow, Nat.le_of_not_lt line, marked⟩, fun marked => marked.2.2.2⟩

theorem Pane.cellAt_attr : (p.highlight = false → ¬ p.Marked c row col → (p.cellAt c row col).attr = .normal) ∧
    (p.highlight = false → p.Marked c row col → (p.cellAt c row col).attr = .inverse) ∧
    (p.highlight = true → ¬ p.Marked c row col → (p.cellAt c row col).attr = .inverse) ∧
    (p.highlight = true → p.Marked c row col → (p.cellAt c row col).attr = .dim) := by
  have attr : (p.cellAt c row col).attr = attrOf p.highlight (p.glyphAt c row col).mismatch := rfl
  rw [attr, ← Pane.glyphAt_mismatch fits]
  refine ⟨?_, ?_, ?_, ?_⟩
  all_goals
    intro highlight mismatch
    rw [highlight]
  · rw [Bool.eq_false_iff.mpr mismatch]
    rfl
  · rw [mismatch]
    rfl
  · rw [Bool.eq_false_iff.mpr mismatch]
    rfl
  · rw [mismatch]
    rfl

theorem Pane.cellAt_code : (p.Corner c row col → (p.cellAt c row col).code = 0x2A) ∧
    (¬ p.Corner c row col → p.Overflow c row col → (p.cellAt c row col).code = 0x3E) ∧
    (¬ p.Corner c row col → ¬ p.Overflow c row col →
      (p.cellAt c row col).code = if row < p.labelRows then p.label.getD col 0x20 else (p.lineGlyph c row col).code) := by
  have code : (p.cellAt c row col).code = (p.glyphAt c row col).code := rfl
  rw [code]
  refine ⟨fun corner => ?_, fun corner overflow => ?_, fun corner overflow => ?_⟩
  · rw [Pane.glyphAt_corner corner]
  · rw [Pane.glyphAt_overflow fits corner overflow]
  · rw [Pane.glyphAt_text fits corner overflow, Pane.textAt_eq, apply_ite Glyph.code]

end

/-! ### The lines (R174) -/

theorem countText_eq (f : Format) (n : Nat) : countText f n = if f = .hex then hexadecimal n else decimal n := by
  cases f <;> rfl

theorem Notice.text_watch (i : Fin 32) : Notice.text (.watch i) = [0x57, digitCode (i.val / 10), digitCode (i.val % 10)] := by
  have small : i.val / 10 % 10 = i.val / 10 := Nat.mod_eq_of_lt (by omega)
  have text : Notice.text (.watch i) = 0x57 :: fixedDigits 10 2 i := rfl
  rw [text, fixedDigits_two, small]

theorem thresholdText_eq {code : Byte} (valid : code.toNat ≤ 132) : thresholdText code =
    [digitCode ((300 + 25 * code.toNat) / 10 / 100), 0x2E, digitCode ((300 + 25 * code.toNat) / 10 / 10 % 10),
      digitCode ((300 + 25 * code.toNat) / 10 % 10), 0x56] := by
  have volts : (300 + 25 * code.toNat) / 10 / 100 % 10 = (300 + 25 * code.toNat) / 10 / 100 := Nat.mod_eq_of_lt (by omega)
  have tenths : ∀ v : Nat, v % 100 / 10 % 10 = v / 10 % 10 := fun v => by omega
  have hundredths : ∀ v : Nat, v % 100 % 10 = v % 10 := fun v => by omega
  unfold thresholdText
  dsimp only
  rw [fixedDigits_one, fixedDigits_two, volts, tenths, hundredths]
  rfl

/-- Settles O48: the digits, the times, the numbers, the names, the lines and the place of each character. -/
theorem paneText : Obligations.PaneText := by
  unfold Obligations.PaneText
  intro digit
  have spelled : digit = digitCode := funext fun d => (digitCode_eq d).symm
  clear_value digit
  subst spelled
  refine ⟨valueText_digits, fun f other => ?_, fun t unit name range => ?_, fun n word => ?_, fun cs => rfl, ⟨rfl, rfl, rfl, rfl, rfl, rfl, rfl⟩,
    ⟨rfl, rfl, rfl, rfl, rfl⟩, ⟨rfl, rfl, rfl, rfl, rfl⟩, ⟨rfl, rfl, rfl, rfl, rfl, rfl, Notice.text_watch⟩, fun p valid => ?_,
    fun w d u f => ?_, fun p c row col => ?_⟩
  · cases f <;> rfl
  · rw [timeText_unit range]
    exact ⟨fun ones => congrArg (· ++ codes name) (fourDigits_ones ones), fun least most => congrArg (· ++ codes name) (fourDigits_tens least most),
      fun least _ => congrArg (· ++ codes name) (fourDigits_hundreds least)⟩
  · obtain ⟨ds, decimals, tens, decValue, decFirst, decZero⟩ := digitsUp_reverse (base := 10) (by decide) 9 n (by omega)
    obtain ⟨hs, hexes, sixteens, hexValue, hexFirst, hexZero⟩ := digitsUp_reverse (base := 16) (by decide) 7 n (by omega)
    exact ⟨ds, hs, decimals, hexes, tens, sixteens, decValue, hexValue, fun pos => ⟨decFirst pos, hexFirst pos⟩, fun zero => ⟨decZero zero, hexZero zero⟩⟩
  · exact (List.append_assoc _ _ _).trans (by rw [thresholdText_eq valid]; rfl)
  · intro count
    exact ⟨congrArg _ (countText_eq f _), congrArg _ (countText_eq f _), rfl⟩
  · intro rows corner overflow glyph marked fits
    have sameRows : p.labelRows = rows := p.labelRows_eq
    clear_value rows
    subst sameRows
    obtain ⟨star, more, text⟩ := Pane.cellAt_code (c := c) (row := row) (col := col) fits
    exact ⟨star, more, text, Pane.cellAt_attr fits⟩

end Sys2Proof.Machine
end

section
/-! What each subject gives a pane (R170 to R174), with the flow of target entries (R171). -/

namespace Sys2Proof.Machine

/-! ### Lines of a fixed number of entries (R171) -/

/-- A list in lines of `fit` items, the last one shorter. -/
def linesOf {α : Type} (fit : Nat) (xs : List α) : List (List α) :=
  (List.range ((xs.length + fit - 1) / fit)).map fun l => (xs.drop (l * fit)).take fit

section
variable {α : Type} {fit : Nat}

theorem linesOf_nil (some : 0 < fit) : linesOf fit ([] : List α) = [] := by
  have zero : (([] : List α).length + fit - 1) / fit = 0 := Nat.div_eq_of_lt (by rw [List.length_nil]; omega)
  unfold linesOf
  rw [zero]
  rfl

/-- A full line before others. -/
theorem linesOf_full (some : 0 < fit) {line : List α} (full : line.length = fit) (rest : List α) : linesOf fit (line ++ rest) = line :: linesOf fit rest := by
  have one : ((line ++ rest).length + fit - 1) / fit = (rest.length + fit - 1) / fit + 1 := by
    rw [List.length_append, full, ← Nat.add_div_right _ some]
    congr 1
    omega
  unfold linesOf
  rw [one, List.range_succ_eq_map, List.map_cons, List.map_map]
  refine congrArg₂ List.cons ?_ (List.map_congr_left fun l _ => ?_)
  · rw [Nat.zero_mul, List.drop_zero, ← full, List.take_left]
  · have past : Nat.succ l * fit = line.length + l * fit := by rw [full, Nat.succ_mul, Nat.add_comm]
    rw [Function.comp_apply, past, List.drop_append]
    rw [List.drop_eq_nil_of_le (Nat.le_add_right _ _), List.nil_append, Nat.add_sub_cancel_left]

/-- A list that fits on one line. -/
theorem linesOf_single {line : List α} (nonempty : line ≠ []) (fits : line.length ≤ fit) : linesOf fit line = [line] := by
  have long : 0 < line.length := List.length_pos_iff.mpr nonempty
  have one : (line.length + fit - 1) / fit = 1 := Nat.div_eq_of_lt_le (by omega) (by omega)
  unfold linesOf
  rw [one]
  change [(line.drop (0 * fit)).take fit] = [line]
  rw [Nat.zero_mul, List.drop_zero, List.take_of_length_le fits]

end

/-! ### Entries on a line (R171) -/

/-- The entries of a line, with a space between two. -/
def joined (es : List (List Glyph)) : List Glyph := [Glyph.blank].intercalate es

theorem joined_single (e : List Glyph) : joined [e] = e := List.append_nil e

theorem joined_cons (e : List Glyph) {es : List (List Glyph)} (more : es ≠ []) : joined (e :: es) = e ++ plain space ++ joined es :=
  List.intercalate_cons_of_ne_nil more

theorem joined_append {es : List (List Glyph)} (nonempty : es ≠ []) (e : List Glyph) : joined (es ++ [e]) = joined es ++ plain space ++ e := by
  induction es with
  | nil => exact absurd rfl nonempty
  | cons x xs ih =>
    rw [List.cons_append, joined_cons x (List.append_ne_nil_of_right_ne_nil xs (List.cons_ne_nil e []))]
    rcases eq_or_ne xs [] with rfl | more
    · rw [List.nil_append, joined_single, joined_single]
    · rw [ih more, joined_cons x more]
      simp only [List.append_assoc]

/-- Entries of one length take it and a space each, but for the last space. -/
theorem joined_length {es : List (List Glyph)} {long : Nat} (each : ∀ e ∈ es, e.length = long) (nonempty : es ≠ []) :
    (joined es).length + 1 = es.length * (long + 1) := by
  induction es with
  | nil => exact absurd rfl nonempty
  | cons x xs ih =>
    have first := each x List.mem_cons_self
    rcases eq_or_ne xs [] with rfl | more
    · rw [joined_single, first, List.length_singleton, Nat.one_mul]
    · have rest := ih (fun e within => each e (List.mem_cons_of_mem _ within)) more
      have one : (plain space).length = 1 := rfl
      rw [joined_cons x more, List.length_append, List.length_append, first, one, List.length_cons, Nat.succ_mul]
      omega

theorem joined_isEmpty {es : List (List Glyph)} {long : Nat} (each : ∀ e ∈ es, e.length = long + 1) (nonempty : es ≠ []) :
    (joined es).isEmpty = false := by
  have length := joined_length each nonempty
  have some : 0 < es.length := List.length_pos_iff.mpr nonempty
  rw [List.isEmpty_eq_false_iff, ← List.length_pos_iff]
  have least : 1 * (long + 1 + 1) ≤ es.length * (long + 1 + 1) := Nat.mul_le_mul_right _ some
  omega

section
variable {width long : Nat} {es : List (List Glyph)} (each : ∀ e ∈ es, e.length = long + 1)
include each

/-- An entry wider than the pane ends the flow. -/
theorem flow_wide (nonempty : es ≠ []) (wide : width < long + 1) : flow width [] es = ([], true) := by
  rcases es with _ | ⟨e, es⟩
  · exact absurd rfl nonempty
  · unfold flow
    rw [each e List.mem_cons_self, if_pos wide]
    rfl

/-- Entries of one length that fit flow as many to a line as fit. -/
theorem flow_fits (fits : long + 1 ≤ width) (before : List (List Glyph)) (eachBefore : ∀ e ∈ before, e.length = long + 1)
    (room : before.length ≤ (width + 1) / (long + 2)) :
    flow width (joined before) es = ((linesOf ((width + 1) / (long + 2)) (before ++ es)).map joined, false) := by
  have one : 1 ≤ (width + 1) / (long + 2) := (Nat.le_div_iff_mul_le (by omega)).mpr (by omega)
  induction es generalizing before with
  | nil =>
    unfold flow
    rw [List.append_nil]
    rcases eq_or_ne before [] with rfl | nonempty
    · rw [linesOf_nil one]
      rfl
    · rw [linesOf_single nonempty room, lineOf, joined_isEmpty eachBefore nonempty]
      rfl
  | cons e es ih =>
    have length := each e List.mem_cons_self
    have rest := ih fun x within => each x (List.mem_cons_of_mem _ within)
    have alone := rest [e] (fun x within => List.mem_singleton.mp within ▸ length) one
    rw [joined_single] at alone
    unfold flow
    rw [length, if_neg (by omega)]
    rcases eq_or_ne before [] with rfl | nonempty
    · exact alone
    · rw [joined_isEmpty eachBefore nonempty]
      have used := joined_length eachBefore nonempty
      have next : (joined before).length + 1 + (long + 1) ≤ width ↔ before.length + 1 ≤ (width + 1) / (long + 2) := by
        have another : (before.length + 1) * (long + 2) = (joined before).length + 1 + (long + 2) := by rw [used, Nat.succ_mul]
        rw [Nat.le_div_iff_mul_le (by omega), another]
        omega
      rw [if_neg Bool.false_ne_true]
      split
      · next more =>
        have longer := rest (before ++ [e]) (fun x within => (List.mem_append.mp within).elim (eachBefore x) fun last => List.mem_singleton.mp last ▸ length)
          (by rw [List.length_append]; exact next.mp more)
        rw [joined_append nonempty, List.append_assoc before] at longer
        exact longer
      · next full =>
        have filled : before.length = (width + 1) / (long + 2) := by
          have := mt next.mpr full
          omega
        rw [alone, linesOf_full one filled]
        rfl

end

/-! ### An entry (R171, R172) -/

theorem fixedDigits_length (base k n : Nat) : (fixedDigits base k n).length = k := by simp [fixedDigits]

theorem valueText_length (f : Format) (v : Option Byte) : (valueText f v).length = f.width := by
  cases v with
  | none => exact List.length_replicate
  | some b => exact fixedDigits_length _ _ _

theorem entry_length (cells : List TargetCell) (f : Format) (reg : Byte) : (entry cells f reg).length = f.width + 3 := by
  unfold entry
  rw [List.length_map, List.length_append, List.length_append, fixedDigits_length, valueText_length]
  exact Nat.add_comm 3 _

theorem entry_codes (cells : List TargetCell) (f : Format) (reg : Byte) : (entry cells f reg).map Glyph.code =
    [digitCode (reg.toNat / 16), digitCode (reg.toNat % 16), 0x3A] ++ valueText f ((cellAt reg cells).bind TargetCell.value) := by
  have small := reg.isLt
  have sixteens : reg.toNat / 16 % 16 = reg.toNat / 16 := Nat.mod_eq_of_lt (by omega)
  unfold entry
  rw [List.map_map, fixedDigits_two, sixteens]
  exact List.map_id _

theorem mismatches_byte (v : Byte) (e : Expected) : mismatches (v.setWidth 32) e = true ↔ (v ^^^ e.value) &&& e.mask ≠ 0 := by
  unfold mismatches
  rw [← BitVec.setWidth_xor, ← BitVec.setWidth_and, bne_iff_ne]
  refine not_congr ⟨fun zero => ?_, fun zero => by rw [zero]; rfl⟩
  have same := congrArg (BitVec.setWidth 8) zero
  rwa [BitVec.setWidth_setWidth_of_le _ (by decide), BitVec.setWidth_eq] at same

theorem TargetCell.isMismatch_iff (c : TargetCell) : c.isMismatch = true ↔
    ∃ v e, c.value = some v ∧ c.expected = some e ∧ (v ^^^ e.value) &&& e.mask ≠ 0 := by
  unfold TargetCell.isMismatch
  cases c.value <;> cases c.expected <;> simp [mismatches_byte]

theorem entry_mismatch {cells : List TargetCell} {f : Format} {reg : Byte} {g : Glyph} (within : g ∈ entry cells f reg) :
    g.mismatch = true ↔ ∃ c v e, cellAt reg cells = some c ∧ c.value = some v ∧ c.expected = some e ∧ (v ^^^ e.value) &&& e.mask ≠ 0 := by
  obtain ⟨x, _, rfl⟩ := List.mem_map.mp within
  dsimp only
  simp only [Option.any_eq_true, TargetCell.isMismatch_iff, exists_and_left]

/-! ### A METER line (R173) -/

section
variable (m : Meter) (field : MeterField) (f : Format)

/-- A number on a METER line. -/
def Meter.number (v : Word) : List Byte :=
  if f = .time ∧ field ≠ .count ∧ m.config.mode ≠ .count then timeText (4 * v.toNat)
  else if f = .hex then hexadecimal v.toNat else decimal v.toNat

variable {m field f}

theorem Meter.line_some {v : Word} (shown : m.record.shown field = some v) : m.line field f = m.number field f v := by
  unfold Meter.line Meter.number
  rw [shown]
  dsimp only
  rw [countText_eq]
  exact if_congr (by simp only [Meter.isTime, Bool.and_eq_true, beq_iff_eq, bne_iff_ne, and_assoc]) rfl rfl

theorem Meter.line_none (shown : m.record.shown field = none) :
    m.line field f = if field = .last ∧ m.record.status = .overrange then codes ['O', 'V', 'E', 'R'] else dashes := by
  unfold Meter.line
  rw [shown]

/-- The lines of a METER pane, by status and count. -/
theorem Meter.line_cases (m : Meter) (field : MeterField) (f : Format) :
    (m.record.status = .none → m.line field f = dashes) ∧
    (m.record.status = .overrange → m.line .last f = [0x4F, 0x56, 0x45, 0x52]) ∧
    (m.record.status = .valid → field = .last → m.line field f = m.number field f m.record.last) ∧
    (m.record.status ≠ .none → field = .min → m.line field f = if m.record.count = 0 then dashes else m.number field f m.record.min) ∧
    (m.record.status ≠ .none → field = .max → m.line field f = if m.record.count = 0 then dashes else m.number field f m.record.max) ∧
    (m.record.status ≠ .none → field = .count → m.line field f = m.number field f m.record.count) := by
  refine ⟨fun never => ?_, fun beyond => ?_, ?_, ?_, ?_, ?_⟩
  · have shown : m.record.shown field = none := by cases field <;> simp [MeterRecord.shown, never]
    rw [Meter.line_none shown, if_neg fun h => by rw [never] at h; cases h.2]
  · have shown : m.record.shown .last = none := if_neg (by rw [beyond]; decide)
    rw [Meter.line_none shown, if_pos ⟨rfl, beyond⟩]
    rfl
  · rintro valid rfl
    exact Meter.line_some (if_pos valid)
  · rintro some rfl
    split
    · next zero =>
      have shown : m.record.shown .min = none := if_pos (.inr zero)
      rw [Meter.line_none shown, if_neg fun h => by cases h.1]
    · next more => exact Meter.line_some (if_neg (not_or.mpr ⟨some, more⟩))
  · rintro some rfl
    split
    · next zero =>
      have shown : m.record.shown .max = none := if_pos (.inr zero)
      rw [Meter.line_none shown, if_neg fun h => by cases h.1]
    · next more => exact Meter.line_some (if_neg (not_or.mpr ⟨some, more⟩))
  · rintro some rfl
    exact Meter.line_some (if_neg some)

end

/-! ### The content of each subject (R169 to R174) -/

/-- What a pane of one line lays out. -/
theorem oneLine_eq (width : Nat) (cs : List Byte) : oneLine width cs =
    { lines := [cs.map fun x => { code := x, mismatch := false }], cut := decide (width < cs.length), withheld := false } := rfl

theorem targetContent_wide {width long : Nat} {f : Format} {first count : Byte} {r : Record} (length : long = f.width + 3) (wide : width < long)
    (some : 0 < count.toNat) : (targetContent width f first count r).lines = [] ∧ (targetContent width f first count r).cut = true := by
  have flowed := flow_wide (long := f.width + 2) (es := (List.range count.toNat).map fun k => entry r.cells f (byte (first.toNat + k)))
    (fun e within => by
      obtain ⟨k, _, rfl⟩ := List.mem_map.mp within
      exact entry_length _ _ _)
    (by simp [some.ne']) (length ▸ wide)
  exact ⟨congrArg Prod.fst flowed, congrArg Prod.snd flowed⟩

theorem targetContent_fits {width long : Nat} {f : Format} {first count : Byte} {r : Record} (length : long = f.width + 3) (fits : long ≤ width) :
    (targetContent width f first count r).cut = false ∧ (targetContent width f first count r).lines =
      (linesOf ((width + 1) / (long + 1)) ((List.range count.toNat).map fun k => entry r.cells f (byte (first.toNat + k)))).map joined := by
  subst length
  have flowed := flow_fits (long := f.width + 2) (es := (List.range count.toNat).map fun k => entry r.cells f (byte (first.toNat + k)))
    (fun e within => by
      obtain ⟨k, _, rfl⟩ := List.mem_map.mp within
      exact entry_length _ _ _)
    fits [] nofun (Nat.zero_le _)
  exact ⟨congrArg Prod.snd flowed, congrArg Prod.fst flowed⟩

/-- A pane that is not ORPHANED lays out as a LIVE one. -/
theorem State.content_live (s : State) {p : Pane} (owned : p.state ≠ .orphaned) : s.content p = s.content { p with state := .live } := by
  unfold State.content
  cases state : p.state with
  | orphaned => exact absurd state owned
  | free | live => rfl

/-- Settles O49: the content of each subject, the entries of a TARGET pane and the line of a METER pane. -/
theorem paneContent : Obligations.PaneContent := by
  refine ⟨fun s p => ?_, fun cells f reg => ?_, Meter.line_cases⟩
  · intro content line
    refine ⟨fun orphaned => ?_, fun owned => ?_⟩
    · have dashed : s.content p = oneLine p.rect.width dashes := by
        unfold State.content
        rw [orphaned]
      exact dashed
    · have live : content = s.content { p with state := .live } := s.content_live owned
      have shows : ∀ {sub : PaneSubject} {c : Content}, p.subject = sub → s.content { p with state := .live, subject := sub } = c → content = c := by
        rintro _ _ rfl shown
        exact live.trans shown
      refine ⟨fun sub => shows sub rfl, fun m f sub => shows sub rfl, fun q sub => shows sub rfl, fun w sub => shows sub rfl, fun d sub => shows sub rfl,
        fun sub => shows sub rfl, fun h first count i r sub slot record gen => ?_⟩
      intro entries blank long fit
      have laid : content = targetContent p.rect.width p.format first count r := shows sub (by
        unfold State.content
        dsimp only
        rw [Store.reach_of slot record gen])
      have length : long = p.format.width + 3 := by
        cases format : p.format <;> simp only [long, format] <;> rfl
      have entries_length : entries.length = count.toNat := by rw [List.length_map, List.length_range]
      refine ⟨congrArg Content.withheld laid, fun wide some => ?_, fun fits => ?_⟩
      · rw [laid]
        exact targetContent_wide length wide some
      · rw [laid]
        obtain ⟨whole, lines⟩ := targetContent_fits (first := first) (count := count) (r := r) length fits
        refine ⟨whole, lines.trans ?_⟩
        change (linesOf fit entries).map joined = _
        rw [linesOf, List.map_map, entries_length]
        rfl
  · intro digit differs
    have spelled : digit = digitCode := funext fun d => (digitCode_eq d).symm
    clear_value digit
    subst spelled
    exact ⟨entry_codes cells f reg, fun g within => entry_mismatch within⟩

end Sys2Proof.Machine
end

section
/-! The requests of the panel link and of the backlight (R185 to R187, R189). -/

namespace Sys2Proof.Machine

theorem rate?_eq_some {b : Byte} {r : Rate} : rate? b = some r ↔
    (b = 1 ∧ r = .mhz1) ∨ (b = 4 ∧ r = .mhz4) ∨ (b = 8 ∧ r = .mhz8) ∨ (b = 16 ∧ r = .mhz16) := by
  revert b
  cases r <;> decide

theorem yesNo?_beyond {b : Byte} (beyond : 1 < b.toNat) : yesNo? b = none := by
  revert b
  decide

theorem allRows_eq : allRows = 0xFFFF := rfl

theorem State.markRows_all (s : State) : s.markRows allRows = { s with panel := { s.panel with dirty := 0xFFFF } } :=
  congrArg (fun dirty : BitVec 16 => ({ s with panel := { s.panel with dirty } } : State)) BitVec.or_allOnes

theorem Backlight.start_eq (high low : Half) (now : Nat) : Backlight.start high low now =
    { high, low, phaseHigh := decide (high ≠ 0), endsAt := if high ≠ 0 ∧ low ≠ 0 then some (now + high.toNat * 250) else none } := by
  unfold Backlight.start
  by_cases off : high = 0
  · rw [if_pos off, if_neg fun both => both.1 off, decide_eq_false (not_not.mpr off)]
  · by_cases on : low = 0
    · rw [if_neg off, if_pos on, if_neg fun both => both.2 on, decide_eq_true off]
    · rw [if_neg off, if_neg on, if_pos ⟨off, on⟩, decide_eq_true off]
      rfl

section
variable (rate : Byte) (lbusy : Bool) (s : State)

theorem pnlEnable_beyond {on : Byte} (beyond : 1 < on.toNat) : pnlEnable on rate lbusy s = s.refuse .badParam := by
  unfold pnlEnable
  rw [yesNo?_beyond beyond]

theorem pnlEnable_off : pnlEnable 0 rate lbusy s = State.ok { s with panel := s.panel.turnOff } := rfl

theorem pnlEnable_unrated (bad : rate? rate = none) : pnlEnable 1 rate lbusy s = s.refuse .badParam := by
  unfold pnlEnable
  rw [bad]
  rfl

variable {rate} {r : Rate} (rated : rate? rate = some r)
include rated

theorem pnlEnable_rated : pnlEnable 1 rate lbusy s =
    if s.panel.link = .off then (State.panelTest lbusy { s with panel := s.panel.turnOn r }).ok
    else State.ok { s with panel := { s.panel with rate := r } } := by
  unfold pnlEnable
  rw [rated]
  rfl

end

/-- Settles O50: PNL_ENABLE, PNL_RESTART, DISP_REPAINT and BKL_SET. -/
theorem panelRequests : Obligations.PanelRequests := by
  intro on rate high low lbusy s rated
  have names : ∀ {r}, rate? rate = some r ↔ rated r := rate?_eq_some
  have enable : ∀ {t : State}, pnlEnable on rate lbusy s = t → Makes (.pnlEnable on rate lbusy) s t := makes_of_eq (pnlEnable on rate lbusy) rfl
  refine ⟨?_, ?_, ?_, fun lost => ?_, fun kept => ?_, ?_, ?_⟩
  · rintro (beyond | ⟨rfl, unrated⟩)
    · exact enable (pnlEnable_beyond rate lbusy s beyond)
    · exact enable (pnlEnable_unrated rate lbusy s (Option.eq_none_iff_forall_ne_some.mpr fun r named => unrated r (names.mp named)))
  · rintro rfl
    exact enable (pnlEnable_off rate lbusy s)
  · rintro rfl r named
    have switched := pnlEnable_rated lbusy s (names.mpr named)
    exact ⟨fun off => enable (switched.trans (if_pos off)), fun running => enable (switched.trans (if_neg running))⟩
  · exact makes_of_eq (pnlRestart lbusy) rfl (if_pos lost)
  · exact makes_of_eq (pnlRestart lbusy) rfl (if_neg kept)
  · exact makes_of_eq (dispRepaint lbusy) rfl (congrArg (fun t : State => (t.panelTest lbusy).ok) s.markRows_all)
  · exact makes_of_eq (bklSet high low) rfl (congrArg (fun backlight : Backlight => State.ok { s with backlight }) (Backlight.start_eq high low _))

end Sys2Proof.Machine
end

section
/-! The events of the panel link and of the backlight, and a burst on the link's lines (R179, R181, R182, R184, R189). -/

namespace Sys2Proof.Machine

/-! ### The test for a burst (R181, R182) -/

theorem lowest?_eq_some {n : Nat} {m : BitVec n} {i : Fin n} :
    lowest? m = some i ↔ m.getLsbD i = true ∧ ∀ j : Fin n, j < i → m.getLsbD j = false := by
  unfold lowest?
  rw [← Fin.find?_eq_find?_finRange, Fin.find?_eq_some_iff]

/-- The state in which the burst of a row has started. -/
def State.sends (s : State) (row : Fin 16) : State := { s with
  panel := { s.panel with
    link := .sending, wait := none, dirty := s.panel.dirty &&& ~~~ BitVec.twoPow 16 row
    burst := some { row, cells := s.display.grid[row], rate := s.panel.rate, endsAt := s.clock.now + 648 * 250 / s.panel.rate.mhz } } }

theorem State.startBurst_sends {s : State} {row : Fin 16} (lowest : lowest? s.panel.dirty = some row) : s.startBurst = s.sends row := by
  unfold State.startBurst
  rw [lowest]
  rfl

section
variable {s : State} {row : Fin 16}

theorem State.panelTest_sends (idle : s.panel.link = .idle) (lowest : lowest? s.panel.dirty = some row) :
    s.panelTest false = (s.setLbusy false).sends row := by
  obtain ⟨set, -⟩ := lowest?_eq_some.mp lowest
  rw [State.panelTest_low s idle (mask_ne_zero.mpr ⟨row, set⟩)]
  exact State.startBurst_sends (s := s.setLbusy false) lowest

theorem lbusyLow_waiting (waiting : s.panel.link = .waiting) (lowest : lowest? s.panel.dirty = some row) :
    lbusyLow s = (s.setLbusy false).sends row :=
  (if_pos waiting).trans (State.startBurst_sends (s := s.setLbusy false) lowest)

end

/-! ### The end of a burst, of the wait and of a phase -/

section
variable {s : State}

theorem burstEnd_sending (lbusy : Bool) {b : Burst} (sending : s.panel.link = .sending) (burst : s.panel.burst = some b) :
    burstEnd lbusy s = State.panelTest lbusy { s.advance b.endsAt with panel := { s.panel with link := .idle, burst := none } } := by
  unfold burstEnd
  rw [sending, burst]
  rfl

theorem burstEnd_idle (lbusy : Bool) (idle : s.panel.link ≠ .sending ∨ s.panel.burst = none) : burstEnd lbusy s = s := by
  unfold burstEnd
  split
  · next sending burst => exact absurd sending (idle.resolve_right fun none => nomatch none.symm.trans burst)
  · rfl

theorem waitExpiry_waiting {t : Nat} (waiting : s.panel.link = .waiting) (wait : s.panel.wait = some t) :
    waitExpiry s = State.raisePanelLost { s.advance t with panel := { s.panel with link := .lost, wait := none } } := by
  unfold waitExpiry
  rw [waiting, wait]
  rfl

theorem waitExpiry_idle (idle : s.panel.link ≠ .waiting ∨ s.panel.wait = none) : waitExpiry s = s := by
  unfold waitExpiry
  split
  · next waiting wait => exact absurd waiting (idle.resolve_right fun none => nomatch none.symm.trans wait)
  · rfl

theorem backlightPhaseExpiry_running {t : Nat} (ends : s.backlight.endsAt = some t) :
    backlightPhaseExpiry s = { s.advance t with backlight := s.backlight.flip t } := by
  unfold backlightPhaseExpiry
  rw [ends]

theorem backlightPhaseExpiry_still (none : s.backlight.endsAt = none) : backlightPhaseExpiry s = s := by
  unfold backlightPhaseExpiry
  rw [none]

end

/-! ### The bytes and bits of a burst (R182, R219) -/

theorem flatMap_pairs_length {α β : Type} (f g : α → β) (xs : List α) : (xs.flatMap fun x => [f x, g x]).length = 2 * xs.length := by
  simp [List.length_flatMap, Nat.mul_comm]

theorem flatMap_pairs_get {α β : Type} (f g : α → β) (xs : List α) (k : Nat) :
    (xs.flatMap fun x => [f x, g x])[2 * k]? = xs[k]?.map f ∧ (xs.flatMap fun x => [f x, g x])[2 * k + 1]? = xs[k]?.map g := by
  induction xs generalizing k with
  | nil => exact ⟨rfl, rfl⟩
  | cons x xs ih =>
    rw [List.flatMap_cons]
    cases k with
    | zero => exact ⟨rfl, rfl⟩
    | succ k => exact ih k

theorem bitsOf_length (bytes : List Byte) : (bitsOf bytes).length = 8 * bytes.length := by
  simp [bitsOf, List.length_flatMap, Nat.mul_comm]

section
variable (b : Burst)

theorem Burst.bytes_length : b.bytes.length = 81 := by
  have pairs := flatMap_pairs_length (fun x : GridCell => sentCode x.code) (fun x => x.attr.code) b.cells.toList
  rw [Vector.length_toList] at pairs
  exact congrArg (· + 1) pairs

/-- The two bytes of a column (R219). -/
theorem Burst.bytes_get (c : Fin 40) : b.bytes[2 * c.val + 1]? = some (sentCode b.cells[c].code) ∧ b.bytes[2 * c.val + 2]? = some b.cells[c].attr.code := by
  have pairs := flatMap_pairs_get (fun x : GridCell => sentCode x.code) (fun x => x.attr.code) b.cells.toList c
  have cell : b.cells.toList[c.val]? = some b.cells[c] := by simp
  rw [cell] at pairs
  exact pairs

theorem Burst.bits_length : b.bits.length = 648 := (bitsOf_length _).trans (by rw [b.bytes_length])

/-! ### The lines over a burst (R179, R182) -/

variable {b} {start : Nat} (ends : b.endsAt = start + b.rate.burstTime)
include ends

theorem Burst.bitAt_eq (now : Nat) : b.bitAt now = (now - start) * b.rate.mhz / 250 := by
  have first : b.endsAt - b.rate.burstTime = start := by omega
  unfold Burst.bitAt
  rw [first]
  rfl

theorem Burst.phase_eq (now : Nat) : b.phase now = (now - start) * b.rate.mhz % 250 := by
  have first : b.endsAt - b.rate.burstTime = start := by omega
  unfold Burst.phase
  rw [first]
  rfl

theorem Burst.bitAt_lt {now : Nat} (during : now < b.endsAt) : b.bitAt now < 648 := by
  have within : (now - start) * b.rate.mhz < 648 * 250 := by
    have pos : 0 < b.rate.mhz := by cases b.rate <;> decide
    have early : now - start < 648 * 250 / b.rate.mhz := by
      have time : b.rate.burstTime = 648 * 250 / b.rate.mhz := rfl
      rw [ends, time] at during
      have some : 0 < 648 * 250 / b.rate.mhz := by cases b.rate <;> decide
      omega
    exact (Nat.mul_lt_mul_of_pos_right early pos).trans_le (Nat.div_mul_le_self _ _)
  rw [Burst.bitAt_eq ends]
  omega

end

section
variable {s : State}

theorem State.lines_still (still : s.panel.link ≠ .sending) : s.lsel = false ∧ s.lsck = Config.lsckIdle ∧ s.ldat = Config.ldatIdle := by
  have none : s.panel.sending = none := if_neg still
  refine ⟨beq_eq_false_iff_ne.mpr still, ?_, ?_⟩
  · unfold State.lsck
    rw [none]
    rfl
  · unfold State.ldat
    rw [none]
    rfl

variable {b : Burst} (link : s.panel.link = .sending) (burst : s.panel.burst = some b)
include link burst

theorem State.lsck_eq : s.lsck = if b.clocked s.clock.now = true then !Config.lsckIdle else Config.lsckIdle := by
  have sending : s.panel.sending = some b := (if_pos link).trans burst
  unfold State.lsck
  rw [sending]
  rfl

theorem State.lsck_away : s.lsck ≠ Config.lsckIdle ↔ b.clocked s.clock.now = true := by
  rw [State.lsck_eq link burst]
  split
  · next away => exact iff_of_true (by simp) away
  · next still => exact iff_of_false (fun away => away rfl) still

theorem State.ldat_bit {bit : Nat} (place : b.bitAt s.clock.now = bit) (within : bit < 648) : b.bits[bit]? = some s.ldat := by
  have sending : s.panel.sending = some b := (if_pos link).trans burst
  have ldat : s.ldat = b.bits[bit]?.getD Config.ldatIdle := by
    unfold State.ldat
    rw [sending, ← place]
    rfl
  rw [ldat, List.getElem?_eq_getElem (by rw [b.bits_length]; exact within)]
  rfl

theorem State.lsck_phase {start : Nat} (ends : b.endsAt = start + b.rate.burstTime) (during : s.clock.now < b.endsAt) :
    s.lsck = if b.rate.pulseStart ≤ (s.clock.now - start) * b.rate.mhz % 250 ∧ (s.clock.now - start) * b.rate.mhz % 250 < b.rate.pulseEnd
      then !Config.lsckIdle else Config.lsckIdle := by
  rw [State.lsck_eq link burst]
  refine if_congr ?_ rfl rfl
  rw [Burst.clocked, decide_eq_true_iff, Burst.phase_eq ends]
  exact and_iff_right (Burst.bitAt_lt ends during)

end

/-- The runs of LSCK in a burst, one to each bit period. -/
theorem Burst.run_bounds (r : Rate) (start k : Nat) :
    start * r.mhz + 250 * k ≤ (start + r.sampleAt k r.pulseStart) * r.mhz ∧
    start + r.sampleAt k r.pulseStart < start + r.sampleAt k r.pulseEnd ∧
    (start + r.sampleAt k r.pulseEnd - 1) * r.mhz < start * r.mhz + 250 * (k + 1) ∧
    start + r.sampleAt k r.pulseEnd < start + r.sampleAt (k + 1) r.pulseStart := by
  obtain ⟨first, some, last, apart⟩ := r.runs_apart k
  have before : start + r.sampleAt k r.pulseEnd - 1 = start + (r.sampleAt k r.pulseEnd - 1) := by omega
  refine ⟨?_, Nat.add_lt_add_left some _, ?_, Nat.add_lt_add_left apart _⟩
  · rw [Nat.add_mul]
    exact Nat.add_le_add_left first _
  · rw [before, Nat.add_mul]
    exact Nat.add_lt_add_left last _

/-- Settles O51: the test for a burst, the events of the link and of the backlight, the bytes and bits of a burst and its lines. -/
theorem panelEvents : Obligations.PanelEvents := by
  refine ⟨fun lbusy s row => ?_, ⟨rfl, rfl, rfl, rfl⟩, fun lbusy s => ⟨fun b sending burst => ?_, fun idle => ?_, fun t waiting wait => ?_, fun idle => ?_,
      fun t ends => ?_, fun none => ?_⟩, fun b => ⟨b.bytes_length, rfl, b.bytes_get, b.bits_length, fun k within => bitsOf_get b.bytes k (by rw [b.bytes_length]; exact within)⟩, Rate.pulse_bounds,
    fun s => ⟨State.lines_still, fun b start sending burst ends since during => ?_⟩, fun b start ends => ?_⟩
  · intro lowest sends
    refine ⟨?_, ?_, fun quiet => ?_, fun waiting low => ?_, fun other => ?_⟩
    · rintro idle rows rfl
      exact State.panelTest_high s idle rows
    · rintro idle low rfl
      exact State.panelTest_sends idle (lowest?_eq_some.mpr low)
    · exact State.panelTest_quiet lbusy s fun both => quiet.elim (· both.1) both.2
    · exact makes_of_eq lbusyLow rfl (lbusyLow_waiting waiting (lowest?_eq_some.mpr low))
    · exact makes_of_eq lbusyLow rfl (if_neg other)
  · exact makes_of_eq (burstEnd lbusy) rfl (burstEnd_sending lbusy sending burst)
  · exact exec_of_unchanged (burstEnd lbusy) rfl (burstEnd_idle lbusy idle)
  · refine makesSome_of_take waitExpiry rfl ?_
    rw [waitExpiry_waiting waiting wait]
    have lost := State.raisePanelLost_upTo { s.advance t with panel := { s.panel with link := .lost, wait := none } }
    exact ⟨State.derive_derived _, State.derive_watches _, lost⟩
  · exact exec_of_unchanged waitExpiry rfl (waitExpiry_idle idle)
  · exact makes_of_eq backlightPhaseExpiry rfl (backlightPhaseExpiry_running ends)
  · exact exec_of_unchanged backlightPhaseExpiry rfl (backlightPhaseExpiry_still none)
  · intro phase
    have bit := Burst.bitAt_eq ends s.clock.now
    exact ⟨beq_iff_eq.mpr sending, State.ldat_bit sending burst bit (bit ▸ Burst.bitAt_lt ends during), State.lsck_phase sending burst ends during⟩
  · refine ⟨fun k => start + b.rate.sampleAt k b.rate.pulseStart, fun k => start + b.rate.sampleAt k b.rate.pulseEnd,
      fun k _ => Burst.run_bounds b.rate start k, fun s sending burst since => ?_⟩
    rw [State.lsck_away sending burst]
    exact Burst.clocked_iff_run b start _ ends since

end Sys2Proof.Machine
end
